-- ==== Sys2Proof/Word.lean ====
section
/-!
DEFINITION. Word.lean: bytes, words, the index types of the device's units, and the operand
records a command of the block carries (what the device reads from a wire, a link or host memory).
-/
namespace Sys2Proof

abbrev Byte := BitVec 8
abbrev Half := BitVec 16
abbrev Word := BitVec 32
abbrev Dword := BitVec 64

/-- Sensor port P0-P3 (04). -/
abbrev PortId := Fin 4
/-- Sync group 0-3 (02 R52). -/
abbrev GroupId := Fin 4
/-- Isle 0-3. -/
abbrev IsleId := Fin 4
/-- Tap T0-T7 of an Isle (07). -/
abbrev TapId := Fin 8
/-- Lanes I0-I31 as 0-31 and O0-O3 as 32-35 (03 R103). -/
abbrev LaneId := Fin 36
/-- Axis 0-7 (17). -/
abbrev AxisId := Fin 8
/-- Customer core C0 or C1 (19). -/
abbrev CoreId := Fin 2
/-- Display head D0-D3 (15). -/
abbrev HeadId := Fin 4
/-- Audio port A0-A3 (16). -/
abbrev AudId := Fin 4
/-- Network port N0 or N1 (14). -/
abbrev NetId := Fin 2
/-- Media port M0 or M1 (13). -/
abbrev MediaId := Fin 2
/-- Encode engine ENC0-ENC7 (08). -/
abbrev EncEng := Fin 8
/-- Decode engine DEC0-DEC1 (10). -/
abbrev DecEng := Fin 2
/-- Thermal sensor TS0-TS23 (21 R517). -/
abbrev TsId := Fin 24

/-- `n` bytes of `l` from byte `off`, little-endian, as a number (00 R5); bytes past the end read 0. -/
def leNat : List Byte → Nat
  | [] => 0
  | b :: bs => b.toNat + 256 * leNat bs

/-- The `n`-byte little-endian form of a number (00 R5). -/
def toLE : Nat → Nat → List Byte
  | 0, _ => []
  | n + 1, v => BitVec.ofNat 8 v :: toLE n (v / 256)

/-- A 64-byte submission entry (02 R44), with what the device reads through its pointers:
the data buffer (at most DATA_LEN bytes), the descriptors at BDL_PTR (02 R53: ADDR, LEN, the reserved
dword), the metadata buffer, and the bytes covered by the descriptor list of a ring that the data
structure names. -/
structure Sqe where
  opcode   : Byte
  flags    : Byte
  cid      : Half
  handle   : Word
  metaPtr  : Dword
  bdlPtr   : Dword
  dataLen  : Word
  bdlCount : Half
  rsvd     : Half
  /-- CDW8-CDW15, bytes 32-63 of the entry, byte 32 in bits [7:0]. -/
  body     : BitVec 256
  data     : List Byte
  bdl      : List (Dword × Word × Word)
  metaData : List Byte
  ringBytes : Nat
deriving DecidableEq, Repr, Inhabited

/-- One 132-bit block as a lane receives it: the levels of its symbols, the first sent first, 132 of two levels at NRZ
rates and 66 of four at PAM4 (03 R79). -/
abbrev Blk := List Nat

/-- One block time of a port: the block of each physical lane of its width (03 R81). -/
abbrev BlkTime := List Blk

/-- What one lane receives in the block time in which a COMMA is due, and when its last bit arrives, in ps from any origin
common to the lanes (03 R84, R88). -/
structure CommaRx where
  blk       : Blk
  arrivalPs : Nat
deriving DecidableEq, Repr, Inhabited

/-- A Smiwald packet taken from the stream S: every byte of it, and whether any came in a data block time
marked in error (03 R81, 04 R112). -/
structure Pkt where
  bytes    : List Byte
  blockErr : Bool
deriving DecidableEq, Repr, Inhabited

/-- One block of a Holm Raw tile as the engine chose to code it (09 R263): MODE 0 CODED with
QI and K, 1 FLAT, 2 RAW. The choice is the engine's own (09 R264). -/
structure HolmChoice where
  mode : Nat
  qi   : Nat
  k    : Nat
deriving DecidableEq, Repr, Inhabited

/-- A prediction of a block of a picture from a reference picture (08 R237, R243): the block in luma samples, the frame it
predicts from, and its vector, in quarter samples for HEVC and eighths for AV1. -/
structure BlockPred where
  x   : Nat
  y   : Nat
  w   : Nat
  h   : Nat
  ref : Nat
  mx  : Int
  my  : Int
deriving DecidableEq, Repr, Inhabited

/-- What the parameter sets of a stream say (08 R227-R230, R239): profile, tier and level; the picture with its padding to
multiples of 8, and the conformance window or frame size; chroma format (1 4:2:0, 2 4:2:2, 3 4:4:4) and bit depth; colour
codes of H.273 and the range flag; the tiles; the references and reordering; and the HRD, its rate in kbit/s and its size. -/
structure StreamParams where
  av1      : Bool
  profile  : Nat
  tier     : Nat
  level    : Nat
  codedW   : Nat
  codedH   : Nat
  width    : Nat
  height   : Nat
  chroma   : Nat
  depth    : Nat
  primaries : Nat
  transfer : Nat
  matrix   : Nat
  fullRange : Bool
  columns  : List Nat
  tileRows : Nat
  rateNum  : Nat
  rateDen  : Nat
  nref     : Nat
  reorder  : Nat
  hrd      : Option (Nat × Nat)
deriving DecidableEq, Repr, Inhabited

/-- A CTU or superblock as its engine has it (08 R240, R241): the bits of its normal coding and of its floor coding, the QP
that the rate model chose, and its predictions, none where it is intra. -/
structure CtuCode where
  bits  : List Bool
  floor : List Bool
  qp    : Nat
  preds : List BlockPred
deriving DecidableEq, Repr, Inhabited

/-- A CTU row of an engine's tile column: the bits of the slice header or tile start that begins it, none where none begins,
and its CTUs (08 R232, R241). -/
structure RowCode where
  header : List Bool
  ctus   : List CtuCode
deriving DecidableEq, Repr, Inhabited

/-- The search of a block's motion: the winner at quarter resolution, and the steps around it at half and at full resolution
(08 R237). -/
structure FieldVec where
  quarter : Int × Int
  half    : Int × Int
  full    : Int × Int
deriving DecidableEq, Repr, Inhabited

/-- What the sequence of a coded picture says: an SPS of H.265 or a sequence header of AV1 (10 R279, R290). -/
structure SeqHead where
  /-- luma samples -/
  width   : Nat
  height  : Nat
  /-- chroma format, 0 for none, 1 4:2:0, 2 4:2:2, 3 4:4:4 -/
  chroma  : Nat
  depthY  : Nat
  depthC  : Nat
  /-- general_profile_idc, or seq_profile -/
  profile : Nat
  /-- of H.265, the general constraint flags from max_12bit on, most significant first -/
  limits  : List Bool
  /-- general_level_idc, or seq_level_idx -/
  level   : Nat
  /-- a tool outside every profile that R279 accepts -/
  extra   : Bool
  /-- pool pictures the stream needs, the current one among them -/
  pool    : Nat
  /-- of H.265: pictures that may wait for output, and for how many pictures, 0 without a bound -/
  reorder : Nat
  latency : Nat
  /-- of H.265: bits of the POC that a slice carries -/
  pocBits : Nat
  /-- of AV1: enable_order_hint -/
  hints   : Bool
  /-- log2 of the CTU or superblock size -/
  unit    : Nat
  /-- film grain parameters may be present -/
  grain   : Bool
deriving DecidableEq, Repr, Inhabited

/-- A part of a coded picture that an engine decodes from a start of its own: a slice segment up to its first tile entry
point, or a tile (10 R291). -/
structure PartHead where
  /-- first CTU or superblock, in the order of the tiles -/
  start   : Nat
  /-- decoding may go on here after an error: an independent slice segment, or a tile whose slice header or tile group is intact -/
  restart : Bool
  /-- which of the picture's units holds it, from which byte, and how many bytes -/
  unit    : Nat
  off     : Nat
  len     : Nat
deriving DecidableEq, Repr, Inhabited

/-- What the headers of a coded picture say (10 R290, R291, R293). -/
structure PicHead where
  seq      : SeqHead
  /-- luma samples of the picture -/
  width    : Nat
  height   : Nat
  /-- left, right, top and bottom: the conformance window, or what render size leaves (R280) -/
  crop     : List Nat
  /-- 0 intra alone, 1 P, 2 B -/
  kind     : Nat
  /-- of H.265: POC lsb; of AV1: order hint -/
  poc      : Nat
  /-- of H.265: pic_output_flag; of AV1: show_frame -/
  shown    : Bool
  /-- of H.265: no_output_of_prior_pics_flag -/
  noPrior  : Bool
  /-- of H.265: the short-term RPS, POC deltas with used_by_curr_pic, those before it first -/
  short    : List (Int × Bool)
  /-- of H.265: the long-term RPS, POC or its lsb, whether whole, and used_by_curr_pic -/
  long     : List (Nat × Bool × Bool)
  /-- of AV1: frame_type -/
  ftype    : Nat
  /-- of AV1: show_existing_frame's slot -/
  existing : Option Nat
  /-- of AV1: refresh_frame_flags -/
  refresh  : Nat
  /-- of AV1: the slots of the references, and the order hint that the header gives a slot -/
  slots    : List Nat
  refHints : List (Nat × Nat)
  /-- widths and heights of the tiles, in CTUs or superblocks -/
  columns  : List Nat
  rows     : List Nat
  parts    : List PartHead
deriving DecidableEq, Repr, Inhabited

/-- What the NVMe controller of a medium reports at initialisation (13 R342-R345). -/
structure MediumInfo where
  linkRate  : Nat
  linkWidth : Nat
  lbs       : Nat
  mdSize    : Nat
  pi64      : Bool
  nsid      : Nat
  nsze      : Nat
  mdts      : Nat
  tempK     : Nat
  sn        : List Byte
  mn        : List Byte
  fr        : List Byte
deriving DecidableEq, Repr, Inhabited

/-- The result of one NVMe Read of MEDIA_READ (13 R358, R359): the blocks read, the first of them that was
not recovered or failed its guard, and whether a guard failed. -/
structure ReadResult where
  blocks   : List (List Byte)
  failedAt : Option Nat
  guardErr : Bool
deriving DecidableEq, Repr, Inhabited

/-- An event message as the MAC measures it (14 R375): the instant at its measuring point in 1/8 ns of time-unit time, and the
variable correction from its place in the codeword and the alignment-marker schedule, in 2^-16 ns. -/
structure MacStamp where
  eighths  : Nat
  vary     : Nat
deriving DecidableEq, Repr, Inhabited

/-- The variable correction is at most 51.2 ns (14 R375). -/
def MacStamp.ok (m : MacStamp) : Bool := decide (m.vary ≤ 3355443)

/-- The instant at the ball, 2^-16 ns (14 R375): on egress the measured instant plus 61.25 ns and the variable correction. -/
def MacStamp.egress (m : MacStamp) : Int := m.eighths * 8192 + 4014080 + m.vary

/-- On ingress the measured instant less 154.50 ns and the variable correction. -/
def MacStamp.ingress (m : MacStamp) : Int := m.eighths * 8192 - 10125312 - m.vary

/-- A PTP message with the fields the device uses (14 R370-R377). Times in units of 2^-16 ns. -/
structure PtpMsg where
  port      : NetId
  domain    : Nat
  seqId     : Nat
  twoStep   : Bool
  /-- as the MAC measures its arrival -/
  mac       : MacStamp
  /-- it was sent to the device's own unicast address -/
  toUs      : Bool
  origin    : Int
  correction : Int
  gmId      : Nat
  parentId  : Nat
  stepsRemoved : Nat
  priority1 : Nat
  clockClass : Nat
  accuracy  : Nat
  variance  : Nat
  priority2 : Nat
deriving DecidableEq, Repr, Inhabited

/-- Its ingress stamp at the ball, 2^-16 ns (14 R375). -/
def PtpMsg.stamp (m : PtpMsg) : Int := m.mac.ingress

/-- A received Ethernet frame as the MAC classes it (14 R365, R366). -/
structure EthFrame where
  bytes     : List Byte
  fcsOk     : Bool
  toUs      : Bool
  multicast : Bool
  ptpEvent  : Bool
  /-- it also matches a receive flow or a PTP address, whose own row counts it -/
  taken     : Bool
deriving DecidableEq, Repr, Inhabited

/-- An RTP packet of a receive flow (14 R383): which port, its sequence number, its stamp, its
marker, its payload. -/
structure RtpPkt where
  port    : NetId
  seq     : Nat
  stamp   : Nat
  marker  : Bool
  payload : List Byte
deriving DecidableEq, Repr, Inhabited

/-- What a port receives of one slot or microphone in one frame (16 R412-R414): the bits of a TDM slot as a number, first bit
highest, or of a PDM channel the bit density that the decimation filter averages, as a ratio. -/
inductive AudIn where
  | slot (word : Nat)
  | density (ones bits : Nat)
deriving DecidableEq, Repr, Inhabited

/-- A frame that a port receives: what each slot or channel holds, lowest first. -/
abbrev AudFrame := List AudIn

/-- A playback slot as the device reads it from host memory (16 R424, R426). -/
structure PlaySlot where
  seq      : Nat
  busy     : Bool
  frames   : Nat
  channels : Nat
  mask     : Nat
  samples  : List (List Int)
  /-- instant at which the host made it valid, time-unit ns -/
  at'      : Nat
deriving DecidableEq, Repr, Inhabited

/-- What the feedback inputs of an axis show at a grid sample (17 R439-R445): the quadrature or
hall levels, the SINCOS ADC codes, the reference mark, and whether the fault conditions of R439 hold. -/
structure AxisIn where
  a : Bool
  b : Bool
  z : Bool
  /-- hall levels U, V, W on A, B, Z -/
  sinC : Int
  cosC : Int
  /-- edges of the INCR or HALL decoder since the last sample, signed -/
  edges : Int
  illegal : Nat
deriving DecidableEq, Repr, Inhabited

/-- One serial encoder read (17 R439) as its bits arrived: the code, nE and nW of BiSS-C, and its check bits, the CRC-6 of
BiSS-C or the parity bit of SSI; and the instant of its first clock edge. -/
structure EncRead where
  code  : Nat
  nE    : Bool
  nW    : Bool
  chk   : Nat
  /-- BiSS-C: a start bit came within 20 us; SSI: the line was idle before the read -/
  started : Bool
  stampNs : Nat
deriving DecidableEq, Repr, Inhabited

/-- Which frame an exposure latch belongs to: port, frame number, which of the three, its instant in
time-unit ns (04 R122, 17 R448). -/
structure LatchReq where
  port  : PortId
  frame : Nat
  which : Fin 3
  t     : Nat
deriving DecidableEq, Repr, Inhabited

/-- A link frame toward the Skerry as received (17 R436, 18 R466): good CRC on path A and B, the
heartbeat sequence, PERMIT, and the Safety Island's CRC of the safety configuration. -/
structure LinkFrame where
  goodA  : Bool
  goodB  : Bool
  seq    : Nat
  permit : Bool
  cfgCrc : Word
deriving DecidableEq, Repr, Inhabited

/-- Stored bits of an HBM sector that have flipped (12 R325, R326): in its DRAM, the bits that the code corrects, 0 for what
it does not; or in the write-queue entry that holds it. -/
structure Upset where
  /-- address divided by 32 -/
  sec    : Nat
  bits   : Nat
  queued : Bool
deriving DecidableEq, Repr, Inhabited

/-- A word of a port's line store (12 R337, R339): 8 bytes from a byte of a stored line. -/
structure StoreWord where
  port   : Nat
  stream : Nat
  line   : Nat
  byte   : Nat
deriving DecidableEq, Repr, Inhabited

/-- The ECC outcome of the sector that the patrol scrub reads, and what has flipped elsewhere since the row before it (12
R325, R326, R331). -/
structure EccRead where
  corrected     : Nat
  uncorrectable : Bool
  upsets        : List Upset := []
deriving DecidableEq, Repr, Inhabited

/-- The ECC outcome of the Lagoon word that the scrub reads, where that word holds a line, and the words of line stores that
their reader finds with an uncorrectable error: offset and place (12 R338, R339). -/
structure LagRead where
  corrected     : Nat
  uncorrectable : Bool
  holds         : Option StoreWord := none
  reads         : List (Nat × StoreWord) := []
deriving DecidableEq, Repr, Inhabited

/-- Who makes a register access: the host (BAR0, or the MSI-X capability of its configuration space), or customer core 0
or 1. -/
structure RegAccess where
  /-- 0 the host, 1 C0, 2 C1, 3 the host at the MSI-X capability, with `addr` from its start -/
  master : Nat
  addr   : Nat
  /-- bytes: 1, 2, 4 or 8 -/
  size   : Nat
  value  : Dword
deriving DecidableEq, Repr, Inhabited

end Sys2Proof
end

