-- ==== Sys2Proof/Syntax.lean ====
section
/-!
DEFINITION. Syntax.lean: the commands the block takes, one constructor per row of
spec/opcode_table.json, in the table's order. A host command row takes the fetch tag of the
submission entry it executes (notes/assumptions/2.md); an event row takes what the device observes.
-/
namespace Sys2Proof

inductive Instr where
  /-- POWER_ON (R531): The compute-die rails come up; the compute die, the time unit, the Safety Island and the host function reset, and boot begins. -/
  | powerOn
  /-- RST_N (R531): RST_N is held low for at least 1 µs; the compute die, the time unit and the Safety Island reset, and the cause RST_N is recorded. -/
  | rstN
  /-- PLL_LOSS (R14): The root PLL loses lock; the compute die enters hardware reset with cause PLL_LOSS, and the time unit holds until relock. -/
  | pllLoss
  /-- SUPPLY_RESET (R554): A main-group rail stays out of range for 1 ms; the compute die resets with cause SUPPLY. -/
  | supplyReset
  /-- DEBUG_RESET_REQUEST (R531): A reset request from the debug port at level FULL resets the compute die and the Safety Island. -/
  | debugResetRequest
  /-- AON_SUPPLY_LOSS (R554): VDD_AON or VIO2 leaves its range; the compute die is held in reset and time is lost. -/
  | aonSupplyLoss
  /-- BOOT_STAGE_DONE (R536): A boot stage finishes (bank verified, HBM trained, DICE derived, cores started) and the next stage begins, up to the admin pair becoming ready. -/
  | bootStageDone (ok : Bool)
  /-- ADMIN_READY (R43): After the enable and the boot have both finished, HSTS.READY rises and the admin pair is served. -/
  | adminReady
  /-- ADMIN_NOT_READY (R43): HSTS.READY falls after ENABLE is cleared, or after the activation in progress ends. -/
  | adminNotReady
  /-- CONTROLLER_ENABLE (R40): A write of HCTL.ENABLE = 1 reads the admin registers, and sets CFG_ERR if they are invalid. -/
  | controllerEnable
  /-- CONTROLLER_DISABLE (R57): A write of HCTL.ENABLE = 0 stops fetching, loses the outstanding commands and deletes every pair except QP0. -/
  | controllerDisable
  /-- FUNCTION_LEVEL_RESET (R38): A Function Level Reset acts as a controller disable and returns the BAR0 fields, the MSI-X table and the features to reset. -/
  | functionLevelReset
  /-- HOT_RESET (R38): A PCIe hot reset has the effect of an FLR. -/
  | hotReset
  /-- HOST_LINK_DOWN (R38): The host link goes down; this has the effect of an FLR. -/
  | hostLinkDown
  /-- BUS_MASTER_ENABLE_WRITE (R562): A configuration write changes Bus Master Enable; host-bound delivery stops, or resumes and the held completions are posted. -/
  | busMasterEnableWrite (v : Bool)
  /-- HOST_LINK_L0_ENTRY (R37): The host link enters L0 after training or retraining, and the device recomputes the class 0x0B capacity. -/
  | hostLinkL0Entry (rate width : Nat)
  /-- L0P_WIDTH_CHANGE (R37): An L0p width change makes the device recompute the class 0x0B capacity. -/
  | l0pWidthChange (width : Nat)
  /-- PM_D3HOT_ENTRY (R512): The function enters D3hot; fetching and completions stop, and work continues. -/
  | pmD3hotEntry
  /-- PM_D0_RETURN (R512): The function returns from D3hot to D0 with all state kept, and fetching resumes. -/
  | pmD0Return
  /-- SQ_TAIL_DOORBELL (R42): The host writes an SQ tail doorbell; it is checked, and accepted or ignored. -/
  | sqTailDoorbell (qp : Nat) (v : Word)
  /-- CQ_HEAD_DOORBELL (R42): The host writes a CQ head doorbell, which releases completion slots. -/
  | cqHeadDoorbell (qp : Nat) (v : Word)
  /-- MSIX_VECTOR_UNMASK (R67): The host unmasks an MSI-X vector whose pending bit is set; one message is sent and the pending bit clears. -/
  | msixVectorUnmask (vec : Nat)
  /-- REGISTER_WRITE (R39): A write to a register that has no row of its own stores its RW fields, clears its W1C bits or sets its W1S bits. -/
  | registerWrite (w : RegAccess)
  /-- COMMAND_FETCH (R51): The device fetches the next command by priority-class arbitration, once a pair is eligible and a fetch slot is free. -/
  | commandFetch (e : Sqe)
  /-- INT_COALESCE_TIMEOUT (R66): AGG_TIME expires after the first completion since the last trigger, and the CQ vector triggers. -/
  | intCoalesceTimeout (qp : Nat)
  /-- IDENTIFY (R68): IDENTIFY writes the device identity structure. -/
  | identify (t : Nat)
  /-- QP_CREATE (R69): QP_CREATE creates a queue pair. -/
  | qpCreate (t : Nat)
  /-- QP_DELETE (R70): QP_DELETE abandons the pair's outstanding commands and frees the pair. -/
  | qpDelete (t : Nat)
  /-- QP_RESET (R70): QP_RESET abandons the pair's outstanding commands and empties the pair. -/
  | qpReset (t : Nat)
  /-- FEATURE_SET_ARBITRATION (R71): FEATURE_SET FID 0x01 sets the arbitration weights. -/
  | featureSetArbitration (t : Nat)
  /-- FEATURE_SET_INT_COALESCE (R71): FEATURE_SET FID 0x02 sets interrupt coalescing for a pair. -/
  | featureSetIntCoalesce (t : Nat)
  /-- FEATURE_SET_EVENT_CONFIG (R71): FEATURE_SET FID 0x03 enables or disables event classes. -/
  | featureSetEventConfig (t : Nat)
  /-- FEATURE_SET_QP_CLASS (R71): FEATURE_SET FID 0x04 changes a pair's priority class. -/
  | featureSetQpClass (t : Nat)
  /-- FEATURE_SET_MEMORY (R336): FEATURE_SET FID 0x05 sets SCRUB_HOURS, HASH_PRESET and CE_ROW_LIMIT. -/
  | featureSetMemory (t : Nat)
  /-- CORE_LINK_VECTOR (R482): CORE_LINK OP VECTOR sets the MSI-X vector for a customer core's host-bound messages. -/
  | coreLinkVector (t : Nat)
  /-- CORE_LINK_POST (R482): CORE_LINK OP POST delivers 8 bytes to a customer core as HOST_MSG. -/
  | coreLinkPost (t : Nat)
  /-- CORE_LINK_RESTART (R482): CORE_LINK OP RESTART resets a customer core, reloads its TCM and starts it. -/
  | coreLinkRestart (t : Nat)
  /-- CORE_LINK_STOP (R482): CORE_LINK OP STOP holds a customer core in reset. -/
  | coreLinkStop (t : Nat)
  /-- FEATURE_GET (R71): FEATURE_GET returns the values of a feature. -/
  | featureGet (t : Nat)
  /-- LOG_GET (R72): LOG_GET writes a part of a log page. -/
  | logGet (t : Nat)
  /-- ABORT (R73): ABORT abandons the named command if it is still outstanding. -/
  | abort (t : Nat)
  /-- FLUSH (R74): FLUSH is accepted on a pair and waits for every earlier command of that pair. -/
  | flush (t : Nat)
  /-- FLUSH_DONE (R57): Every earlier command of the pair has completed and its data is at its destination, so FLUSH completes. -/
  | flushDone (t : Nat)
  /-- EVENT_ARM (R61): EVENT_ARM waits for an event, or takes the oldest queued event at once. -/
  | eventArm (t : Nat)
  /-- MIRROR_UPDATE (R41): Every 100 µs the Safety Island rewrites the safety and thermal mirror and increments MIRROR_SEQ. -/
  | mirrorUpdate
  /-- LINK_DIAG_STATUS (R104): LINK_DIAG OP STATUS returns a lane's and its port's link state. -/
  | linkDiagStatus (t : Nat)
  /-- LINK_DIAG_COUNTERS (R103): LINK_DIAG OP COUNTERS writes the lane counters. -/
  | linkDiagCounters (t : Nat)
  /-- LINK_DIAG_EYE_SCAN (R105): LINK_DIAG OP EYE_SCAN starts an eye scan on a lane. -/
  | linkDiagEyeScan (t : Nat)
  /-- LINK_DIAG_COUNTER_CLEAR (R103): LINK_DIAG OP COUNTER_CLEAR clears a lane's counters. -/
  | linkDiagCounterClear (t : Nat)
  /-- EYE_SCAN_DONE (R106): An eye scan finishes, or stops as interrupted, and completes with the points written. -/
  | eyeScanDone (t : Nat) (errors : List Nat)
  /-- TRAIN_REQ_TIMER (R86): Every 1 ms in DETECT the device sends TRAIN_REQ, until TRAIN blocks arrive on all lanes. -/
  | trainReqTimer (p : PortId)
  /-- RETRAIN_TIMER (R563): Every 1 ms after a return to TRAIN the device repeats RETRAIN, until TRAIN blocks arrive. -/
  | retrainTimer (p : PortId)
  /-- NO_RESPONSE_TIMEOUT (R563): No TRAIN blocks arrive within 10 ms of the first TRAIN_REQ or RETRAIN; the port enters FAIL with NO_RESPONSE. -/
  | noResponseTimeout (p : PortId)
  /-- FAIL_RETRY (R85): Every 100 ms a port in FAIL restarts bring-up at DETECT. -/
  | failRetry (p : PortId)
  /-- TRAIN_BLOCK_RX (R86): TRAIN blocks arrive; the lanes lock, settle polarity and check lane order, rate and width. -/
  | trainBlockRx (p : PortId) (lanes : List (List Blk))
  /-- ADAPTATION_DONE (R99): An adaptation attempt ends; the port sends TRAIN_DONE, retries, or enters FAIL with LOW_FOM. -/
  | adaptationDone (p : PortId) (foms : List Nat)
  /-- PRESET_ACK (R94): The sensor's PRESET_ACK arrives in an LCTL block during the preset search. -/
  | presetAck (p : PortId) (time : BlkTime) (foms : List Nat)
  /-- PRESET_ACK_TIMEOUT (R94): No PRESET_ACK arrives within 20 µs; TX_PRESET is repeated once, or the search ends. -/
  | presetAckTimeout (p : PortId)
  /-- COMMA_BLOCK_RX (R86): A COMMA block time arrives; it reloads the scrambler and aligns or confirms the lanes. -/
  | commaBlockRx (p : PortId) (lanes : List CommaRx)
  /-- ALIGN_TIMEOUT (R101): ALIGN fails to confirm within 4 comma periods; the port returns to TRAIN. -/
  | alignTimeout (p : PortId)
  /-- LANE_LOCK_LOSS (R101): Invalid headers, missed COMMAs, misaligned COMMAs or an elastic slip move an UP port to ALIGN. -/
  | laneLockLoss (p : PortId) (lane : Nat) (cause : Nat)
  /-- SLEEP_BLOCK_RX (R95): A SLEEP block arrives and the port enters SLEEP_LIGHT or SLEEP_DEEP. -/
  | sleepBlockRx (p : PortId) (times : List BlkTime)
  /-- WAKE_TIMEOUT (R97): No COMMA arrives within 4 comma periods of signal return; WAKE_OVERRUN is counted and the port retrains. -/
  | wakeTimeout (p : PortId) (signalNs : Nat)
  /-- BC_SLEEP_TIMER (R95): No back-channel frame has waited for 20 µs, and the back channel sleeps where this is permitted. -/
  | bcSleepTimer (p : PortId)
  /-- LANE_RECAL_TIMER (R100): Every 10 ms, or after an 8 °C move, a lane calibrates its spare sampler set and swaps it in. -/
  | laneRecalTimer (l : LaneId)
  /-- FOM_MEASURE (R100): Every 10 ms the FOM is measured; three low readings in a row report FOM_WARN. -/
  | fomMeasure (l : LaneId) (fom : Nat)
  /-- PORT_CONFIG (R117): PORT_CONFIG enables or disables a sensor port and starts or stops its link sequencer. -/
  | portConfig (t : Nat)
  /-- GROUP_CONFIG (R119): GROUP_CONFIG sets a sync group's members, trigger source and frame rate. -/
  | groupConfig (t : Nat)
  /-- CAPTURE_START (R127): CAPTURE_START admits and arms a sync group's capture run. -/
  | captureStart (t : Nat)
  /-- CAPTURE_STOP (R130): CAPTURE_STOP ends a run after a frame or at once, and sends CAPTURE_END. -/
  | captureStop (t : Nat)
  /-- CAPTURE_STOP_DONE (R130): The last frame has closed and been presented to the Isle; CAPTURE_STOP completes and the reservations return. -/
  | captureStopDone (g : GroupId)
  /-- FRAME_TRIGGER (R120): At a trigger instant, the device sends FRAME_TRIGGER on every member's back channel and passes the latch instants to the Skerry. -/
  | frameTrigger (g : GroupId) (boundary : Nat)
  /-- GENLOCK_IN_EDGE (R386): A GENLOCK_IN edge is stamped, re-anchors the trigger grids and feeds the GENLOCK servo. -/
  | genlockInEdge (rising : Bool) (stamp : Nat)
  /-- GENLOCK_TIMEOUT (R121): No GENLOCK_IN edge arrives by 10 µs after the expected edge; the group runs free and raises GENLOCK with LOST = 1. -/
  | genlockTimeout (g : GroupId)
  /-- GENLOCK_START_TIMEOUT (R127): Under GENLOCK no edge arrives by S + 1 s, and the capture starts on the free-running grid. -/
  | genlockStartTimeout (g : GroupId)
  /-- SMIWALD_HUNT (R113): A header that fails puts the port into hunt, and each later word is tested as a candidate header. -/
  | smiwaldHunt (p : PortId) (times : List BlkTime)
  /-- FS_PACKET (R125): An FS packet arrives; it is accepted for the awaited frame, closes the previous frame, or is discarded. -/
  | fsPacket (p : PortId) (times : List BlkTime)
  /-- FE_PACKET (R123): An FE packet arrives and closes the frame. -/
  | fePacket (p : PortId) (times : List BlkTime)
  /-- LINE_PACKET (R112): A LINE packet is forwarded to the Isle and the raw buffer, and checked by PCRC and the line check. -/
  | linePacket (p : PortId) (times : List BlkTime)
  /-- EMBEDDED_PACKET (R123): An EMBEDDED packet is kept with the frame, or discarded when in excess. -/
  | embeddedPacket (p : PortId) (times : List BlkTime)
  /-- CTRL_RESP_PACKET (R133): A CTRL_RESP arrives and completes the matching SENSOR_CTRL WRITE or READ. -/
  | ctrlRespPacket (p : PortId) (times : List BlkTime)
  /-- UNKNOWN_TYPE_PACKET (R110): A packet of unknown type is skipped by its LEN and counted. -/
  | unknownTypePacket (p : PortId) (times : List BlkTime)
  /-- LINE_TIMEOUT (R123): No LINE packet of the frame arrives for LINE_TIMEOUT, and the frame closes. -/
  | lineTimeout (p : PortId)
  /-- FS_DEADLINE (R125): The FS deadline passes without an FS, and the member produces a fill frame. -/
  | fsDeadline (p : PortId)
  /-- SENSOR_CTRL_WRITE (R133): SENSOR_CTRL OP WRITE sends REG_WRITE to the sensor. -/
  | sensorCtrlWrite (t : Nat)
  /-- SENSOR_CTRL_READ (R133): SENSOR_CTRL OP READ sends REG_READ to the sensor. -/
  | sensorCtrlRead (t : Nat)
  /-- SENSOR_CTRL_TIMING (R133): SENSOR_CTRL OP TIMING puts new exposure timing in force from APPLY_FRAME. -/
  | sensorCtrlTiming (t : Nat)
  /-- SENSOR_CTRL_COUNTERS (R133): SENSOR_CTRL OP COUNTERS writes the port's capture counters. -/
  | sensorCtrlCounters (t : Nat)
  /-- SENSOR_NO_RESPONSE (R134): No CTRL_RESP arrives within 10 ms; the command completes with SENSOR_NO_RESPONSE. -/
  | sensorNoResponse (p : PortId) (tag : Byte)
  /-- FRAME_FETCH (R138): FRAME_FETCH copies a frame from a raw buffer, or waits for a port's next frame. -/
  | frameFetch (t : Nat)
  /-- FRAME_FETCH_DONE (R139): The awaited frame has been copied and FRAME_FETCH completes. -/
  | frameFetchDone (t : Nat)
  /-- TILE_ROW_START (R135): The Isle starts a through-memory tile row when it can finish before the in-line port's next line. -/
  | tileRowStart (i : IsleId)
  /-- ISLE_FRAME_START (R160): An Isle begins to process a frame; pending shadows and LOOK_SELECTs activate and the tap geometry is checked. -/
  | isleFrameStart (i : IsleId) (p : PortId)
  /-- COMMAND_DEFER_TIMEOUT (R160): A shadow command is still pending 90 ms after fetch, and it completes with DEFERRED = 1. -/
  | commandDeferTimeout (t : Nat)
  /-- ISLE_CONFIG (R156): ISLE_CONFIG writes a front-end context's structure as a shadow copy. -/
  | isleConfig (t : Nat)
  /-- FE_TABLE_LOAD (R159): FE_TABLE_LOAD writes one front-end table as a shadow copy. -/
  | feTableLoad (t : Nat)
  /-- STATS_SUBSCRIBE_START (R166): STATS_SUBSCRIBE with ENABLE = 1 starts a statistics subscription. -/
  | statsSubscribeStart (t : Nat)
  /-- STATS_SUBSCRIBE_STOP (R166): STATS_SUBSCRIBE with ENABLE = 0 ends a subscription after the record in progress. -/
  | statsSubscribeStop (t : Nat)
  /-- STATS_RECORD (R167): A frame's statistics record is written to its slot, with SEQ last and then the MSI-X message. -/
  | statsRecord (i : IsleId) (p : PortId)
  /-- BLEND_GRID_UPDATE (R184): 4,096 PCLK after a frame leaves the front end, the STATS blend grid is updated. -/
  | blendGridUpdate (i : IsleId) (p : PortId)
  /-- CFA_KERNEL_LOAD (R180): CFA_KERNEL_LOAD writes demosaic kernels as a shadow copy. -/
  | cfaKernelLoad (t : Nat)
  /-- COLOUR_LOAD_PARAMS (R199): COLOUR_LOAD OBJECT PARAMS writes a context's colour parameters as a shadow copy. -/
  | colourLoadParams (t : Nat)
  /-- COLOUR_LOAD_BLEND_GRID (R200): COLOUR_LOAD OBJECT BLEND_GRID writes a blend grid as a shadow copy. -/
  | colourLoadBlendGrid (t : Nat)
  /-- COLOUR_LOAD_LOOK (R202): COLOUR_LOAD OBJECT LOOK writes a look slot's inactive bank. -/
  | colourLoadLook (t : Nat)
  /-- COLOUR_LOAD_TAP_OUTPUT (R200): COLOUR_LOAD OBJECT TAP_OUTPUT writes a tap's encoding as a shadow copy. -/
  | colourLoadTapOutput (t : Nat)
  /-- LOOK_SELECT (R204): LOOK_SELECT schedules slot bank swaps and tap routes for a frame start. -/
  | lookSelect (t : Nat)
  /-- TAP_CONFIG_ENABLE (R218): TAP_CONFIG with ENABLE = 1 configures a tap as a shadow copy. -/
  | tapConfigEnable (t : Nat)
  /-- TAP_CONFIG_DISABLE (R218): TAP_CONFIG with ENABLE = 0 disables a tap. -/
  | tapConfigDisable (t : Nat)
  /-- TAP_RING_FRAME_DONE (R220): A tap finishes a frame into its host ring and writes the header last. -/
  | tapRingFrameDone (i : IsleId) (tap : TapId)
  /-- ENC_OPEN (R246): ENC_OPEN admits an encode session on a tap and places it on engines. -/
  | encOpen (t : Nat)
  /-- ENC_RECONFIG (R250): ENC_RECONFIG changes a session's rate, limits or source tap from a frame. -/
  | encReconfig (t : Nat)
  /-- ENC_FORCE (R251): ENC_FORCE applies key, refresh, rate-control or floor actions to a picture. -/
  | encForce (t : Nat)
  /-- ENC_CLOSE (R252): ENC_CLOSE closes a session after the current picture or at once. -/
  | encClose (t : Nat)
  /-- ENC_CLOSE_DONE (R252): The last access unit has been handed to every destination; ENC_CLOSE completes and the reservations return. -/
  | encCloseDone (ses : Nat)
  /-- ENC_PICTURE_DONE (R233): An encode engine completes a BUFFERED picture, which is delivered to its destinations and its status record. -/
  | encPictureDone (ses engine : Nat) (rows : List RowCode)
  /-- ENC_ROW_DONE (R235): A DIRECT session's CTU row completes, and its bytes go to the destinations. -/
  | encRowDone (ses : Nat) (row : RowCode)
  /-- MOTION_FIELD_DONE (R237): The ladder top's motion field for a frame is complete. -/
  | motionFieldDone (ses : Nat) (frame : Nat) (vecs : List FieldVec)
  /-- ENC_PARITY_ERROR (R254): A parity error in an encode engine resets the engine, and the picture in progress fails or is finished in floor mode. -/
  | encParityError (e : EncEng)
  /-- ENC_PICTURE_TIMEOUT (R254): A BUFFERED picture is not complete 50 ms after it became ready, which is an engine fault. -/
  | encPictureTimeout (ses : Nat)
  /-- ENC_ROW_TIMEOUT (R254): A DIRECT row is not complete 4,096 VCLK after its instant, which is an engine fault. -/
  | encRowTimeout (ses : Nat)
  /-- ENC_ENGINE_RESET_DONE (R254): The engine reset ends, and the remaining DIRECT rows are coded in floor mode. -/
  | encEngineResetDone (e : EncEng)
  /-- HOLM_OPEN (R270): HOLM_OPEN admits a Holm Raw session on a port. -/
  | holmOpen (t : Nat)
  /-- HOLM_CLOSE (R273): HOLM_CLOSE closes a Holm Raw session after the current frame or at once. -/
  | holmClose (t : Nat)
  /-- HOLM_CLOSE_DONE (R273): The session's last access unit is complete, and HOLM_CLOSE completes. -/
  | holmCloseDone (ses : Nat)
  /-- HOLM_ROW_DONE (R268): A Holm Raw block row is complete in the bitstream buffer. -/
  | holmRowDone (ses : Nat) (choices : List HolmChoice)
  /-- HOLM_AU_DONE (R268): A Holm Raw access unit is complete and is delivered to its destinations and its record. -/
  | holmAuDone (ses : Nat)
  /-- HOLM_PARITY_ERROR (R275): A parity error in the Holm Raw engine resets it, and the remaining blocks are coded FLAT. -/
  | holmParityError (i : IsleId)
  /-- HOLM_ROW_TIMEOUT (R275): A block row is not complete 4,096 PCLK after its instant, which is an engine fault. -/
  | holmRowTimeout (i : IsleId)
  /-- DEC_OPEN (R284): DEC_OPEN admits a decode session. -/
  | decOpen (t : Nat)
  /-- DEC_SUBMIT (R287): DEC_SUBMIT adds bitstream bytes to a session's input buffer. -/
  | decSubmit (t : Nat)
  /-- DEC_CLOSE (R298): DEC_CLOSE stops decoding and discards the pending pictures. -/
  | decClose (t : Nat)
  /-- DEC_PICTURE_DONE (R290): A decode engine finishes an access unit, with concealment where needed. -/
  | decPictureDone (ses engine : Nat)
  /-- DEC_PICTURE_PRESENT (R295): At P a decoded picture is presented to its destinations and its record is written. -/
  | decPicturePresent (ses : Nat)
  /-- DEC_PARITY_ERROR (R299): A parity error in a decode engine resets it, and the picture in progress is concealed. -/
  | decParityError (e : DecEng)
  /-- DEC_PICTURE_TIMEOUT (R299): An RT1 picture is not complete 50 ms after its deadline, which is an engine fault. -/
  | decPictureTimeout (ses : Nat)
  /-- KAT_EXPECTED_READY (R313): The firmware finishes computing a configuration's expected known-answer value. -/
  | katExpectedReady (i : IsleId) (p : PortId)
  /-- KAT_COMPARE (R313): The known-answer CRC is compared with the expected value, and SELFTEST_FAIL is raised on a mismatch. -/
  | katCompare (i : IsleId) (p : PortId) (crc : Word)
  /-- HBM_REFRESH (R329): A pseudo-channel refreshes a bank at the refresh interval. -/
  | hbmRefresh (pc : Nat) (bank : Nat)
  /-- HBM_TRAINING (R330): Every 100 ms, or after a 5 °C move, a pseudo-channel retrains its timing. -/
  | hbmTraining (pc : Nat) (margin : Nat)
  /-- SCRUB_READ (R331): The patrol scrub reads the next sector, and writes it back or poisons it. -/
  | scrubRead (r : EccRead)
  /-- LAGOON_SCRUB (R338): The Lagoon patrol scrub reads a word, correcting or poisoning it. -/
  | lagoonScrub (r : LagRead)
  /-- LAGOON_REPAIR (R339): The firmware rewrites a poisoned Lagoon table word from its HBM copy. -/
  | lagoonRepair (off : Nat) (copy : Dword)
  /-- BANK_PRESSURE_INTERVAL (R335): At the end of each 100 ms interval, the DF waits are checked and BANK_PRESSURE may be raised. -/
  | bankPressureInterval (waits longest : List Nat)
  /-- MEDIUM_INSERTED (R343): A medium appears on a media port, and link training and initialisation start. -/
  | mediumInserted (m : MediaId)
  /-- MEDIUM_INIT_DONE (R343): Initialisation of a medium ends in READY or FAILED. -/
  | mediumInitDone (m : MediaId) (info : Option MediumInfo)
  /-- MEDIUM_REMOVED (R343): A medium is removed, and the port goes to EMPTY with its commands failed. -/
  | mediumRemoved (m : MediaId)
  /-- MEDIA_LINK_DOWN (R343): A media link goes down, or the controller reports fatal status, and the port goes to FAILED. -/
  | mediaLinkDown (m : MediaId) (fatal : Bool)
  /-- MEDIA_ATTACH_ATTACH (R345): MEDIA_ATTACH OP ATTACH attaches a namespace and creates the I/O queues. -/
  | mediaAttachAttach (t : Nat)
  /-- MEDIA_ATTACH_DETACH (R345): MEDIA_ATTACH OP DETACH flushes the medium and shuts its controller down. -/
  | mediaAttachDetach (t : Nat)
  /-- MEDIA_ATTACH_INFO (R345): MEDIA_ATTACH OP INFO writes the medium information. -/
  | mediaAttachInfo (t : Nat)
  /-- NVME_SHUTDOWN_DONE (R345): The controller reports shutdown complete, or TIMEOUT_MS passes, and DETACH completes. -/
  | nvmeShutdownDone (m : MediaId) (reported : Bool)
  /-- REC_OPEN (R349): REC_OPEN admits a recording session over its sources and media. -/
  | recOpen (t : Nat)
  /-- REC_EXTENTS (R352): REC_EXTENTS queues block extents for a stream. -/
  | recExtents (t : Nat)
  /-- REC_COMMIT (R354): REC_COMMIT flushes the items that are complete in staging. -/
  | recCommit (t : Nat)
  /-- REC_CLOSE (R357): REC_CLOSE drains or discards staging, and writes END items. -/
  | recClose (t : Nat)
  /-- REC_ITEM_READY (R348): An access unit or period becomes a complete item in staging, and is submitted or discarded. -/
  | recItemReady (ses : Nat) (src : Nat)
  /-- NVME_WRITE_DONE (R348): An NVMe Write completes, advancing durability, or fails and is retried. -/
  | nvmeWriteDone (ses : Nat) (m : MediaId) (ok retryable : Bool)
  /-- NVME_FLUSH_DONE (R348): An NVMe Flush completes; committed offsets advance and waiting commits complete. -/
  | nvmeFlushDone (ses : Nat) (m : MediaId) (ok : Bool)
  /-- NVME_TIMEOUT (R355): An NVMe command exceeds TIMEOUT_MS and its stream fails. -/
  | nvmeTimeout (ses : Nat) (m : MediaId)
  /-- COMMIT_TIMER (R348): Every COMMIT_MS the device issues a Flush. -/
  | commitTimer (ses : Nat)
  /-- REC_COMMIT_TIMEOUT (R354): A commit or close is not durable within 100 ms, and completes with COMMIT_PENDING. -/
  | recCommitTimeout (t : Nat)
  /-- MEDIA_READ_BLOCKS (R358): MEDIA_READ MODE BLOCKS reads blocks into the data buffer. -/
  | mediaReadBlocks (t : Nat)
  /-- MEDIA_READ_ITEMS (R358): MEDIA_READ MODE ITEMS delivers recorded items to a decode session. -/
  | mediaReadItems (t : Nat)
  /-- NVME_READ_DONE (R359): An NVMe Read completes; its data is delivered, or the read fails. -/
  | nvmeReadDone (t : Nat) (r : ReadResult)
  /-- NET_CONFIG (R364): NET_CONFIG enables or disables a network port and its addresses. -/
  | netConfig (t : Nat)
  /-- NET_LINK_CHANGE (R390): A network port's link comes up or goes down. -/
  | netLinkChange (n : NetId) (up : Bool) (cause : Nat)
  /-- FIRMWARE_PROTOCOL_RX (R365): An ARP, ICMP or IGMP frame, or an unmatched frame, is answered by the firmware or discarded. -/
  | firmwareProtocolRx (n : NetId) (f : EthFrame) (kind : Nat)
  /-- CHAIN_FORWARD (R366): In chain mode, a received frame is forwarded out of the other port, or dropped when the queue is full. -/
  | chainForward (n : NetId) (f : EthFrame)
  /-- PTP_CONFIG (R371): PTP_CONFIG sets the PTP profile, role, time source and time code, and restarts the servo. -/
  | ptpConfig (t : Nat)
  /-- PTP_SYNC_RX (R375): A Sync is stamped on ingress and feeds the servo, or is corrected and forwarded by the transparent clock. -/
  | ptpSyncRx (m : PtpMsg) (egress : MacStamp)
  /-- PTP_FOLLOW_UP_RX (R376): A Follow_Up gives a two-step master's origin stamp to the servo. -/
  | ptpFollowUpRx (m : PtpMsg)
  /-- PTP_DELAY_REQ_RX (R376): As master, a Delay_Req is stamped and answered with Delay_Resp. -/
  | ptpDelayReqRx (m : PtpMsg) (egress : MacStamp)
  /-- PTP_DELAY_RESP_RX (R373): A Delay_Resp completes a path delay measurement and gives an offset to the servo. -/
  | ptpDelayRespRx (m : PtpMsg)
  /-- PTP_ANNOUNCE_RX (R372): An Announce updates the BMCA comparison of masters. -/
  | ptpAnnounceRx (m : PtpMsg)
  /-- PTP_MANAGEMENT_RX (R370): A Management message is counted and ignored. -/
  | ptpManagementRx (m : PtpMsg)
  /-- PTP_SYNC_TX (R376): As master, at each Sync interval the device sends Sync, and Follow_Up in two-step mode. -/
  | ptpSyncTx (n : NetId) (stamp : MacStamp)
  /-- PTP_ANNOUNCE_TX (R372): As master, at each Announce interval the device sends Announce. -/
  | ptpAnnounceTx (n : NetId)
  /-- PTP_DELAY_REQ_TX (R373): As slave, at each delay interval the device sends Delay_Req. -/
  | ptpDelayReqTx (n : NetId) (stamp : MacStamp)
  /-- SYNC_HOLDOVER_TIMEOUT (R373): Announce timeout, Sync loss or GENLOCK_IN loss puts the servo into HOLDOVER. -/
  | syncHoldoverTimeout (announce : Bool)
  /-- TIME_GET_READ (R388): TIME_GET OP READ returns the time unit and the PTM master time. -/
  | timeGetRead (t : Nat)
  /-- TIME_GET_SET (R388): TIME_GET OP SET steps the time unit to a given value. -/
  | timeGetSet (t : Nat)
  /-- TIME_GET_STATUS (R388): TIME_GET OP STATUS writes the synchronisation status. -/
  | timeGetStatus (t : Nat)
  /-- FLOW_OPEN (R379): FLOW_OPEN admits a send or receive media flow. -/
  | flowOpen (t : Nat)
  /-- FLOW_CLOSE (R384): FLOW_CLOSE closes a flow after the frame in transmission or at once. -/
  | flowClose (t : Nat)
  /-- FLOW_FRAME_TX (R382): At an alignment point plus TRO, a VIDEO or ANC frame starts transmission, or is dropped. -/
  | flowFrameTx (flow : Nat) (t : Nat)
  /-- AUDIO_PACKET_TX (R382): An ST 2110-30 packet leaves once its last sample is in the stream buffer. -/
  | audioPacketTx (flow : Nat) (first : Nat) (frames : List AudFrame)
  /-- RX_FLOW_PACKET (R383): An RTP packet of a receive flow is merged and assembled into access units for the decode session. -/
  | rxFlowPacket (flow : Nat) (k : RtpPkt)
  /-- LTC_IN_FRAME (R387): An LTC_IN frame is received and stamped, and lock is tracked. -/
  | ltcInFrame (code : Dword) (stamp : Nat)
  /-- LTC_IN_LOST (R387): Two LTC frames go missing, and LTC_IN is declared lost. -/
  | ltcInLost
  /-- LTC_OUT_FRAME (R387): At each TC_RATE alignment point the device starts an LTC_OUT frame. -/
  | ltcOutFrame (t : Nat)
  /-- HEAD_CONFIG_ENABLE (R401): HEAD_CONFIG with ENABLE = 1 enables or changes a display head. -/
  | headConfigEnable (t : Nat)
  /-- HEAD_CONFIG_DISABLE (R401): HEAD_CONFIG with ENABLE = 0 disables a head at the end of its frame. -/
  | headConfigDisable (t : Nat)
  /-- HEAD_COMMIT (R403): HEAD_COMMIT stages overlay data and placement changes for a frame start. -/
  | headCommit (t : Nat)
  /-- COMMIT_COPY_DONE (R404): A commit's overlay copy into the back bank completes. -/
  | commitCopyDone (h : HeadId)
  /-- HEAD_FRAME_SELECT (R397): 50 µs before a frame start, the head selects the video frame to show. -/
  | headFrameSelect (h : HeadId) (f : Nat)
  /-- HEAD_FRAME_START (R396): A head's frame starts; ready commits and configuration apply, and static lengthening is decided. -/
  | headFrameStart (h : HeadId)
  /-- SOURCE_GAP (R405): A DIRECT head gets no source frame within a nominal period plus 1 ms, and starts a frame on its own. -/
  | sourceGap (h : HeadId)
  /-- DP_HPD (R393): A DisplayPort HPD event makes the firmware retrain the link. -/
  | dpHpd (out : Fin 2)
  /-- DP_LINK_TRAINED (R402): DP link training ends; video is sent, or withheld if the link is below the reservation. -/
  | dpLinkTrained (out : Fin 2) (rate lanes : Nat)
  /-- AUD_CONFIG_ENABLE (R420): AUD_CONFIG with ENABLE = 1 starts an audio port's clocks, or waits for the external clock. -/
  | audConfigEnable (t : Nat)
  /-- AUD_CONFIG_DISABLE (R420): AUD_CONFIG with ENABLE = 0 runs the clocks for TAIL_MS, then stops them. -/
  | audConfigDisable (t : Nat)
  /-- AUD_ENABLE_DONE (R420): LEAD_MS has passed from the first clock edge, and the enable completes. -/
  | audEnableDone (p : AudId)
  /-- AUD_NO_CLOCK_TIMEOUT (R420): A slave port sees no valid FSYNC within 100 ms; it completes with AUD_NO_CLOCK and enters the lost state. -/
  | audNoClockTimeout (p : AudId)
  /-- AUD_DISABLE_DONE (R420): TAIL_MS has passed and the clocks stop at a frame end, and the disable completes. -/
  | audDisableDone (p : AudId)
  /-- AUD_CLOCK_LOSS (R417): A slave port's BCLK or FSYNC fails, and the port is muted. -/
  | audClockLoss (p : AudId)
  /-- AUD_CLOCK_RESTORED (R417): After 16 correct frames, a slave port's clock counts as restored. -/
  | audClockRestored (p : AudId)
  /-- AUD_STREAM_OPEN (R423): AUD_STREAM OP OPEN admits a capture or playback stream. -/
  | audStreamOpen (t : Nat)
  /-- AUD_STREAM_CLOSE (R428): AUD_STREAM OP CLOSE ends a stream after the period in progress or at once. -/
  | audStreamClose (t : Nat)
  /-- AUD_STREAM_MASK (R427): AUD_STREAM OP MASK changes a capture stream's channel mask at a frame. -/
  | audStreamMask (t : Nat)
  /-- AUD_STREAM_STATUS (R429): AUD_STREAM OP STATUS returns a stream's next sequence number and frame index. -/
  | audStreamStatus (t : Nat)
  /-- AUD_PERIOD_DONE (R425): A capture period completes and is written, or discarded as an overrun. -/
  | audPeriodDone (stream : Nat) (frames : List AudFrame)
  /-- AUD_PLAYBACK_READ (R426): 1 ms before a playback period, the slot is read, and silence is played if it underruns. -/
  | audPlaybackRead (stream : Nat) (slot : PlaySlot)
  /-- AXIS_CONFIG_ENABLE (R458): AXIS_CONFIG with ENABLE = 1 configures and restarts an axis. -/
  | axisConfigEnable (t : Nat)
  /-- AXIS_CONFIG_DISABLE (R458): AXIS_CONFIG with ENABLE = 0 turns an axis off with its outputs low and its brake engaged. -/
  | axisConfigDisable (t : Nat)
  /-- AXIS_CONFIG_TIMEOUT (R458): An axis is not VALID 10 ms after enable, and the command completes with AXIS_NO_FEEDBACK. -/
  | axisConfigTimeout (a : AxisId)
  /-- AXIS_GRID_SAMPLE (R435): Every 500 ns each enabled axis is sampled; speed is computed and the safety limits are checked. -/
  | axisGridSample (a : AxisId) (x : AxisIn)
  /-- ENCODER_READ_DONE (R439): A BiSS-C or SSI read ends, and the counter is updated or a serial error is counted. -/
  | encoderReadDone (a : AxisId) (r : EncRead)
  /-- AXIS_INDEX (R442): The index condition is entered; INDEX_POS is latched and the drift check runs. -/
  | axisIndex (a : AxisId) (t : Nat)
  /-- AXIS_FAULT (R447): A feedback fault condition completes its detection time; VALID clears and the counter holds. -/
  | axisFault (a : AxisId) (cause : Nat)
  /-- AXIS_FAULT_CLEAR (R447): A fault condition has been absent for 1 ms, and VALID returns. -/
  | axisFaultClear (a : AxisId)
  /-- LATCH_INSTANT_RX (R448): A latch instant arrives at the Skerry and is held open, or resolves the oldest latch when 24 are open. -/
  | latchInstantRx (a : AxisId) (r : LatchReq)
  /-- LATCH_RESOLVE (R449): A latch is resolved by interpolating the grid samples around its instant. -/
  | latchResolve (a : AxisId)
  /-- SKERRY_LINK_FRAME (R466): A link frame reaches the Skerry; configuration, commands, PERMIT and the heartbeat are applied. -/
  | skerryLinkFrame (f : LinkFrame)
  /-- COMPUTE_LINK_FRAME (R436): A link frame reaches the compute die with samples, flags and latch results. -/
  | computeLinkFrame (goodA goodB : Bool)
  /-- LINK_PATH_CHANGE (R467): A barrier link path goes down or comes up, and SAFETY_PATH is raised. -/
  | linkPathChange (pathB up : Bool)
  /-- POS_SNAPSHOT_LOAD (R456): A load of POSITION captures the position, stamp and speed into the core's snapshot. -/
  | posSnapshotLoad (c : CoreId) (a : AxisId)
  /-- POS_PRESET_WRITE (R441): A store to PRESET loads the counter at the next grid sample, or faults on a monitored axis. -/
  | posPresetWrite (c : CoreId) (a : AxisId) (v : Dword)
  /-- POS_ERR_CNT_READ (R456): A read of ERR_CNT and DRIFT_CNT returns the counts and clears them. -/
  | posErrCntRead (c : CoreId) (a : AxisId)
  /-- PWM_CMD_WRITE (R452): A store to PWM CMD sets the command for the next period and restarts the command timer. -/
  | pwmCmdWrite (c : CoreId) (a : AxisId) (v : Word)
  /-- PWM_ARM_WRITE (R453): A store of ARM requests or removes drive on a channel, and restarts the timer. -/
  | pwmArmWrite (c : CoreId) (a : AxisId) (v : Word)
  /-- BRAKE_REL_WRITE (R454): A store of BRAKE_REL requests brake release or engagement. -/
  | brakeRelWrite (c : CoreId) (a : AxisId) (v : Word)
  /-- PWM_PERIOD_START (R452): A PWM period starts with the latest command in force. -/
  | pwmPeriodStart (a : AxisId)
  /-- PWM_CMD_TIMEOUT (R453): The command timer expires; the channel drives low, ARM and BRAKE_REL clear, and PWM_TIMEOUT is raised. -/
  | pwmCmdTimeout (a : AxisId)
  /-- SKERRY_POR (R438): VBAT falls below its minimum; the Skerry restarts with every axis off and every brake engaged. -/
  | skerryPor
  /-- SAFE_IN_DEMAND (R467): SAFE_IN stays low through its filter time, and the safe state is forced. -/
  | safeInDemand
  /-- HEARTBEAT_LOSS (R467): The Skerry receives no good link frame for 99 consecutive slots. -/
  | heartbeatLoss
  /-- CONFIG_MISMATCH (R467): The Skerry's 1 ms recomputation finds a configuration CRC that differs. -/
  | configMismatch
  /-- LOCKSTEP (R467): The S0 and S1 outputs differ, and PERMIT drops. -/
  | lockstep
  /-- SI_WATCHDOG (R467): A Safety Island cycle is not complete within 110 µs. -/
  | siWatchdog
  /-- SI_MEMORY (R467): An uncorrectable ECC error occurs in Safety Island memory. -/
  | siMemory
  /-- SI_SELFTEST (R467): A periodic self-test of a safety monitor fails. -/
  | siSelftest
  /-- CLOCK_COMPUTE (R467): FCLK, TCLK and the beacon differ by more than 2 % for 10 µs. -/
  | clockCompute
  /-- CLOCK_SKERRY (R467): The Skerry oscillator differs from the beacon rate by more than 2 % for 10 µs. -/
  | clockSkerry
  /-- SUPPLY (R467): A core, SRAM or VIO rail leaves its range. -/
  | supply
  /-- SKERRY_INTERNAL (R467): A Skerry rail, reference, memory or temperature check fails, or VBAT is too high. -/
  | skerryInternal
  /-- OUTPUT_READBACK (R467): A PWM, BRAKE or STO_OUT pin differs from its commanded level for 1 µs. -/
  | outputReadback (a : Option AxisId)
  /-- SAFETY_CONFIG_LOAD (R472): SAFETY_CONFIG OP LOAD stores a monitoring configuration on the Skerry. -/
  | safetyConfigLoad (t : Nat)
  /-- SAFETY_CONFIG_RESET (R473): SAFETY_CONFIG OP RESET leaves the safe state when R470 holds. -/
  | safetyConfigReset (t : Nat)
  /-- SAFETY_CONFIG_FORCE (R473): SAFETY_CONFIG OP FORCE forces the safe state. -/
  | safetyConfigForce (t : Nat)
  /-- SAFETY_CONFIG_PROOF_TEST (R476): SAFETY_CONFIG OP PROOF_TEST forces the safe state and injects each test fault. -/
  | safetyConfigProofTest (t : Nat)
  /-- PROOF_TEST_DONE (R476): The injected tests finish and PROOF_TEST completes with its bitmap. -/
  | proofTestDone (passed : Nat)
  /-- SAFETY_STATUS (R475): SAFETY_STATUS writes the safety status and history. -/
  | safetyStatus (t : Nat)
  /-- IRQ_CLAIM (R485): A load of IRQ_CLAIM returns and activates the best claimable source, or 0. -/
  | irqClaim (c : CoreId)
  /-- IRQ_COMPLETE (R486): A store to IRQ_COMPLETE deactivates a source, or counts a spurious completion. -/
  | irqComplete (c : CoreId) (v : Word)
  /-- IRQ_SPURIOUS_READ (R486): A read of SPURIOUS returns the count and clears it. -/
  | irqSpuriousRead (c : CoreId)
  /-- SGI_WRITE (R483): A store to SGI pends a software-generated interrupt on this or the other core. -/
  | sgiWrite (c : CoreId) (v : Word)
  /-- IRQ_TARGET_WRITE (R488): A write of a shared source's TARGET retargets it, moving its pending flag. -/
  | irqTargetWrite (c : CoreId) (id : Nat) (v : Word)
  /-- TMR_EXPIRY (R489): A timer reaches its deadline; it sets FIRED, counts, pends its source and re-arms if periodic. -/
  | tmrExpiry (c : CoreId) (n : Fin 4)
  /-- TMR_COUNT_READ (R489): A read of a timer's COUNT returns it and clears it. -/
  | tmrCountRead (c : CoreId) (n : Fin 4)
  /-- TIME_SNAPSHOT_LOAD (R369): A load of TIME_NS captures SEC, NS and NS32 into the core's snapshot. -/
  | timeSnapshotLoad (c : CoreId)
  /-- MBX_OUT_PUSH (R490): A store to MBX_OUT_W1 pushes a message, or sets OUT_OVF when OUT is full. -/
  | mbxOutPush (c : CoreId) (v : Dword)
  /-- MBX_IN_POP (R490): A load of MBX_IN_W1 pops the head IN message. -/
  | mbxInPop (c : CoreId)
  /-- MBX_OUT_TAKE (R491): The F cores take an OUT message and act on HOST_POST, FRAME_NOTIFY or PING. -/
  | mbxOutTake (c : CoreId)
  /-- CUSTOMER_ACCESS_FAULT (R20): A customer-core access outside its map is not performed and raises an access fault. -/
  | customerAccessFault (c : CoreId) (store : Bool) (addr : Nat)
  /-- FW_DOWNLOAD (R498): FW_DOWNLOAD stages one piece of an image or key object. -/
  | fwDownload (t : Nat)
  /-- FW_COMMIT_WRITE (R499): FW_COMMIT FIRMWARE WRITE verifies the staged image and writes the bank that is not running. -/
  | fwCommitWrite (t : Nat)
  /-- FW_COMMIT_WRITE_AND_SELECT (R499): FW_COMMIT FIRMWARE WRITE_AND_SELECT writes that bank and selects it for boot. -/
  | fwCommitWriteAndSelect (t : Nat)
  /-- FW_COMMIT_SELECT_ONLY (R499): FW_COMMIT FIRMWARE SELECT_ONLY re-verifies the bank that is not running and selects it. -/
  | fwCommitSelectOnly (t : Nat)
  /-- FW_COMMIT_CUSTOMER (R499): FW_COMMIT CUSTOMER WRITE verifies and writes the customer image. -/
  | fwCommitCustomer (t : Nat)
  /-- FW_COMMIT_KEYS (R499): FW_COMMIT KEYS blows an integrator key slot's hash fuses in OPEN. -/
  | fwCommitKeys (t : Nat)
  /-- FLASH_WRITE_DONE (R500): The flash program and readback of a commit finish; the selection, revocation and floor updates follow, and the commit completes. -/
  | flashWriteDone (flashOk readbackOk : Bool)
  /-- FW_ACTIVATE (R541): FW_ACTIVATE checks admission, and reads and verifies the other bank while fetching continues. -/
  | fwActivate (t : Nat)
  /-- ACTIVATION_STOP (R541): Verification has passed and no long command remains; fetching stops and EVENT_ARMs complete with ACTIVATION_BEGIN. -/
  | activationStop
  /-- ACTIVATION_HOLD_TIMEOUT (R541): Long commands stay outstanding for 2 s, and FW_ACTIVATE completes with ACTIVATION_REJECTED BUSY. -/
  | activationHoldTimeout
  /-- ACTIVATION_SWITCH (R541): The drain ends; the images switch and the tables are imported, then fetching resumes. -/
  | activationSwitch (importOk : Bool)
  /-- ENGINE_WATCHDOG (R539): The 2 s command-engine watchdog expires, and the F cores restart. -/
  | engineWatchdog (tablesOk : Bool)
  /-- ATTEST_EVIDENCE (R502): ATTEST OP EVIDENCE writes signed evidence over a nonce. -/
  | attestEvidence (t : Nat)
  /-- ATTEST_CERTS (R502): ATTEST OP CERTS writes the certificate chain. -/
  | attestCerts (t : Nat)
  /-- DEBUG_TOKEN_CHALLENGE (R506): DEBUG_TOKEN OP CHALLENGE draws a new nonce. -/
  | debugTokenChallenge (t : Nat)
  /-- DEBUG_TOKEN_UNLOCK (R507): DEBUG_TOKEN OP UNLOCK grants debug level APP or FULL. -/
  | debugTokenUnlock (t : Nat)
  /-- DEBUG_TOKEN_RELOCK (R507): DEBUG_TOKEN OP RELOCK ends the debug grant. -/
  | debugTokenRelock (t : Nat)
  /-- DEBUG_TOKEN_TRANSITION (R503): DEBUG_TOKEN OP TRANSITION blows lifecycle fuses for the next reset. -/
  | debugTokenTransition (t : Nat)
  /-- POWER_STATE_RUN (R509): POWER_STATE TARGET RUN ungates every unit. -/
  | powerStateRun (t : Nat)
  /-- POWER_STATE_REDUCED (R509): POWER_STATE TARGET REDUCED gates the units named in GATE. -/
  | powerStateReduced (t : Nat)
  /-- POWER_STATE_SHOAL (R509): POWER_STATE TARGET SHOAL enters the SHOAL low-power state. -/
  | powerStateShoal (t : Nat)
  /-- POWER_STATE_REEF (R511): POWER_STATE TARGET REEF drains, completes, and enters REEF with a controller disable. -/
  | powerStateReef (t : Nat)
  /-- REEF_WAKE (R511): The function returns to D0 from REEF, MAIN_EN rises, and the compute die boots. -/
  | reefWake
  /-- REEF_WAKE_EVENT (R511): In REEF, a safe-state entry or a SAFE_IN rising edge asserts WAKE# when WAKE_MASK enables it. -/
  | reefWakeEvent (safeIn : Bool)
  /-- SENSOR_SAMPLE (R517): Every 10 µs the thermal sensors are sampled; Tj, THM_STATE, throttling and the 146 °C safety cause follow. -/
  | sensorSample (readings : List Int)
  /-- SENSOR_FAULT (R518): A sensor reads out of range, or jumps three times within 1 s, and becomes invalid. -/
  | sensorFault (s : TsId) (jump : Bool)
  /-- SHED_STEP (R522): At ALARM entry, and every SHED_INTERVAL_MS at or above 138 °C, the lowest shed priority is closed. -/
  | shedStep
  /-- THERMAL_TRIP (R525): A sensor reads 148 °C on two consecutive samples; clocks stop, THERMTRIP_N falls, and the trip record and counter are written. -/
  | thermalTrip (s : TsId) (reading : Int)
  /-- THERMAL_CONFIG (R527): THERMAL_CONFIG sets the throttle, shed and power-limit settings. -/
  | thermalConfig (t : Nat)
  /-- TELEMETRY_SNAPSHOT (R528): TELEMETRY_GET OP SNAPSHOT writes one telemetry record. -/
  | telemetrySnapshot (t : Nat)
  /-- TELEMETRY_SUBSCRIBE (R528): TELEMETRY_GET OP SUBSCRIBE starts periodic telemetry records. -/
  | telemetrySubscribe (t : Nat)
  /-- TELEMETRY_UNSUBSCRIBE (R528): TELEMETRY_GET OP UNSUBSCRIBE ends the telemetry subscription. -/
  | telemetryUnsubscribe (t : Nat)
  /-- TELEMETRY_RECORD (R528): Every PERIOD_MS, or on a THERMAL_STATE event, a telemetry record is written to the ring. -/
  | telemetryRecord
  /-- SAFE_IN_RELEASE (R470): SAFE_IN returns high; the SAFE_IN_DEMAND cause clears, a cleared entry enters the history, and RESET_READY may become 1. -/
  | safeInRelease
  /-- DEBUG_PORT_HALT (R507): Through the debug port, a core is halted: a customer core at APP or FULL, or an F, S0 or S1 core at FULL, where a halt of S0 or S1 drops PERMIT. -/
  | debugPortHalt (core : Nat)
  /-- DEBUG_PORT_RESUME (R514): Through the debug port, a halted core resumes; a POWER_STATE delayed by an F-core halt completes and the DEBUG_HALT condition ends. -/
  | debugPortResume (core : Nat)
  /-- AUD_FIRST_FSYNC (R416): After enable, a slave audio port receives its first valid FSYNC; frame counting starts and LEAD_MS starts to run. -/
  | audFirstFsync (p : AudId) (stamp : Nat)
  /-- IO_QUEUES_CREATED (R345): The NVMe I/O queues of an ATTACH have been created; the port enters ATTACHED and MEDIA_ATTACH completes. -/
  | ioQueuesCreated (m : MediaId)
  /-- FLOW_CLOSE_DONE (R384): The frame in transmission has been sent (AFTER_FRAME), or the next packet boundary has been reached (IMMEDIATE); FLOW_CLOSE completes and the reservations return. -/
  | flowCloseDone (flow : Nat)
  /-- ACTIVATION_VERIFY_FAILED (R541): The background read and verification of the bank named by FW_ACTIVATE fails, or IF_MAJOR differs; the command completes with ACTIVATION_REJECTED and nothing else changes. -/
  | activationVerifyFailed
deriving DecidableEq, Repr

end Sys2Proof
end

