-- ==== Sys2Proof/Decode.lean ====
section
/-!
DEFINITION. Decode.lean: no row of spec/opcode_table.json gives bits ("fields" is empty in every one),
so no word spells a command of the block.
-/
namespace Sys2Proof

/-- The command that a word spells by the table's bits: none, since the table gives no row any bits. -/
def decodeTableWord (_nbits _w : Nat) : Option Instr := none

end Sys2Proof
end

