-- ==== Sys2Proof/Config.lean ====
section
/-!
DEFINITION. Config.lean: what each part or firmware image fixes and the spec leaves open, as constants
without a body: no proof can see their values, so every claim holds for all of them.
-/
namespace Sys2Proof.Config

/-- The part fitted is the VK8640-B24 (00 R2). -/
opaque partB24 : Bool
/-- SERIAL, the device serial number (02 R68). -/
opaque serial : List Byte
/-- FW_REV as IDENTIFY gives it while no image runs, in recovery mode (02 R68, 22 R538). -/
opaque fwRev : List Byte
/-- HBM held by firmware, MiB (02 R68). -/
opaque fwHbmMib : Nat
/-- Lagoon held by firmware and customer windows, KiB (02 R68). -/
opaque fwLagoonKib : Nat

/-- How many 4 KiB pages a transfer has moved when it is abandoned (02 R56, R73 leave the instant open). -/
opaque movedPages : Nat → Nat

/-- SI_FW_REV, the revision of the safety firmware (18 R475). -/
opaque siFwRev : List Byte
/-- Whether an interpolated serial position between two counts rounds up (17 R439 states no rounding). -/
opaque interpUp : Nat → Bool
/-- The phase of a SINCOS sample with both inputs 0 (17 R440 states no angle there). -/
opaque phaseAtZero : Nat → Nat
/-- Which of two equally small drifts is reported (17 R443 states no choice). -/
opaque driftTie : Nat → Bool
/-- DRIFT_E of a drift that 32 bits cannot hold (17 R456 states none). -/
opaque driftOver : Int → BitVec 32

/-- TAG of a mailbox message from the F cores that answers nothing (19 R491 gives it none). -/
opaque msgTag : Nat → BitVec 8

/-- The lifecycle fuses (20 R503). -/
opaque lifecycle : BitVec 2
/-- The key slot hashes as provisioned (20 R494). -/
opaque keySlot : Nat → List Byte
/-- The revocation fuses (20 R494). -/
opaque revoked : BitVec 4
/-- The firmware floor (20 R495). -/
opaque floorFw : Nat
/-- The customer floor (20 R495). -/
opaque floorCust : Nat
/-- The images in the firmware banks (22 R533). -/
opaque bankImage : Nat → List Byte
/-- The customer image slot (22 R533). -/
opaque custImage : List Byte
/-- The bank selection record: bank and SEL_SEQ (22 R534). -/
opaque bankSel : BitVec 1
opaque selSeq : Nat
/-- The event log at power-on: sequence number, type, payload and boot count of each entry (22 R535). -/
opaque eventLog : List (Nat × Nat × List Byte × Nat)
opaque logSeq : Nat
opaque bootCount : Nat
/-- The last shutdown was a thermal trip (21 R525). -/
opaque tripFlag : Bool
/-- The fused trip counter (21 R525). -/
opaque tripCount : BitVec 8
/-- ML-DSA-44 verification of a signature by a public key over a digest (20 R496; FIPS 204). -/
opaque mldsaVerify : (key sig digest : List Byte) → Bool
/-- ML-DSA-44 signature of the alias key over a digest (20 R502). -/
opaque aliasSign : (measurement digest : List Byte) → List Byte
/-- The alias certificate for a measurement, and the DeviceID certificate (20 R501). -/
opaque aliasCert : (measurement : List Byte) → List Byte
opaque deviceCert : List Byte
/-- A draw of the hardware random source (20 R506). -/
opaque random : Nat → List Byte

/-- Which of several present causes a refused RESET names (18 R473 says only "a present cause"). -/
opaque pickCause : Nat → Nat

/-- How far the first character boundary at or after a grid instant lies from it, 0 to 40 ns (04 R120);
the phase of the back-channel characters is the part's own. -/
opaque boundaryOffset : Nat → Fin 41

/-- The CTLE setting, and the DFE taps, that adaptation and tracking leave a lane at (03 R98, R100: the receiver's own). -/
opaque ctleSetting : Nat → Fin 16
opaque dfeTap : (n tap : Nat) → Int

/-- The picture target of the rate model (08 R239: the model's own): session, how often it has been reset, and pictures
since. -/
opaque rcTarget : (session resets count : Nat) → Nat
/-- The payloads of the parameter sets of a stream, in the syntax of H.265 or AV1 (08 R230): VPS, SPS and PPS, or the sequence
header. -/
opaque paramSets : StreamParams → List (List Byte)
/-- The payload of a buffering period (0) or picture timing (1) SEI of H.265 (08 R239): the stream, the picture in decode
order, and the buffer's fullness in bits. -/
opaque hrdSei : StreamParams → (kind count fullness : Nat) → List Byte
/-- The payload of a time code SEI of H.265, or of a timecode metadata OBU of AV1 (08 R244), from a ST 2059 time code. -/
opaque timeCodePayload : (av1 : Bool) → (code : BitVec 64) → List Byte
/-- The frame header of AV1: a shown frame, a hidden one, or a show_existing_frame of a frame number (08 R228). -/
opaque av1FrameHeader : StreamParams → (kind frame : Nat) → List Byte
/-- What the headers of a coded picture say (10 R279: the syntax of H.265 and AV1), from the parameter sets or sequence headers
so far, the reference slots of AV1 as width, height and order hint, and the picture's units; none where they cannot be parsed. -/
opaque pictureHead : (av1 : Bool) → (psets : List (List Byte)) → (slots : List (Nat × Nat × Nat)) → (units : List (List Byte)) →
  Option PicHead
/-- How far a part of a picture decodes (10 R291: H.265 and AV1): its first unit not decoded, and whether it ends where it
should. -/
opaque decodePart : PicHead → (start : Nat) → (part : List Byte) → Nat × Bool
/-- The samples of a picture whose every part decodes, component by component in raster order, from those of its references (10
R279: H.265 and AV1). -/
opaque decodeSamples : PicHead → (units : List (List Byte)) → (refs : List (List (List Nat))) → List (List Nat)
/-- What a 64 x 64 unit of a picture reads of its references: which, the first byte of the picture, and how many (10 R297, R299). -/
opaque decodeReads : PicHead → (units : List (List Byte)) → (unit : Nat) → List (Nat × Nat × Nat)
/-- How many of its CTUs, superblocks or tiles a picture had decoded when its engine met a fault (10 R299). -/
opaque faultUnits : Nat → Nat
/-- P of a first picture without a PTS (10 R295 gives it none). -/
opaque firstPts : (session : Nat) → Nat
/-- Bytes 20-71 of the record of an EOS, which 10 R296 does not state: session, output count, byte. -/
opaque eosField : (session count i : Nat) → Byte
/-- The RTP payloads of HEVC (RFC 7798) or AV1 bytes (14 R378: outside the spec): AV1, MTU_PAYLOAD, bytes. -/
opaque rtpPayloads : (av1 : Bool) → (mtu : Nat) → (bytes : List Byte) → List (List Byte)
/-- First RTP sequence number of a flow (14 R382 gives none). -/
opaque rtpSeq : (flow : Nat) → BitVec 16

/-- The PTM master time at a time-unit instant, 0 without PTM (14 R388, 02 R35): the root complex's own. -/
opaque ptmTime : Nat → BitVec 64
/-- ADDEND that the servo filter chooses after an offset (14 R373: the firmware's own): offset in 2^-16 ns
and the last values of ADDEND. -/
opaque servo : (offset : Int) → (hist : List Nat) → Nat
/-- The servo's frequency estimate (14 R374). -/
opaque servoEstimate : (hist : List Nat) → Nat
/-- Whether a servo step between two nanoseconds rounds up (14 R374 states no rounding). -/
opaque stepUp : Int → Bool
/-- How the mean of 16 ADDEND values is rounded (14 R373 states none). -/
opaque meanUp : Nat → Bool
/-- Accuracy and variance of the device's own clock in the BMCA (14 R370: IEEE 1588). -/
opaque ownAccuracy : Nat
opaque ownVariance : Nat
/-- originTimestamp of a two-step Sync or an Announce (IEEE 1588), by sequence number. -/
opaque ptpOrigin : Nat → Int
/-- Bytes 32-51 of the TIME_GET STATUS structure where no master is selected (14 R388 states none). -/
opaque noMaster : Nat → Byte
/-- The IGMPv3 report that joins or leaves a group (14 R383: RFC 3376): port, group, source filter, join. -/
opaque igmpReport : (port : Nat) → (group filter : List Byte) → (join : Bool) → List Byte
/-- What the firmware answers to an ARP, ICMP or IGMP frame (14 R363, R365): nothing, or a frame. -/
opaque answer : (kind port : Nat) → List Byte → Option (List Byte)
/-- The ST 2110-21 default of TRO (14 R379): rate and picture height. -/
opaque troDefault : (num den lines : Nat) → Nat
/-- Time that the packets of a frame take to leave (14 R382: ST 2110-21, or an ANC frame's own). -/
opaque flowSpan : (kind sender num den packets : Nat) → Nat
/-- Mbit/s on the wire, and payload MB/s, of an ANC flow (14 R380 gives no packet count). -/
opaque ancRate : (mtu num den : Nat) → (tagged : Bool) → Nat × Nat
/-- RTP payloads that carry Type 2 ANC packets, each a DID, an SDID and its user data words (14 R381: RFC 8331). -/
opaque ancPayloads : (mtu : Nat) → List (Nat × Nat × List Nat) → List (List Byte)
/-- User data words of the ATC packet of a time code (14 R381: ST 12-2). -/
opaque atcWords : BitVec 64 → List Nat
/-- The time address of alignment point k at a TC_RATE (14 R387: ST 2059-1). -/
opaque timeAddress : (rate k : Nat) → (dst : Bool) → (utc : Nat) → (offset : Int) → BitVec 64
/-- A time code with the frame-pair identification flag (14 R387: ST 12-1). -/
opaque pairFlag : (rate : Nat) → BitVec 64 → BitVec 64
/-- The time code before the first LTC_IN frame of a lock (14 R387 gives none). -/
opaque ltcBefore : Nat → BitVec 64
/-- The second that an LTC_IN frame stands for, near a time-unit second (14 R386 gives no mapping). -/
opaque ltcSecond : BitVec 64 → (second : Nat) → Nat
/-- The access unit that HEVC (RFC 7798) or AV1 RTP payloads carry (14 R378). -/
opaque rtpUnit : (av1 : Bool) → List (List Byte) → List Byte
/-- A byte of an access unit whose packet was lost (14 R383 only marks it). -/
opaque lostByte : (flow i : Nat) → Byte
/-- Whether a PTS between two nanoseconds rounds up (14 R383 states no rounding). -/
opaque ptsUp : Nat → Bool

/-- RANGE and YCC_MATRIX that the stream of a decode session signals (15 R399: its standard): session, picture. -/
opaque streamConv : (session picture : Nat) → BitVec 3
/-- The minimum rate of the sink's Adaptive-Sync, Hz, 0 for none (15 R406: the sink's own). -/
opaque sinkMinHz : (head : Nat) → Nat
/-- A byte of an overlay bank before its first data (15 R398 gives none): head, overlay, place. -/
opaque overlayByte : (head overlay i : Nat) → Byte
/-- How long a tap's line takes into a head's ring, in ns (15 R397: at most 2,000). -/
opaque ringDelay : (frame : Nat) → Fin 2001
/-- E of a head frame without a video frame (14 R382 gives none): head, HFC. -/
opaque headStamp : (head hfc : Nat) → Nat
/-- When the last line of a NET head's frame is in its ring, after the frame start (15 R395 gives no time). -/
opaque netFill : (head hfc : Nat) → Nat

/-- How far the FSYNC stamp of a slave frame lies from its nominal instant, in ns (16 R416: the converter's own):
port, frame index. -/
opaque fsyncOffset : (port frame : Nat) → Int

/-- Why a bank or the customer slot whose write was cut off fails verification, less 1 (20 R500 says only that it
fails): 0 bank A, 1 bank B, 2 customer slot. -/
opaque tornReason : Nat → Fin 13
/-- Bytes of a KEYS commit that 20 R499 and 22 R535 give no value: 0 RESULT [23:16], 1 SVN and 2 floor of its log
entry. -/
opaque noImageByte : Nat → Byte
/-- The bank that a commit writes in recovery mode, where none runs (22 R538). -/
opaque recoveryBank : BitVec 1
/-- Watchdog cause of an ENGINE_RESTART log entry (22 R535 gives no codes). -/
opaque watchdogCause : Nat → Byte

/-- Sensors that the boot self-test failed (21 R525). -/
opaque tsFailed : BitVec 24
/-- HOT_SENSOR while no sensor is valid (21 R518 names none). -/
opaque hotNone : Nat → Fin 24
/-- Temperature of an HBM stack, and of the Skerry die, 1/16 degree (21 R528): the parts' own. -/
opaque hbmTemp : (stack ns : Nat) → BitVec 16
opaque skerryTemp : (ns : Nat) → BitVec 16
/-- CORE_MV, the adaptive core supply (21 R528). -/
opaque coreMv : (ns : Nat) → BitVec 16
/-- Counters of log page 0x08 that traffic counts (12 R335): index and instant. -/
opaque trafficCount : (index ns : Nat) → BitVec 64
/-- FEC codewords corrected and not, of a network port (14 R389): port, counter and instant. -/
opaque fecCount : (port index ns : Nat) → BitVec 64
/-- Where the customer window of a core lies in Lagoon (12 R337 gives no offset): core. -/
opaque windowBase : (core : Nat) → Nat

end Sys2Proof.Config
end

