-- ==== Sys2Proof/Machine/HostOp.lean ====
section
/-!
DEFINITION. Machine/HostOp.lean: the kind of a fetched host command, one per host-command row of
the table (notes/assumptions/1.md), and `unassigned` for an entry that names none.
-/
namespace Sys2Proof.Machine

inductive HostOp where
  /-- IDENTIFY (R68) -/
  | identify
  /-- QP_CREATE (R69) -/
  | qpCreate
  /-- QP_DELETE (R70) -/
  | qpDelete
  /-- QP_RESET (R70) -/
  | qpReset
  /-- FEATURE_SET_ARBITRATION (R71) -/
  | featureSetArbitration
  /-- FEATURE_SET_INT_COALESCE (R71) -/
  | featureSetIntCoalesce
  /-- FEATURE_SET_EVENT_CONFIG (R71) -/
  | featureSetEventConfig
  /-- FEATURE_SET_QP_CLASS (R71) -/
  | featureSetQpClass
  /-- FEATURE_SET_MEMORY (R336) -/
  | featureSetMemory
  /-- CORE_LINK_VECTOR (R482) -/
  | coreLinkVector
  /-- CORE_LINK_POST (R482) -/
  | coreLinkPost
  /-- CORE_LINK_RESTART (R482) -/
  | coreLinkRestart
  /-- CORE_LINK_STOP (R482) -/
  | coreLinkStop
  /-- FEATURE_GET (R71) -/
  | featureGet
  /-- LOG_GET (R72) -/
  | logGet
  /-- ABORT (R73) -/
  | abort
  /-- FLUSH (R74) -/
  | flush
  /-- EVENT_ARM (R61) -/
  | eventArm
  /-- LINK_DIAG_STATUS (R104) -/
  | linkDiagStatus
  /-- LINK_DIAG_COUNTERS (R103) -/
  | linkDiagCounters
  /-- LINK_DIAG_EYE_SCAN (R105) -/
  | linkDiagEyeScan
  /-- LINK_DIAG_COUNTER_CLEAR (R103) -/
  | linkDiagCounterClear
  /-- PORT_CONFIG (R117) -/
  | portConfig
  /-- GROUP_CONFIG (R119) -/
  | groupConfig
  /-- CAPTURE_START (R127) -/
  | captureStart
  /-- CAPTURE_STOP (R130) -/
  | captureStop
  /-- SENSOR_CTRL_WRITE (R133) -/
  | sensorCtrlWrite
  /-- SENSOR_CTRL_READ (R133) -/
  | sensorCtrlRead
  /-- SENSOR_CTRL_TIMING (R133) -/
  | sensorCtrlTiming
  /-- SENSOR_CTRL_COUNTERS (R133) -/
  | sensorCtrlCounters
  /-- FRAME_FETCH (R138) -/
  | frameFetch
  /-- ISLE_CONFIG (R156) -/
  | isleConfig
  /-- FE_TABLE_LOAD (R159) -/
  | feTableLoad
  /-- STATS_SUBSCRIBE_START (R166) -/
  | statsSubscribeStart
  /-- STATS_SUBSCRIBE_STOP (R166) -/
  | statsSubscribeStop
  /-- CFA_KERNEL_LOAD (R180) -/
  | cfaKernelLoad
  /-- COLOUR_LOAD_PARAMS (R199) -/
  | colourLoadParams
  /-- COLOUR_LOAD_BLEND_GRID (R200) -/
  | colourLoadBlendGrid
  /-- COLOUR_LOAD_LOOK (R202) -/
  | colourLoadLook
  /-- COLOUR_LOAD_TAP_OUTPUT (R200) -/
  | colourLoadTapOutput
  /-- LOOK_SELECT (R204) -/
  | lookSelect
  /-- TAP_CONFIG_ENABLE (R218) -/
  | tapConfigEnable
  /-- TAP_CONFIG_DISABLE (R218) -/
  | tapConfigDisable
  /-- ENC_OPEN (R246) -/
  | encOpen
  /-- ENC_RECONFIG (R250) -/
  | encReconfig
  /-- ENC_FORCE (R251) -/
  | encForce
  /-- ENC_CLOSE (R252) -/
  | encClose
  /-- HOLM_OPEN (R270) -/
  | holmOpen
  /-- HOLM_CLOSE (R273) -/
  | holmClose
  /-- DEC_OPEN (R284) -/
  | decOpen
  /-- DEC_SUBMIT (R287) -/
  | decSubmit
  /-- DEC_CLOSE (R298) -/
  | decClose
  /-- MEDIA_ATTACH_ATTACH (R345) -/
  | mediaAttachAttach
  /-- MEDIA_ATTACH_DETACH (R345) -/
  | mediaAttachDetach
  /-- MEDIA_ATTACH_INFO (R345) -/
  | mediaAttachInfo
  /-- REC_OPEN (R349) -/
  | recOpen
  /-- REC_EXTENTS (R352) -/
  | recExtents
  /-- REC_COMMIT (R354) -/
  | recCommit
  /-- REC_CLOSE (R357) -/
  | recClose
  /-- MEDIA_READ_BLOCKS (R358) -/
  | mediaReadBlocks
  /-- MEDIA_READ_ITEMS (R358) -/
  | mediaReadItems
  /-- NET_CONFIG (R364) -/
  | netConfig
  /-- PTP_CONFIG (R371) -/
  | ptpConfig
  /-- TIME_GET_READ (R388) -/
  | timeGetRead
  /-- TIME_GET_SET (R388) -/
  | timeGetSet
  /-- TIME_GET_STATUS (R388) -/
  | timeGetStatus
  /-- FLOW_OPEN (R379) -/
  | flowOpen
  /-- FLOW_CLOSE (R384) -/
  | flowClose
  /-- HEAD_CONFIG_ENABLE (R401) -/
  | headConfigEnable
  /-- HEAD_CONFIG_DISABLE (R401) -/
  | headConfigDisable
  /-- HEAD_COMMIT (R403) -/
  | headCommit
  /-- AUD_CONFIG_ENABLE (R420) -/
  | audConfigEnable
  /-- AUD_CONFIG_DISABLE (R420) -/
  | audConfigDisable
  /-- AUD_STREAM_OPEN (R423) -/
  | audStreamOpen
  /-- AUD_STREAM_CLOSE (R428) -/
  | audStreamClose
  /-- AUD_STREAM_MASK (R427) -/
  | audStreamMask
  /-- AUD_STREAM_STATUS (R429) -/
  | audStreamStatus
  /-- AXIS_CONFIG_ENABLE (R458) -/
  | axisConfigEnable
  /-- AXIS_CONFIG_DISABLE (R458) -/
  | axisConfigDisable
  /-- SAFETY_CONFIG_LOAD (R472) -/
  | safetyConfigLoad
  /-- SAFETY_CONFIG_RESET (R473) -/
  | safetyConfigReset
  /-- SAFETY_CONFIG_FORCE (R473) -/
  | safetyConfigForce
  /-- SAFETY_CONFIG_PROOF_TEST (R476) -/
  | safetyConfigProofTest
  /-- SAFETY_STATUS (R475) -/
  | safetyStatus
  /-- FW_DOWNLOAD (R498) -/
  | fwDownload
  /-- FW_COMMIT_WRITE (R499) -/
  | fwCommitWrite
  /-- FW_COMMIT_WRITE_AND_SELECT (R499) -/
  | fwCommitWriteAndSelect
  /-- FW_COMMIT_SELECT_ONLY (R499) -/
  | fwCommitSelectOnly
  /-- FW_COMMIT_CUSTOMER (R499) -/
  | fwCommitCustomer
  /-- FW_COMMIT_KEYS (R499) -/
  | fwCommitKeys
  /-- FW_ACTIVATE (R541) -/
  | fwActivate
  /-- ATTEST_EVIDENCE (R502) -/
  | attestEvidence
  /-- ATTEST_CERTS (R502) -/
  | attestCerts
  /-- DEBUG_TOKEN_CHALLENGE (R506) -/
  | debugTokenChallenge
  /-- DEBUG_TOKEN_UNLOCK (R507) -/
  | debugTokenUnlock
  /-- DEBUG_TOKEN_RELOCK (R507) -/
  | debugTokenRelock
  /-- DEBUG_TOKEN_TRANSITION (R503) -/
  | debugTokenTransition
  /-- POWER_STATE_RUN (R509) -/
  | powerStateRun
  /-- POWER_STATE_REDUCED (R509) -/
  | powerStateReduced
  /-- POWER_STATE_SHOAL (R509) -/
  | powerStateShoal
  /-- POWER_STATE_REEF (R511) -/
  | powerStateReef
  /-- THERMAL_CONFIG (R527) -/
  | thermalConfig
  /-- TELEMETRY_SNAPSHOT (R528) -/
  | telemetrySnapshot
  /-- TELEMETRY_SUBSCRIBE (R528) -/
  | telemetrySubscribe
  /-- TELEMETRY_UNSUBSCRIBE (R528) -/
  | telemetryUnsubscribe
deriving DecidableEq, Repr, Inhabited

end Sys2Proof.Machine
end

