-- ==== Sys2Proof/Machine/State.lean ====
section
/-!
DEFINITION. Machine/State.lean: everything the spec gives the machine, as plain data. Each field's
docstring reads "what it is; file Rn; reset value". `State.reset` is the machine as it powers up.
-/
namespace Sys2Proof.Machine

/-- Nothing in this model faults: the spec gives every command an effect, even where that effect is
an access fault recorded for a customer core (19 R20). Closed with no constructor; safe. -/
inductive Fault
deriving DecidableEq, Repr

/-- A command without a meaning. -/
inductive Refusal where
  /-- Raised by an arm of `exec` whose row has no meaning yet; safe. -/
  | notModelled (mnemonic : String)
deriving DecidableEq, Repr

/-- How far a fetched command has come (02 R56). -/
inductive Phase where
  /-- fetched, its step not begun and not waiting on anything of the device -/
  | fetched
  /-- its checks have passed and it waits, still abandonable -/
  | waiting
  /-- its step is done and only its completion is to come -/
  | stepped
deriving DecidableEq, Repr, Inhabited

/-- An outstanding command (02 R56): its fetch number, the pair it came from, its row and its entry. -/
structure Outst where
  tag   : Nat
  qp    : Nat
  op    : HostOp
  e     : Sqe
  phase : Phase
  /-- instant of its fetch, time-unit ns -/
  ns    : Nat := 0
deriving DecidableEq, Repr, Inhabited

/-- A completion entry (02 R45). -/
structure Cqe where
  qp     : Nat
  slot   : Nat
  result : Nat
  sqhd   : Nat
  cid    : Half
  phase  : Bool
  status : Nat
  ext    : Nat
deriving DecidableEq, Repr, Inhabited

/-- Characters of the back channel: K27.7 starts a frame, K29.7 ends it, K28.5 lies between frames (03 R91, R92). -/
inductive BcChar where
  | k277
  | k297
  | k285
  | d (b : Byte)
deriving DecidableEq, Repr, Inhabited

/-- What the device puts out of the package: the model's own record (notes/assumptions/6.md). -/
inductive Out where
  /-- a completion entry written to host memory (02 R45) -/
  | cqe (c : Cqe)
  /-- an MSI-X message of a vector (02 R67) -/
  | msix (vec : Nat)
  /-- bytes written to the data buffer of the command with a fetch number, at an offset, and the pieces of host memory
  they fill, as address and length (02 R53, R54) -/
  | data (tag off : Nat) (bytes : List Byte) (at' : List (Nat × Nat))
  /-- a slot of a host ring: the owner's handle, the slot, the sequence number and the record (07 R220, 05 R167) -/
  | ring (owner slot seq : Nat) (bytes : List Byte)
  /-- bytes of a slot of a host ring written ahead of its record: the owner, the slot and the offset (08 R253) -/
  | ringPart (owner slot off : Nat) (bytes : List Byte)
  /-- a back-channel frame of a sensor port, from the instant of its K27.7 in time-unit ns, with the K28.5 that follow it
  at the least (03 R91-R93) -/
  | bc (port : PortId) (start : Nat) (chars : List BcChar)
  /-- an Ethernet frame or packet sent by a network port: 0 PTP, 1 firmware protocol, 2 chain, 3 flow (14) -/
  | net (port kind : Nat) (bytes : List Byte)
  /-- a level or pulse on an output ball: WAKE# 0, MAIN_EN 1, THERMTRIP_N 2, SAFE_OK 3, STO_OUT 4; for LTC_OUT 5 the code of the frame that starts -/
  | pin (ball : Nat) (level : Nat)
  /-- an NVMe command sent to a medium: port, opcode (01 Write, 02 Read, 00 Flush, 80 Create, 81 Shutdown), stream, block, bytes (13) -/
  | nvme (port op stream block : Nat) (bytes : List Byte)
  /-- a frame handed to a display head, a stream, or another destination inside the device: unit, index, frame number (07, 15) -/
  | show (unit idx frame : Nat)
  /-- a PWM period of a channel: its high time and its length in 10 ns ticks (17 R452) -/
  | pwm (axis high period : Nat)
  /-- a BRAKE output changes: axis, true for energised (17 R454) -/
  | brake (axis : Nat) (on : Bool)
  /-- an emulation output steps to new levels of A, B and Z (17 R451) -/
  | emu (out : Nat) (a b z : Bool)
  /-- audio frames played: port, the words of the transmit slots of each (16 R414, R426) -/
  | audio (port : Nat) (frames : List (List Int))
  /-- the pins of an audio port change what they do: BCLK, FSYNC, D0-D3 as 0 input, 1 low, 2 clock, 3 data (16 R411) -/
  | audPins (port : Nat) (uses : List Nat)
  /-- a value returned to a customer core or to the host by a load: master, address, value (19) -/
  | load (master addr : Nat) (value : Nat)
  /-- a PTP message sent: port, message type, sequence number, twoStepFlag, origin or receive stamp, correction, and of an
  Announce the domain and the dataset it announces (14 R370-R377) -/
  | ptp (port kind seq : Nat) (twoStep : Bool) (origin corr : Int) (data : List Nat)
  /-- samples embedded in SDI frames of a head: head, first channel, head frame and samples (16 R430) -/
  | embed (head ch : Nat) (frames : List (Nat × List (List Int)))
  /-- a frame sent by a head: head, HFC, TRANSFER as signalled, the picture of its active area in the layout of 07 R213 (15 R399,
  R400) -/
  | scan (head hfc transfer : Nat) (planes : List Byte)
  /-- an access-fault exception on a customer core (19 R20): core, true for a store -/
  | accessFault (core : Nat) (store : Bool) (addr : Nat)
deriving DecidableEq, Repr, Inhabited

/-- What waits while HCTL.ENABLE is 1 and delivery is held (02 R562). -/
inductive Held where
  | post (o : Out)
  | trig (vec : Nat)
deriving DecidableEq, Repr, Inhabited


/-- What the part and its image identify as (00 R2, 02 R68). -/
structure Ident where
  /-- VK8640-B24 fitted; 00 R2; Config.partB24 (free) -/
  b24 : Bool := Config.partB24
  /-- SERIAL; 02 R68; Config.serial (free) -/
  serial : List Byte := Config.serial
  /-- FW_REV; 02 R68; Config.fwRev (free) -/
  fwRev : List Byte := Config.fwRev
  /-- FW_HBM_MIB; 02 R68; Config.fwHbmMib (free) -/
  fwHbmMib : Nat := Config.fwHbmMib
  /-- FW_LAGOON_KIB; 02 R68; Config.fwLagoonKib (free) -/
  fwLagoonKib : Nat := Config.fwLagoonKib
deriving DecidableEq, Repr, Inhabited


/-- A queue pair (02 R45-R51, R66, R69). -/
structure Qp where
  /-- SQ base address; 02 R69; as created -/
  sqBase   : Dword := 0
  /-- CQ base address; 02 R69; as created -/
  cqBase   : Dword := 0
  /-- SQ entries; 02 R69; as created -/
  sqSize   : Nat := 0
  /-- CQ entries; 02 R69; as created -/
  cqSize   : Nat := 0
  /-- MSI-X vector of the CQ; 02 R65; as created -/
  vector   : Nat := 0
  /-- priority class in force, 0 Urgent to 3 Low; 02 R51; as created -/
  cls      : Nat := 0
  /-- priority class from the next credit refill; 02 R71; as created -/
  clsNext  : Nat := 0
  /-- SQ head, the next entry to fetch; 02 R45; 0 -/
  sqHead   : Nat := 0
  /-- SQ tail the host has written; 02 R42; 0 -/
  sqTail   : Nat := 0
  /-- CQ index the next completion goes to; 02 R46; 0 -/
  cqTail   : Nat := 0
  /-- CQ head the host has released; 02 R46; 0 -/
  cqHead   : Nat := 0
  /-- completions posted and not yet released by the host; 02 R47; 0 -/
  unrel    : Nat := 0
  /-- phase tag of this pass; 02 R46; 1 -/
  phase    : Bool := true
  /-- AGG_COUNT, 0-based; 02 R66; 0 -/
  aggCount : Nat := 0
  /-- AGG_TIME in microseconds; 02 R66; 0 -/
  aggTime  : Nat := 0
  /-- instant of the first completion since the last trigger, time-unit ns; 02 R66; 0 -/
  firstNs  : Nat := 0
  /-- completions since the last trigger; 02 R66; 0 -/
  since    : Nat := 0
  /-- the entry at the head is ORDERED and waits (02 R51); the model's own; false -/
  headOrd  : Bool := false
  /-- the entry at the head is a long command that FW_ACTIVATE holds back (22 R541); the model's own; false -/
  headLong : Bool := false
deriving DecidableEq, Repr, Inhabited

/-- An entry of the MSI-X table (02 R42): message address, data and vector control. -/
structure MsixEnt where
  /-- message address; 02 R42; 0 -/
  addr : Dword := 0
  /-- message data; 02 R42; 0 -/
  data : Word := 0
  /-- vector control, bit 0 the mask; 02 R42; 1 -/
  ctrl : Word := 1
deriving DecidableEq, Repr, Inhabited

/-- An event (02 R61). -/
structure Event where
  cls    : Nat
  code   : Nat
  handle : Nat
  ns32   : Nat
  seq    : Nat
  detail : Nat
deriving DecidableEq, Repr, Inhabited

/-- An entry of the error log (02 R72). -/
structure ErrEnt where
  errSeq : Nat
  qp     : Nat
  cid    : Half
  status : Nat
  opcode : Byte
  field  : Nat
  ns32   : Nat
  handle : Nat
deriving DecidableEq, Repr, Inhabited

/-- An open object of the object list (02 R72, R52). -/
structure Obj where
  handle : Nat
  /-- pair that opened it -/
  opener : Nat
  /-- 1 OPEN, 2 ARMED, 3 CLOSING, 4 DEGRADED -/
  st     : Nat
deriving DecidableEq, Repr, Inhabited

/-- A reservation (01 R24): owner, resource class and unit, the amount in force and the amount of the
copy that waits to become active; the larger of the two is held. -/
structure Resv where
  owner : Nat
  cls   : Nat
  unit  : Nat
  cur   : Nat
  nxt   : Nat
  /-- device address of the HBM buffer that a class 0x09 reservation stands for (12 R323) -/
  base  : Nat := 0
deriving DecidableEq, Repr, Inhabited

/-- Owner of a front-end context's Lagoon (05 R158). -/
def ctxOwner (isle port : Nat) : Nat := 0x04000100 + 4 * isle + port

/-- What every front-end context holds from reset: 269 KiB of class 0x0A (05 R158). -/
def ctxResv : List Resv :=
  (List.range 16).map fun i => { owner := ctxOwner (i / 4) (i % 4), cls := 0x0A, unit := 0xFF, cur := 269, nxt := 269 }

/-- The six counters of log page 0x05 (02 R72). -/
structure HostCnt where
  /-- invalid doorbells; 02 R72; 0 -/
  badDb   : Nat := 0
  /-- fetch stalls on full CQs; 02 R72; 0 -/
  stalls  : Nat := 0
  /-- messages sent from pending; 02 R72; 0 -/
  pend    : Nat := 0
  /-- link retrains; 02 R72; 0 -/
  retrain : Nat := 0
  /-- LINK_CAPACITY events with BELOW = 1; 02 R72; 0 -/
  below   : Nat := 0
  /-- FLRs and link downs; 02 R72; 0 -/
  flr     : Nat := 0
deriving DecidableEq, Repr, Inhabited

/-- The PCI Express side of the function (02 R35-R38, R562; 20 R512). -/
structure Pcie where
  /-- the link is in L0; 02 R37; false -/
  up       : Bool := false
  /-- link rate 1-7 for 2.5-128 GT/s; 02 R36; 1 DESIGN CHOICE 5 -/
  rate     : Nat := 1
  /-- link width; 02 R36; 1 DESIGN CHOICE 5 -/
  width    : Nat := 1
  /-- Bus Master Enable; 02 R562; false -/
  bme      : Bool := false
  /-- the function is in D3hot; 20 R512; false -/
  d3hot    : Bool := false
  /-- MSI-X function mask; 02 R67; false -/
  funcMask : Bool := false
  /-- MSI-X table entries that differ from their reset value, by vector; 02 R42; empty -/
  msix     : List (Nat × MsixEnt) := []
  /-- vectors whose pending bit is set; 02 R67; empty -/
  pba      : List Nat := []
  /-- a LINK_CAPACITY shortfall is in place; 02 R37; false -/
  short    : Bool := false
  /-- how often host-bound delivery has stopped or resumed, which dates a frame, record or period (02 R562); the model's own; 0 DESIGN CHOICE 19 -/
  epoch    : Nat := 0
deriving DecidableEq, Repr, Inhabited

/-- BAR0 registers, queues and arbitration (02). -/
structure HostIf where
  /-- HCTL.ENABLE; 02 R39; 0 -/
  enable   : Bool := false
  /-- HSTS.READY; 02 R39; 0 -/
  ready    : Bool := false
  /-- HSTS.FATAL; 02 R39; 0 -/
  fatal    : Bool := false
  /-- HSTS.ACTIVATING; 02 R39; 0 -/
  activating : Bool := false
  /-- HSTS.CFG_ERR; 02 R39; 0 -/
  cfgErr   : Bool := false
  /-- ADMIN_SQ_BASE; 02 R39; 0 -/
  asqBase  : Dword := 0
  /-- ADMIN_CQ_BASE; 02 R39; 0 -/
  acqBase  : Dword := 0
  /-- ADMIN_SIZES; 02 R39; 0 -/
  sizes    : Word := 0
  /-- HVER; 02 R39; 0 -/
  hver     : Dword := 0
  /-- the command engine has restarted, and the controller waits to be enabled again; 22 R539; false -/
  restart  : Bool := false
  /-- queue pairs by number; 02 R46; empty -/
  qps      : List (Nat × Qp) := []
  /-- W_HIGH; 02 R71; 15 -/
  wHigh    : Nat := 15
  /-- W_MEDIUM; 02 R71; 7 -/
  wMed     : Nat := 7
  /-- W_LOW; 02 R71; 3 -/
  wLow     : Nat := 3
  /-- credit of class High; 02 R51; 16 -/
  crHigh   : Nat := 16
  /-- credit of class Medium; 02 R51; 8 -/
  crMed    : Nat := 8
  /-- credit of class Low; 02 R51; 4 -/
  crLow    : Nat := 4
  /-- pair served last in each class; 02 R51; 0 DESIGN CHOICE 5 -/
  last     : Vector Nat 4 := Vector.replicate 4 (0)
  /-- outstanding commands in fetch order; 02 R48, R56; empty -/
  outst    : List Outst := []
  /-- fetch number of the next command; 02 R49, the model's own; 0 DESIGN CHOICE 1 -/
  nextTag  : Nat := 0
  /-- error log, oldest first, at most 256; 02 R72; empty -/
  errLog   : List ErrEnt := []
  /-- ERR_SEQ of the latest entry; 02 R72; 0 -/
  errSeq   : Nat := 0
  /-- host counters; 02 R72; 0 -/
  cnt      : HostCnt := {}
  /-- what is held for Bus Master Enable or D0; 02 R562; empty -/
  held     : List Held := []
deriving DecidableEq, Repr, Inhabited

/-- Events and objects (02 R52, R61-R64, R72). -/
structure Evt where
  /-- waiting events, oldest first; 02 R62; empty -/
  queue  : List Event := []
  /-- next EVENT_SEQ; 02 R62; 0 -/
  seq    : Nat := 0
  /-- EVENT_CONFIG, bit c enables class c; 02 R71; 0x1FFE -/
  mask   : Nat := 0x1FFE
  /-- open objects; 02 R72; empty -/
  objs   : List Obj := []
  /-- next generation of each slot once used, keyed by type and slot; 02 R52; empty -/
  gens   : List (Nat × Nat) := []
  /-- reservations; 01 R24; the Lagoon of the 16 front-end contexts (05 R158) -/
  resv   : List Resv := ctxResv
deriving DecidableEq, Repr, Inhabited

/-- The safety and thermal mirror (02 R41). -/
structure Mirror where
  /-- SAFE_OK; 02 R41; 0 -/
  safeOk     : Bool := false
  /-- SAFE_STATE; 02 R41; 1 -/
  safeState  : Bool := true
  /-- SAFE_IN; 02 R41; the pin -/
  safeIn     : Bool := true
  /-- STO_OUT; 02 R41; 0 -/
  stoOut     : Bool := false
  /-- LAST_FAULT; 02 R41; 0 -/
  lastFault  : Byte := 0
  /-- FAULT_COUNT; 02 R41; 0 -/
  faultCount : Half := 0
  /-- TJ; 02 R41; 0 -/
  tj         : Half := 0
  /-- THM_STATE; 02 R41; 0 -/
  thmState   : Nat := 0
  /-- HOT_SENSOR; 02 R41; 0 -/
  hotSensor  : Nat := 0
  /-- MIRROR_SEQ; 02 R41; 0 -/
  seq        : Word := 0
deriving DecidableEq, Repr, Inhabited



/-- The time unit (14 R367-R369). -/
structure Tu where
  /-- time-unit value in nanoseconds, SEC * 10^9 + NS; 14 R367; 0 -/
  ns : Nat := 0
  /-- FRAC; 14 R367; 0 -/
  frac : Nat := 0
  /-- ADDEND; 14 R367; 0x2_0000_0000 -/
  addend : Nat := 0x200000000
  /-- STEP_COUNT; 14 R369; 0 -/
  steps : Nat := 0
  /-- the root PLL is unlocked and the time unit holds; 14 R367; false -/
  held : Bool := false
deriving DecidableEq, Repr, Inhabited

/-- A receiving lane: I0-I31 are 0-31, O0-O3 are 32-35 (03 R102, R103). -/
structure Lane where
  /-- counters 0-15, saturating; 03 R102; 0, FOM_MIN 0xFF -/
  cnt      : Vector Nat 16 := (Vector.replicate 16 0).set 13 255
  /-- lane polarity inverted; 03 R104; 0 -/
  inverted : Bool := false
  /-- current FOM; 03 R104; 0 DESIGN CHOICE 5 -/
  fom      : Nat := 0
  /-- CTLE setting 0-15; 03 R98; 0 DESIGN CHOICE 5 -/
  ctle     : Nat := 0
  /-- consecutive FOM measurements below 16; 03 R100; 0 -/
  low      : Nat := 0
  /-- consecutive COMMA blocks missed or failed; 03 R101; 0 -/
  miss     : Nat := 0
  /-- which sampler set samples data; 03 R100; false DESIGN CHOICE 5 -/
  spare    : Bool := false
  /-- DFE taps, 12 at PAM4 rates and 8 at NRZ rates; 03 R98; empty DESIGN CHOICE 5 -/
  dfe      : List Int := []
  /-- reading of the nearest thermal sensor at the last calibration, 1/16 degree; 03 R100; 0 DESIGN CHOICE 5 -/
  calT     : Int := 0
  /-- instant of the last calibration, time-unit ns; 03 R100; 0 DESIGN CHOICE 5 -/
  calNs    : Nat := 0
  /-- instant of the last FOM measurement, time-unit ns; 03 R100; 0 DESIGN CHOICE 5 -/
  fomNs    : Nat := 0
  /-- scrambler state; 03 R80; 0 DESIGN CHOICE 5 -/
  scr      : Word := 0
  /-- fetch number of the eye scan that runs; 03 R106; none -/
  scan     : Option Nat := none
  /-- that scan has been stopped; 03 R106; false -/
  scanStop : Bool := false
deriving DecidableEq, Repr, Inhabited

/-- A back-channel frame that waits to be sent (03 R93): its class, its payload, when it was handed over, and the TAG of
the register message it carries. -/
structure BcMsg where
  cls     : Nat
  payload : List Byte
  ns      : Nat
  tag     : Option Byte := none
deriving DecidableEq, Repr, Inhabited

/-- The link sequencer of a sensor port (03 R85-R101). -/
structure Link where
  /-- state, R85 values 0-7; 03 R85; 0 DISABLED -/
  state    : Nat := 0
  /-- FAIL_REASON of the last failure; 03 R85; 0 -/
  reason   : Nat := 0
  /-- RATE_CODE; 03 R76; 0 -/
  rate     : Nat := 0
  /-- port width; 04 R117; 0 -/
  width    : Nat := 0
  /-- CLK_SRC is REF; 03 R78; false -/
  clkRef   : Bool := false
  /-- PRESET_SEARCH; 04 R117; false -/
  search   : Bool := false
  /-- back-channel sleep permitted; 04 R117; false -/
  bcSleep  : Bool := false
  /-- the back channel sleeps; 03 R95; false -/
  bcAsleep : Bool := false
  /-- lanes fully reversed; 03 R86; false -/
  reversed : Bool := false
  /-- D in PCLK; 03 R88; 0 -/
  d        : Nat := 0
  /-- D holds from an earlier UP; 03 R90; false -/
  dHeld    : Bool := false
  /-- adaptation attempts failed; 03 R87; 0 -/
  attempts : Nat := 0
  /-- an adaptation result is stored; 03 R97; false -/
  adapted  : Bool := false
  /-- RETRAIN rather than TRAIN_REQ is repeated; 03 R563; false -/
  retrain  : Bool := false
  /-- the sensor reports TX_EQ_CAPABLE; 03 R83; false -/
  txEq     : Bool := false
  /-- transmit preset in use; 03 R104; 0 DESIGN CHOICE 5 -/
  preset   : Nat := 0
  /-- preset asked for in the search, none when no search runs; 03 R94; none -/
  asked    : Option Nat := none
  /-- the search has ended and its best preset is being put back; 03 R99; false -/
  final    : Bool := false
  /-- TX_PRESET has been repeated; 03 R94; false -/
  again    : Bool := false
  /-- best preset acknowledged and the FOM of each lane there; 03 R99; none -/
  best     : Option (Nat × List Nat) := none
  /-- ALIGN has seen its first COMMA block time; 03 R86; false -/
  seen     : Bool := false
  /-- time-unit instants of elastic slips within the last second; 03 R85; empty -/
  slips    : List Nat := []
  /-- frames waiting for the back channel, in the order handed over; 03 R93; empty -/
  bcq      : List BcMsg := []
  /-- instant from which the back channel is free for a frame, after the two K28.5 behind the last one, time-unit ns; 03 R91; 0 -/
  bcFree   : Nat := 0
  /-- instants of the first and of the last TRAIN_REQ, or RETRAIN, of this wait for TRAIN blocks; 03 R85, R86, R563; none -/
  req      : Option (Nat × Nat) := none
  /-- instant of the entry to FAIL, time-unit ns; 03 R85; 0 -/
  failNs   : Nat := 0
  /-- instant of the entry to ALIGN, time-unit ns; 03 R101; 0 -/
  alignNs  : Nat := 0
  /-- end of the last TX_PRESET frame, time-unit ns, none while it waits; 03 R94; none -/
  askedNs  : Option Nat := none
deriving DecidableEq, Repr, Inhabited


/-- Exposure timing: EO ns, ED ns, LS ps (04 R117, R122). -/
structure Timing where
  eo : Nat := 0
  ed : Nat := 0
  ls : Nat := 0
deriving DecidableEq, Repr, Inhabited

/-- A latch of an axis record: LSTATE (0 VALID, 1 NOT_VALID, 2 LATE, 3 NOT_READY), POS_Q, SPEED, and its
instant in time-unit ns (17 R450). -/
structure LatchRes where
  st    : Nat
  posQ  : Int
  speed : Int
  t     : Nat
deriving DecidableEq, Repr, Inhabited

/-- An entry of a frame's axis record (17 R450). -/
structure AxEnt where
  axis    : Nat
  mode    : Nat
  flags   : Nat
  tag     : Nat
  /-- latches 0, 1, 2 -/
  latches : List LatchRes
deriving DecidableEq, Repr, Inhabited

/-- The axis record of a frame (17 R450). -/
structure AxRec where
  port : Nat
  num  : Nat
  ents : List AxEnt
  /-- the record as a Holm Raw header carried it (10 R283) -/
  raw  : Option (List Byte) := none
deriving DecidableEq, Repr, Inhabited

/-- A triggered frame of a port that awaits its FS (04 R122, R125). -/
structure Trig where
  num  : Nat
  /-- trigger instant, time-unit ns -/
  t    : Nat
  tm   : Timing
  /-- GENLOCK_FREE (04 R126) -/
  free : Bool
  /-- FILL_CAUSE of the fill frame it is bound to become, 0 while it awaits its FS (04 R125) -/
  doom : Nat
deriving DecidableEq, Repr, Inhabited

/-- Geometry of the port a frame came from (04 R117). -/
structure Geo where
  bits    : Nat
  streams : Nat
  samples : Nat
  height  : Nat
deriving DecidableEq, Repr, Inhabited

/-- A frame of a port: its identity, status word, lines and embedded data (04 R122-R126, R138). -/
structure Frm where
  port  : Nat
  num   : Nat
  /-- trigger instant, time-unit ns -/
  t     : Nat
  tm    : Timing
  /-- frame status word (04 R126) -/
  status : Nat
  /-- received lines: stream, index, payload -/
  lines : List (Nat × Nat × List Byte)
  /-- highest line index seen of each stream, plus one -/
  next0 : Nat
  next1 : Nat
  /-- embedded lines kept -/
  emb   : List (List Byte)
  /-- LINES_FILLED -/
  filled : Nat
  /-- time-unit instant of the last LINE packet, or of the FS -/
  lastNs : Nat
  /-- SHARED_DELAY already counted -/
  delayed : Bool
  /-- PCRC failures of its packets (11 R315) -/
  crcErrs : Nat
  /-- front-end structure whose black levels filled its missing lines (04 R124) -/
  fe : List Byte
  /-- line check beside each line, CRC-32C of the payload as the port took it (11 R303, R305) -/
  checks : List Word := []
  /-- raw-tile checks, by stream and then tile, the embedded tile last, once it is in HBM (11 R305) -/
  tiles : List Word := []
  /-- raw tiles with their taint bit set (11 R305, R307) -/
  taint : List Nat := []
  /-- RAW_TILE raised for it (11 R315) -/
  told : Bool := false
  /-- its slot in the raw buffer or the 4-frame area (04 R135, R137) -/
  slot : Nat := 0
  /-- geometry of a frame that a decode session plays, none for the port's own (10 R283) -/
  geo : Option Geo := none
deriving DecidableEq, Repr, Inhabited

/-- A SENSOR_CTRL WRITE or READ that awaits its CTRL_RESP (04 R133). -/
structure CtrlWait where
  tag  : Byte
  cmd  : Nat
  read : Bool
  /-- end of the message's back-channel frame, time-unit ns, none while it waits to be sent (04 R134) -/
  sent : Option Nat := none
deriving DecidableEq, Repr, Inhabited

/-- A raw buffer (04 R137): a ring of RAW_BUF_FRAMES + 1 slots and the closed frames it holds, oldest first. -/
structure RawBuf where
  handle : Nat
  /-- RAW_BUF_FRAMES -/
  slots  : Nat
  frames : List Frm
deriving DecidableEq, Repr, Inhabited

/-- A FRAME_FETCH that waits for a frame (04 R138, R139). -/
structure FetchWait where
  cmd : Nat
  /-- frame number once known -/
  num : Option Nat
  /-- handle is a port: the frame is written to an area of its own -/
  own : Bool
  /-- the frame it names has closed -/
  shut : Bool
  /-- the frame it copies, once the copy has begun -/
  frm : Option Frm
deriving DecidableEq, Repr, Inhabited

/-- A sensor port (04). -/
structure Port where
  /-- enabled; 04 R117; false -/
  enabled : Bool := false
  /-- ISLE; 04 R117; 0 -/
  isle    : Nat := 0
  /-- BIND is THROUGH_MEMORY; 04 R117; false -/
  memory  : Bool := false
  /-- BITS; 04 R117; 0 -/
  bits    : Nat := 0
  /-- STREAMS; 04 R117; 0 -/
  streams : Nat := 0
  /-- LINE_SAMPLES, 0-based; 04 R117; 0 -/
  samples : Nat := 0
  /-- HEIGHT, 0-based; 04 R117; 0 -/
  height  : Nat := 0
  /-- EMB_LINES; 04 R117; 0 -/
  emb     : Nat := 0
  /-- timing in force; 04 R122; 0 -/
  timing  : Timing := {}
  /-- timing from later frames, in command order; 04 R133; empty -/
  later   : List (Nat × Timing) := []
  /-- triggered frames awaiting their FS, oldest first; 04 R125; empty -/
  await   : List Trig := []
  /-- the open frame; 04 R123; none -/
  cur     : Option Frm := none
  /-- packets are discarded up to the next FS, counted as FN_MISMATCH 1 or LATE_FS 2, or not counted 3; 0 none; 04 R125, R130; 0 -/
  skipAs  : Nat := 0
  /-- frames of the run that became fill frames without their FS, each with its FS deadline; 04 R125; empty -/
  late    : List (Nat × Nat) := []
  /-- bytes of the stream S received and not yet taken, each with the error mark of its block time; 03 R81, 04 R108; empty -/
  rx      : List (Byte × Bool) := []
  /-- hunting for a header; 04 R113; false -/
  hunt    : Bool := false
  /-- PCLK instant (half-ns of the time unit) at which fill lines of a fill frame, or of a frame closed by FE or LINE_TIMEOUT, end; 04 R125; 0 -/
  fillEnd : Nat := 0
  /-- PCLK instant at which everything handed to the Isle so far has been presented; 04 R124; 0 -/
  isleFree : Nat := 0
  /-- PCLK instants at which the lines waiting in the line store drain; 04 R124; empty -/
  store   : List Nat := []
  /-- counters 0-15; 04 R133; 0 -/
  cnt     : Vector Nat 16 := Vector.replicate 16 (0)
  /-- SENSOR_CTRL commands awaiting CTRL_RESP; 04 R133; empty -/
  ctrl    : List CtrlWait := []
  /-- TAG of the next REG_WRITE or REG_READ; 04 R114; 0 DESIGN CHOICE 5 -/
  ctag    : Byte := 0
  /-- raw buffer of the capture; 04 R137; none -/
  raw     : Option RawBuf := none
  /-- FRAME_FETCH commands that wait; 04 R139; empty -/
  fetch   : List FetchWait := []
  /-- the frame closed last, until its records are written; 04 R126; none -/
  done    : Option Frm := none
  /-- frames closed and waiting in the 4-frame area of a through-memory port; 04 R135; empty -/
  area    : List Frm := []
  /-- decode session that plays into an Isle under this port's context; 10 R283; none -/
  play    : Option Nat := none
  /-- through-memory frames of that session dropped under 04 R136; 10 R283; 0 -/
  playDrop : Nat := 0
  /-- time of the last frame close, PCLK; 11 R314; 0 -/
  closed  : Nat := 0
deriving DecidableEq, Repr, Inhabited

/-- A capture run's stop (04 R130). -/
structure Stop where
  frame : Nat
  immediate : Bool
  /-- fetch numbers of the CAPTURE_STOP commands that complete with it -/
  cmds  : List Nat
deriving DecidableEq, Repr, Inhabited

/-- A sync group (04 R119-R130). -/
structure Group where
  /-- MEMBERS; 04 R119; 0 -/
  members : Nat := 0
  /-- TRIG_SRC is GENLOCK; 04 R119; false -/
  genlock : Bool := false
  /-- GL_DIV; 04 R119; 0 -/
  glDiv   : Nat := 0
  /-- GL_EDGE is falling; 04 R119; false -/
  falling : Bool := false
  /-- RATE_NUM; 04 R119; 0 -/
  num     : Nat := 0
  /-- RATE_DEN; 04 R119; 0 -/
  den     : Nat := 0
  /-- PHASE_NS; 04 R119; 0 -/
  phase   : Nat := 0
  /-- FS_WINDOW_US; 04 R119; 0 -/
  window  : Nat := 0
  /-- capturing, from CAPTURE_START's completion to the run's end; 04 R127; false -/
  run     : Bool := false
  /-- START_FRAME; 04 R127; 0 -/
  start   : Nat := 0
  /-- S, the earliest first trigger; 04 R127; 0 -/
  s       : Nat := 0
  /-- number of the next frame to trigger; 04 R127; 0 -/
  next    : Nat := 0
  /-- a trigger of the run has been sent; 04 R127; false -/
  fired   : Bool := false
  /-- instant of the last trigger; 04 R121; 0 -/
  lastT   : Nat := 0
  /-- grid index of the next trigger: k of TIME, i of GENLOCK; 04 R120; 0 -/
  k       : Nat := 0
  /-- GENLOCK anchor, the stamp of the last edge accepted; 04 R121; none -/
  anchor  : Option Nat := none
  /-- the group runs free; 04 R121; false -/
  free    : Bool := false
  /-- a stop that waits; 04 R130; none -/
  stop    : Option Stop := none
  /-- no trigger follows; 04 R130; false -/
  ended   : Bool := false
  /-- fill frames of the run; 04 R130; 0 -/
  fills   : Nat := 0
  /-- SHED_PRIO; 04 R127; 0 -/
  prio    : Nat := 0
  /-- the boundary that CAPTURE_START's RESULT gave for the first trigger; 04 R127; none -/
  first   : Option Nat := none
  /-- earlier edges with triggers still to send, each with the index of its next one; 04 R120; empty -/
  olds    : List (Nat × Nat) := []
deriving DecidableEq, Repr, Inhabited


/-- The F24 code of 1.0, and of a power of two (05 R141). -/
def f24One : Nat := 63 * 65536

/-- R157's defaults of ISLE_CONFIG: 2 x 2 pattern 0, 1 / 1, 2, CLIP_CODE 0xFFFF, DEFECT_MAX 0x03FF, a
3 x 3 grid of 1,024-sample cells, LOG base -16, one zone of 1,024 x 1,024; the fields R157 does not
name are 0 (notes/assumptions/5.md). -/
def feDefault : List Byte :=
  [2, 2, 3, 0] ++ toLE 8 (0x0 + 0x1 * 16 + 0x1 * 2 ^ 16 + 0x2 * 2 ^ 20) ++ toLE 4 0xFFFFFFFF ++
  List.replicate 34 0 ++ toLE 2 0x03FF ++ List.replicate 6 0 ++ [3, 3, 10, 10] ++
  List.replicate 14 0 ++ [1, 0xF0] ++ List.replicate 10 0 ++ toLE 2 1023 ++ toLE 2 1023 ++
  List.replicate 36 0

/-- Crosstalk kernels of n positions at their default (05 R158). -/
def xtalkDefault (n : Nat) : List Int :=
  (List.range n).flatMap fun _ => [0, 0, 0, 0, 16384, 0, 0, 0, 0]

/-- R203's defaults of PARAMS. -/
def paramsDefault : List Byte :=
  let one := toLE 4 f24One
  let unit (k : Nat) : List Byte := (List.range 3).flatMap fun j => if j = k then one else toLE 4 0
  let mat := unit 0 ++ unit 1 ++ unit 2 ++ List.replicate 36 0 ++ List.replicate 12 0
  List.replicate 4 0 ++ (List.range 6).flatMap (fun _ => one) ++ mat ++ mat ++ one ++
  toLE 4 0x3E999A ++ toLE 4 0x3E999A ++ toLE 4 0x3EB333 ++
  toLE 4 0x3F3333 ++ toLE 4 0x3F4000 ++ toLE 4 0x3F4CCD ++ [0, 1, 3, 0] ++
  toLE 4 0x3E0000 ++ toLE 4 0x400000 ++ List.replicate 20 0

/-- R203's defaults of TAP_OUTPUT: identity, no offset, LINEAR. -/
def tapOutDefault : List Byte :=
  let one := toLE 4 f24One
  let z := toLE 4 0
  toLE 4 0 ++ one ++ z ++ z ++ z ++ one ++ z ++ z ++ z ++ one ++ List.replicate 24 0

/-- What a frame's processing is configured with, per port context of an Isle (05 R145, 06 R174). -/
structure Pipe where
  /-- ISLE_CONFIG structure, 128 bytes; 05 R156; R157's defaults -/
  fe      : List Byte := feDefault
  /-- COLFPN table of stream 0; 05 R147; empty -/
  col0    : List Int := []
  /-- COLFPN table of stream 1; 05 R147; empty -/
  col1    : List Int := []
  /-- static defect map; 05 R152; empty -/
  defects : List Nat := []
  /-- shading nodes G[c][j][i]; 05 R154; every node 4096 -/
  shading : List Nat := List.replicate 27 4096
  /-- crosstalk kernels K[p][dy][dx]; 05 R155; 16384 in the centre -/
  xtalk   : List Int := xtalkDefault 4
  /-- demosaic kernel sets, empty for the default kernels; 06 R179; empty -/
  kern    : List (List Int) := []
  /-- EDGE_GAIN; 06 R179; 0 -/
  edgeGain : Nat := 0
  /-- EDGE_CORE, F24; 06 R179; 0 -/
  edgeCore : Nat := 0
  /-- PARAMS, 256 bytes; 06 R199; R203's defaults -/
  params  : List Byte := paramsDefault
  /-- blend grid, 576 weights; 06 R183; 0 -/
  grid    : List Nat := List.replicate 576 0
deriving DecidableEq, Repr, Inhabited

/-- A statistics subscription (05 R165-R167). -/
structure StatSub where
  slots  : Nat
  vector : Nat
  decim  : Nat
  prio   : Nat
  fpsMax : Nat
  stride : Nat
  /-- last sequence number used -/
  seq    : Nat
  /-- position of the next frame in the subscription's run -/
  pos    : Nat
  /-- trigger of the last frame recorded -/
  lastT  : Option Nat
  /-- the sequence number last written to each slot -/
  wrote  : List (Nat × Nat) := []
  /-- fetch number of the ENABLE = 0 that waits for the record in progress (05 R166) -/
  closing : Option Nat := none
deriving DecidableEq, Repr, Inhabited

/-- What a tap applies to one frame: its structure, encoding and look bank (07 R218, 06 R192). -/
structure TapSnap where
  cfg    : List Byte
  tapOut : List Byte
  look   : List Byte
  /-- its sequence number in the tap's host ring, none where it does not go there (07 R220) -/
  slot   : Option Nat := none
deriving DecidableEq, Repr, Inhabited

/-- A frame in process by an Isle, with the configuration in force for it (05 R145, 06 R174). -/
structure RunSnap where
  num  : Nat
  pipe : Pipe
  /-- what each tap applies, none where it drops the frame -/
  taps : List (Option TapSnap)
  /-- epoch of host-bound delivery in which it began (02 R562) -/
  ep   : Nat := 0
deriving DecidableEq, Repr, Inhabited

/-- A frame that an Isle has processed: what its statistics and pictures are computed from. -/
structure FinFrm where
  frm  : Frm
  geo  : Geo
  pipe : Pipe
  /-- optical-black estimate at its line 0 -/
  ob   : List Int
  /-- epoch of host-bound delivery in which the Isle began it (02 R562) -/
  ep   : Nat := 0
deriving DecidableEq, Repr, Inhabited

/-- A context of an Isle: one for each sensor port (05 R145). -/
structure IsleCtx where
  /-- active configuration; 05 R145; defaults -/
  pipe   : Pipe := {}
  /-- optical-black estimate, stream-major, 6 filters each, 1/16 code; 05 R148; 0 -/
  ob     : List Int := List.replicate 12 0
  /-- statistics subscription; 05 R165; none -/
  sub    : Option StatSub := none
  /-- frame in process; 05 R145; none -/
  run    : Option RunSnap := none
  /-- statistics record in writing: its sequence number and the frame; 05 R167; none -/
  fin    : Option (Nat × FinFrm) := none
  /-- STATS_SKIPPED; 05 R167; 0 -/
  skipped : Nat := 0
  /-- STATS_DROPPED; 05 R167; 0 -/
  dropped : Nat := 0
  /-- frame whose STATS grid update is to come; 06 R184; none -/
  gridOf : Option FinFrm := none
  /-- expected known-answer value of the active configuration is ready; 11 R313; false -/
  katReady : Bool := false
  /-- that of the pending configuration is ready; 11 R313; false -/
  katNext : Bool := false
  /-- a pattern precedes the next frame; 11 R314; false -/
  katRun : Bool := false
  /-- frame of the last test compared before that frame began, and whether it passed; 11 R310, R313; none -/
  katDone : Option (Nat × Bool) := none
  /-- consecutive frames without a test; 11 R314; 0 -/
  katSkips : Nat := 0
  /-- KAT_STARVED raised since the last test; 11 R314; false -/
  katStarved : Bool := false
  /-- shadow commands whose completion awaits the test of the frame they took effect at: fetch number and RESULT; 11 R310; empty -/
  katWait : List (Nat × Nat) := []
deriving DecidableEq, Repr, Inhabited

/-- A look slot with its two banks; an empty list is an empty bank (06 R189). -/
structure LookSlot where
  /-- active bank, a LOOK object; 06 R203; empty -/
  active   : List Byte := []
  /-- inactive bank; 06 R203; empty -/
  inactive : List Byte := []
deriving DecidableEq, Repr, Inhabited

/-- A shadow copy that waits to become active (05 R160, R161). Kinds: 1 ISLE_CONFIG, 2 FE table, 3
kernels, 4 PARAMS, 5 blend grid, 6 TAP_OUTPUT, 7 LOOK_SELECT, 8 TAP_CONFIG enable, 9 TAP_CONFIG disable,
10 ENC_RECONFIG. -/
structure Shadow where
  kind  : Nat
  /-- context, tap or slot -/
  idx   : Nat
  /-- FE table number, with COLFPN counted per stream -/
  sub   : Nat
  /-- port whose frames count -/
  port  : Nat
  /-- APPLY_FRAME; 0xFFFF_FFFF for the next frame -/
  apply : Nat := 0
  /-- earliest trigger that counts as the next frame -/
  minT  : Nat
  /-- fetch number of its command -/
  cmd   : Nat
  bytes : List Byte
  /-- the command has completed with DEFERRED -/
  deferred : Bool
  /-- first frame triggered that counts for it (05 R160) -/
  hit : Option Nat := none
deriving DecidableEq, Repr, Inhabited

/-- A host ring (07 R220). -/
structure HRing where
  slots  : Nat
  vector : Nat
  stride : Nat
  /-- last sequence number used -/
  seq    : Nat
  prio   : Nat
  /-- the sequence number last written to each slot -/
  wrote  : List (Nat × Nat) := []
deriving DecidableEq, Repr, Inhabited

/-- A frame a tap has processed: the Isle's frame and what the tap applies. -/
structure TapFin where
  fin  : FinFrm
  snap : TapSnap
  /-- instant at which the tap had presented it, time-unit ns -/
  at' : Nat
  /-- its slot in the source ring of the attachment that holds it -/
  slot : Nat := 0
deriving DecidableEq, Repr, Inhabited

/-- An output tap (07). -/
structure Tap where
  /-- enabled; 07 R221; false -/
  on      : Bool := false
  /-- TAP_CONFIG structure with its tables; 07 R218; empty -/
  cfg     : List Byte := []
  /-- BITS taken at TAP_CONFIG; 07 R219; 16 DESIGN CHOICE 5 -/
  bits    : Nat := 16
  /-- STREAMS taken at TAP_CONFIG; 07 R219; 2 DESIGN CHOICE 5 -/
  streams : Nat := 2
  /-- host ring; 07 R220; none -/
  ring    : Option HRing := none
  /-- attachments besides the ring: kind (1 encode, 2 BUFFERED head, 3 flow, 4 DIRECT head) and handle; 07 R217; empty -/
  att     : List (Nat × Nat) := []
  /-- frames handed to each attachment and not yet taken, oldest first; 07 R217; empty -/
  queue   : List (Nat × TapFin) := []
  /-- trigger of the last frame passed; 07 R216; none -/
  lastT   : Option Nat := none
  /-- TAP_GEOMETRY count; 07 R209; 0 -/
  geom    : Nat := 0
  /-- TAP_SKIPPED count; 07 R216; 0 -/
  skipped : Nat := 0
  /-- HOST_RING_DROPPED count; 07 R220; 0 -/
  dropped : Nat := 0
  /-- frame in writing to the ring, with its sequence number; 07 R220; none -/
  out     : Option (Nat × TapFin) := none
deriving DecidableEq, Repr, Inhabited

/-- A through-memory frame in process (04 R135). -/
structure TmRun where
  port : Nat
  num  : Nat
  /-- tile rows started -/
  rows : Nat
  /-- raw-tile checks of those rows, as the saved context carries them (04 R135, 11 R305) -/
  checks : List Word := []
  /-- a tile read so far failed its check or is tainted (11 R307) -/
  marred : Bool := false
deriving DecidableEq, Repr, Inhabited

/-- An Isle (05, 06, 07). -/
structure Isle where
  /-- contexts of P0-P3; 05 R145; defaults -/
  ctx    : Vector IsleCtx 4 := Vector.replicate 4 ({})
  /-- look slots; 06 R189; empty banks -/
  looks  : Vector LookSlot 4 := Vector.replicate 4 ({})
  /-- route of each tap, 4 bypass; 06 R192; 4 -/
  route  : Vector Nat 8 := Vector.replicate 8 4
  /-- TAP_OUTPUT objects, 64 bytes; 06 R200; R203's defaults -/
  tapOut : Vector (List Byte) 8 := Vector.replicate 8 tapOutDefault
  /-- taps T0-T7; 07 R208; disabled -/
  taps   : Vector Tap 8 := Vector.replicate 8 ({})
  /-- pending shadows in fetch order; 05 R161; empty -/
  shadows : List Shadow := []
  /-- PCLK instant at which the tile row in process ends; 04 R135; 0 -/
  rowEnd : Nat := 0
  /-- through-memory frame in process; 04 R135; none -/
  tm     : Option TmRun := none
  /-- ports with a closed frame waiting, in close order; 04 R136; empty -/
  wait   : List Nat := []
deriving DecidableEq, Repr, Inhabited



/-- A pending ENC_FORCE of a session (08 R251). -/
structure EncForce where
  /-- fetch number of its command -/
  cmd      : Nat
  /-- the command completes with this session's picture; false for a member of the group it names -/
  lead     : Bool := false
  actions  : Nat
  apply    : Nat
  /-- trigger from which the next frame counts -/
  minT     : Nat
  deferred : Bool
  /-- first frame triggered to which it applies -/
  hit      : Option Nat := none
deriving DecidableEq, Repr, Inhabited

/-- What the row loop of an engine has come to in its tile column (08 R241, R253). -/
structure RcRun where
  /-- bits used -/
  used   : Nat
  /-- floor rows -/
  tail   : Nat := 0
  /-- CTUs re-coded in floor mode -/
  floor  : Nat := 0
  /-- bits of each slice or tile, latest first -/
  slices : List (List Bool) := []
  /-- sum and count of the QPs of its CTUs, the lowest and the highest -/
  qpSum  : Nat := 0
  qpN    : Nat := 0
  qpLow  : Nat := 255
  qpHigh : Nat := 0
deriving DecidableEq, Repr, Inhabited

/-- A picture in coding order (08 R227, R228, R233, R238). -/
structure GopPic where
  num   : Nat
  key   : Bool
  /-- it precedes its mini-GOP's anchor in output order -/
  inner : Bool
  /-- it is coded before a picture that precedes it in output order: AV1 shows it later -/
  hidden : Bool
  /-- the anchor of its mini-GOP is a key picture -/
  radl  : Bool
  /-- other pictures may predict from it -/
  isRef : Bool
  /-- temporal layer -/
  layer : Nat
  /-- instant at which its mini-GOP was ready, time-unit ns -/
  ready : Nat
deriving DecidableEq, Repr, Inhabited

/-- A picture of the reference set (08 R233, R243, R254). -/
structure EncRef where
  num   : Nat
  /-- CTU columns or rows of it that the sweep in progress has made clean -/
  clean : Nat
  /-- its place in the buffer of reference pictures -/
  slot  : Nat
deriving DecidableEq, Repr, Inhabited

/-- What a picture is coded to, fixed as it begins (08 R239-R244). -/
structure EncPlan where
  pic    : GopPic
  /-- its place in a sweep -/
  sweep  : Option Nat
  /-- a sweep starts with it -/
  start  : Bool
  /-- actions of the ENC_FORCE that applies to it -/
  forced : Option Nat
  /-- the units ahead of its slices or tile groups, and those after them -/
  head   : List Byte
  trail  : List Byte
  target : Nat
  limit  : Nat
  /-- T and L of each engine -/
  shares : List (Nat × Nat)
  /-- reference pictures it may use, nearest first -/
  refs   : List EncRef
  /-- epoch of host-bound delivery (02 R562) -/
  ep     : Nat
  /-- its sequence number in the host ring, none where the ring drops it or there is none -/
  ring   : Option Nat
deriving DecidableEq, Repr, Inhabited

/-- A BUFFERED picture in progress (08 R232). -/
structure EncWork where
  plan  : EncPlan
  /-- what each engine's part came to -/
  parts : List (Option RcRun)
  /-- tile column boundaries filtered, by the column to their left -/
  edges : List Nat
deriving DecidableEq, Repr, Inhabited

/-- A DIRECT picture in progress (08 R235, R241). -/
structure EncRow where
  num   : Nat
  plan  : EncPlan
  /-- rows done -/
  rows  : Nat
  run   : RcRun
  bytes : List Byte
  /-- bytes of each segment so far (11 R304) -/
  segs  : List Nat
  /-- 0 none, 1 engine fault, 2 memory error -/
  fault : Nat
  /-- the rows that remain are coded in floor mode -/
  floorAll : Bool
deriving DecidableEq, Repr, Inhabited

/-- A picture a session has delivered (08 R244, R253). -/
structure EncAu where
  num    : Nat
  record : List Byte
  metaRec : List Byte
  bytes  : List Byte
deriving DecidableEq, Repr, Inhabited

/-- An encode session (08 R233, R246-R256). -/
structure EncSes where
  handle  : Nat
  /-- handle of the source tap -/
  tap     : Nat
  /-- the new source tap of an ENC_RECONFIG and the frame from which it counts, until its first frame is taken (08 R250) -/
  newTap  : Option (Nat × Nat) := none
  /-- ENC_OPEN structure, 128 bytes, with the changes in force -/
  cfg     : List Byte
  /-- level chosen -/
  level   : Nat := 0
  /-- picture width and height -/
  w       : Nat
  h       : Nat
  /-- tap FORMAT -/
  fmt     : Nat
  /-- picture rate, numerator and denominator -/
  rate    : Nat × Nat
  engines : List Nat
  /-- ladder group handle, 0 for none -/
  ladder  : Nat
  /-- frame in presentation when the session began with its tap -/
  skip    : Option Nat
  /-- pictures coded, which is the next DECODE_INDEX -/
  count   : Nat
  /-- last frame coded -/
  last    : Option Nat
  /-- newest frame whose picture type is decided -/
  decided : Option Nat := none
  /-- pictures since the last key picture -/
  sinceKey : Nat
  /-- frame of the last key picture -/
  keyFrame : Option Nat
  /-- next picture of the sweep, none before the first -/
  sweep   : Option Nat
  /-- period of the sweep in progress -/
  period  : Nat
  /-- frame of the last sweep start -/
  sweepFrame : Option Nat
  /-- the next picture is a key picture, or a sweep start under gradual refresh -/
  restart : Bool
  /-- changes from a frame, in order: frame, and the 32 bytes of the command -/
  later   : List (Nat × List Byte)
  force   : Option EncForce
  /-- pictures of the mini-GOP not yet coded, in coding order -/
  gop     : List GopPic := []
  /-- reference set, latest coded first -/
  refs    : List EncRef := []
  /-- parameter sets sent last -/
  psets   : List (List Byte) := []
  /-- frame whose entropy state initialises the next picture of AV1, none for the defaults -/
  entropy : Option Nat := none
  /-- fullness of the buffer model, bits times the rate's numerator -/
  vbv     : Nat := 0
  /-- times the rate model has been reset, and pictures since -/
  rcResets : Nat := 0
  rcCount : Nat := 0
  /-- bits of the previous picture in each tile column; empty for equal shares -/
  colBits : List Nat := []
  /-- frames of the mini-GOP not yet shown, in output order, and those of them already coded -/
  display : List Nat := []
  hidden  : List Nat := []
  /-- the temporal unit is not complete (AV1) -/
  tuOpen  : Bool := false
  /-- bytes of a slot of the source ring, 0 for none -/
  srcBytes : Nat := 0
  /-- BUFFERED picture in progress -/
  work    : Option EncWork := none
  /-- last sequence number of the ring -/
  seq     : Nat
  dropped : Nat
  /-- sequence number last written in each slot of the ring -/
  wrote   : List (Nat × Nat) := []
  /-- DIRECT picture in progress -/
  cur     : Option EncRow
  /-- fetch numbers of the ENC_CLOSE commands that wait -/
  closing : List Nat
  /-- an IMMEDIATE close -/
  now     : Bool
  /-- thermal shedding closes it -/
  shed    : Bool := false
  /-- the end-of-sequence NAL unit has been sent -/
  eos     : Bool := false
  /-- frames a closing session may still code -/
  allow   : List Nat
  /-- access unit delivered last -/
  au      : Option EncAu
deriving DecidableEq, Repr, Inhabited

/-- A motion field (08 R237): the frame, its instant, and a vector for each 16 x 16 block in raster order, in samples. -/
structure MField where
  num  : Nat
  ns   : Nat
  vecs : List (Int × Int)
deriving DecidableEq, Repr, Inhabited

/-- A ladder group (08 R236, R237). -/
structure Ladder where
  handle : Nat
  /-- session handle of the top -/
  top    : Nat
  /-- motion fields kept, latest first, at most 8 -/
  fields : List MField
deriving DecidableEq, Repr, Inhabited



/-- A block row an engine has done: its instant in time-unit ns, and its choices, tile columns in order, in each the coded
streams, in each its blocks. -/
structure HolmRow where
  at'     : Nat
  choices : List HolmChoice
deriving DecidableEq, Repr, Inhabited

/-- A frame that a Holm Raw session codes (09 R267-R269). -/
structure HolmWork where
  num   : Nat
  /-- trigger instant -/
  t     : Nat
  tm    : Timing
  /-- the frame once closed -/
  frm   : Option Frm
  /-- block rows done -/
  rows  : List HolmRow
  /-- 0 none, 1 parity, 2 row timeout: the blocks not done are FLAT -/
  fault : Nat
  /-- the blocks not done are FLAT because the session closes at once -/
  cut   : Bool
  /-- PCLK instants of R268 of the block rows whose lines an in-line port has presented -/
  due   : List Nat := []
  /-- a through-memory read met an uncorrectable error (R275) -/
  mem   : Bool := false
  /-- blocks it touched, which are FLAT: stream, block row, block column -/
  holes : List (Nat × Nat × Nat) := []
  /-- epoch of host-bound delivery at its trigger (02 R562) -/
  ep    : Nat := 0
deriving DecidableEq, Repr, Inhabited

/-- An access unit a session has completed (09 R257). -/
structure HolmAu where
  num    : Nat
  status : Nat
  holm   : Nat
  expNs  : Nat
  bytes  : List Byte
deriving DecidableEq, Repr, Inhabited

/-- A Holm Raw session (09 R267-R274). -/
structure HolmSes where
  handle : Nat
  port   : Nat
  isle   : Nat
  /-- HOLM_OPEN structure -/
  cfg    : List Byte
  /-- geometry in force at HOLM_OPEN -/
  geo    : Geo
  memory : Bool
  /-- trigger of the last frame coded -/
  lastT  : Option Nat
  /-- number of the last frame coded -/
  last   : Option Nat
  /-- frames coded -/
  count  : Nat
  /-- frames skipped -/
  skipped : Nat
  /-- last ring sequence number used -/
  seq    : Nat
  /-- ring frames discarded -/
  dropped : Nat
  /-- sequence number that each ring slot holds -/
  wrote  : List (Nat × Nat) := []
  work   : List HolmWork
  /-- fetch numbers of the HOLM_CLOSE commands that wait; the session takes no new frame -/
  closing : List Nat := []
  /-- IMMEDIATE has been asked -/
  now    : Bool
  /-- last access unit completed -/
  au     : Option HolmAu
deriving DecidableEq, Repr, Inhabited



/-- Input bytes of a decode session with what their submission said (10 R287). -/
structure DecIn where
  seq   : Nat
  tag   : Nat
  /-- PTS_NS, until the first picture that begins in the bytes -/
  pts   : Option Nat
  bytes : List Byte
  /-- DISCONTINUITY applies before the data -/
  disc  : Bool
  /-- EOS applies after the data -/
  eos   : Bool
  /-- NO_OUTPUT -/
  mute  : Bool
  /-- AU_END -/
  auEnd : Bool
  /-- bytes that are lost: offset and length (10 R289, 14 R383) -/
  holes : List (Nat × Nat) := []
  /-- instant at which they were in the buffer, time-unit ns -/
  at'   : Nat
  /-- where they begin in the input buffer -/
  pos   : Nat := 0
deriving DecidableEq, Repr, Inhabited

/-- A decoded picture (10 R280, R296, R297). -/
structure DecPic where
  /-- 0-based -/
  width   : Nat
  height  : Nat
  /-- held format (R280) -/
  format  : Nat
  /-- 0 key or IRAP, 1 P, 2 B -/
  picType : Nat
  /-- left, right, top, bottom crop in luma samples -/
  crop    : List Nat
  errMap  : List Nat
  /-- R293 applied -/
  substRef : Bool
  filmGrain : Bool
  /-- uncorrectable memory error on a reference read -/
  memErr  : Bool
  /-- its engine met a fault -/
  fault   : Bool
deriving DecidableEq, Repr, Inhabited

/-- A decoded picture on its way to output (10 R295, R296). -/
structure DecOut where
  /-- its place in decode order since open -/
  id     : Nat
  seq    : Nat
  tag    : Nat
  /-- DEC_STATUS -/
  status : Nat
  /-- P -/
  p      : Nat
  doneNs : Nat
  pic    : DecPic
  /-- planes as held -/
  planes : List Byte
  /-- the axis record of a Holm Raw picture -/
  axis   : List Byte
  /-- the frame of a Holm Raw picture -/
  frm    : Option Frm
  geo    : Geo
  /-- an EOS record instead of a picture -/
  eos    : Bool
  /-- its slot of the session's HBM buffer -/
  place  : Nat := 0
  /-- epoch of host-bound delivery as it was decoded (02 R562) -/
  ep     : Nat := 0
deriving DecidableEq, Repr, Inhabited

/-- A picture of the decoded picture pool (10 R290, R293). -/
structure PoolPic where
  out   : DecOut
  /-- POC or order hint -/
  poc   : Int
  /-- of HEVC: 0 unused for reference, 1 short-term, 2 long-term -/
  mark  : Nat
  /-- of AV1: the reference slots that hold it -/
  slots : List Nat
  /-- luma samples, and the samples of its components in raster order -/
  w     : Nat
  h     : Nat
  comps : List (List Nat)
  /-- a key frame of AV1 -/
  key   : Bool
  /-- it waits for output, and has for so many pictures -/
  wait  : Bool
  age   : Nat
  /-- poisoned: it has left the reference set (10 R299) -/
  lost  : Bool
deriving DecidableEq, Repr, Inhabited

/-- A decode session (10). -/
structure DecSes where
  handle  : Nat
  /-- DEC_OPEN structure, 128 bytes -/
  cfg     : List Byte
  /-- engine of an RT1 session, none for DF -/
  engine  : Option Nat
  input   : List DecIn := []
  /-- bytes put into the input buffer since open -/
  inBytes : Nat := 0
  /-- submissions so far -/
  subs    : Nat := 0
  /-- the next picture is a first one: at the start, after DISCONTINUITY, EOS or the end of its sequence -/
  start   : Bool := true
  /-- discards up to a supported key picture (R290) -/
  skipping : Bool := false
  /-- parameter sets or sequence headers so far, the latest last -/
  psets   : List (List Byte) := []
  /-- the pool of HEVC and AV1 -/
  pool    : List PoolPic := []
  /-- of HEVC: POC of the last picture that the next POC counts from -/
  prevPoc : Int := 0
  /-- of HEVC: RASL pictures of the last IRAP picture are not output -/
  noRasl  : Bool := false
  /-- P of the previous picture -/
  lastP   : Option Nat := none
  /-- pictures output and not yet presented -/
  outq    : List DecOut := []
  /-- pictures presented and still held for a head, latest first -/
  shown   : List DecOut := []
  /-- pictures output since open -/
  count   : Nat := 0
  /-- access units discarded since the last record -/
  discards : Nat := 0
  /-- previous Holm Raw frame, kept for concealment (R292) -/
  prev    : Option (Geo × Frm) := none
  /-- the engine met a fault at the picture in progress: CTUs, superblocks or tiles decoded by then (R299) -/
  fault   : Option Nat := none
  /-- last sequence number of the ring -/
  seq     : Nat := 0
  /-- sequence number that each ring slot holds -/
  wrote   : List (Nat × Nat) := []
  dropped : Nat := 0
  /-- records dropped when the last record was written -/
  dropSeen : Nat := 0
  /-- pictures decoded -/
  made    : Nat := 0
deriving DecidableEq, Repr, Inhabited


/-- An entry of the memory error log (12 R328). -/
structure MemErr where
  errSeq : Nat
  ns32   : Nat
  source : Nat
  kind   : Nat
  stack  : Nat
  unit   : Nat
  addr   : Nat
  handle : Nat
  cls    : Nat
  detail : Nat
deriving DecidableEq, Repr, Inhabited

/-- An entry of a pseudo-channel's write queue (12 R324, R325). -/
structure QEnt where
  /-- the sector, its address divided by 32 -/
  sec    : Nat
  /-- its ECC no longer matches, which the check before forwarding or draining shows -/
  bad    : Bool
  /-- it holds a partial write to a poisoned sector (12 R327) -/
  poison : Bool
deriving DecidableEq, Repr, Inhabited

/-- The memory system beside its contents (12). -/
structure Hbm where
  /-- preset S in force; 12 R322; 0 DESIGN CHOICE 5 -/
  preset  : Nat := 0
  /-- HASH_PRESET, kept in the boot flash; 12 R336; 0xFF -/
  hash    : Nat := 0xFF
  /-- SCRUB_HOURS; 12 R336; 24 -/
  hours   : Nat := 24
  /-- CE_ROW_LIMIT; 12 R336; 4 -/
  ceLimit : Nat := 4
  /-- next sector of the patrol scrub; 12 R331; 0 -/
  pos     : Nat := 0
  /-- sectors found corrected in this pass; 12 R331; 0 -/
  passCorr : Nat := 0
  /-- sectors found uncorrectable in this pass; 12 R331; 0 -/
  passUnc : Nat := 0
  /-- corrected errors of each row in this pass, by row; 12 R336; empty -/
  rows    : List (Nat × Nat) := []
  /-- poisoned sectors, by address divided by 32; 12 R327; empty -/
  poison  : List Nat := []
  /-- sectors whose stored bits have flipped since they were written, each with the bits that the code corrects, 0 for what it does not; 12 R326; empty -/
  upset   : List (Nat × Nat) := []
  /-- entries of the write queues, oldest first; 12 R324; empty -/
  queue   : List QEnt := []
  /-- requesters for which MEM_UE has been raised, each with its frame; 12 R340; empty -/
  told    : List (Nat × Nat) := []
  /-- sessions for which STREAM_CHECK has been raised, each with its frame; 11 R315; empty -/
  streamTold : List (Nat × Nat) := []
  /-- timing margin of the settings of each pseudo-channel, none before its first training; 12 R330; none -/
  margin  : Vector (Option Nat) 64 := Vector.replicate 64 (none)
  /-- memory error log, oldest first, at most 256; 12 R328; empty -/
  errLog  : List MemErr := []
  /-- ERR_SEQ of the latest entry; 12 R328; 0 -/
  errSeq  : Nat := 0
  /-- memory counters of page 0x08 that rows count: 0-99; 12 R335; 0 -/
  cnt     : Vector Nat 100 := Vector.replicate 100 (0)
  /-- next word of the Lagoon scrub; 12 R338; 0 -/
  lagPos  : Nat := 0
  /-- poisoned Lagoon words, by offset divided by 8; 12 R338; empty -/
  lagPoison : List Nat := []
deriving DecidableEq, Repr, Inhabited

/-- An access unit, frame record or period that a source has completed, for the sessions that take it. -/
structure AuOut where
  num     : Nat
  /-- frame status word -/
  status  : Nat
  /-- time-unit ns of the start of exposure, or of the first sample -/
  pts     : Nat
  rap     : Bool
  damaged : Bool
  bytes   : List Byte
  /-- bytes of each bitstream segment (11 R304); of Holm Raw, of the header, the index and each tile -/
  segs    : List Nat := []
  /-- device address of the unit in its source's HBM buffer, 0 for none -/
  addr    : Nat := 0
  /-- check of each segment (11 R303, R304); none for Holm Raw, which holds its own -/
  checks  : List Dword := []
  /-- a Holm Raw unit: HDR_CHECK and TILE_CHECK stand in its bytes (09 R258, R260) -/
  holm    : Bool := false
  /-- instant at which the source handed it over, time-unit ns -/
  at'     : Nat := 0
deriving DecidableEq, Repr, Inhabited

/-- A media port (13 R343, R345). -/
structure Medium where
  /-- R343 state; 13 R343; 0 EMPTY -/
  state   : Nat := 0
  /-- what the controller reports, none before initialisation; 13 R345; none -/
  info    : Option MediumInfo := none
  /-- attached namespace, 0 for none; 13 R345; 0 -/
  nsid    : Nat := 0
  /-- protection information in use; 13 R347; false -/
  pi      : Bool := false
  /-- limit on an NVMe command, ms; 13 R345; 250 -/
  limitMs : Nat := 250
  /-- fetch number of an ATTACH that waits for its I/O queues, with NSID, PI and limit; 13 R345; none -/
  attach  : Option (Nat × Nat × Bool × Nat) := none
  /-- fetch number of a DETACH that waits; 13 R345; none -/
  detach  : Option Nat := none
  /-- instant at which its shutdown notification left, time-unit ns; 13 R345; 0 -/
  detachNs : Nat := 0
deriving DecidableEq, Repr, Inhabited

/-- An item submitted to a medium and not yet wholly written (13 R346, R348). -/
structure RecItem where
  off     : Nat
  len     : Nat
  /-- NVMe Writes still outstanding: block, bytes -/
  writes  : List (Nat × List Byte)
  /-- its oldest Write is on its one retry -/
  retried : Bool
  /-- instants at which its Writes left, and that retry, time-unit ns -/
  sent    : Nat := 0
  again   : Nat := 0
deriving DecidableEq, Repr, Inhabited

/-- A recorded stream on one medium (13 R346, R348, R352-R355). -/
structure RecStream where
  /-- extents queued or in use, in order: first block, bytes -/
  exts    : List (Nat × Nat)
  /-- stream offset at which the first of them starts -/
  base    : Nat
  /-- extents fully written since open -/
  extDone : Nat
  /-- STREAM_SEQ of the next item -/
  seq     : Nat
  /-- offset of the next item -/
  off     : Nat
  /-- items not wholly written -/
  items   : List RecItem
  /-- offset up to which every Write has completed -/
  written : Nat
  committed : Nat
  /-- what each outstanding Flush covers, oldest first -/
  flushing : List Nat
  /-- instants at which those Flushes left, time-unit ns -/
  flushNs : List Nat := []
  /-- offset that a Flush is wanted for -/
  want    : Nat
  failed  : Bool
  /-- EXTENTS_LOW has been raised and space has not risen since -/
  low     : Bool
deriving DecidableEq, Repr, Inhabited

/-- A REC_COMMIT or REC_CLOSE whose position is not yet durable (13 R354, R357). -/
structure RecWait where
  tag     : Nat
  qp      : Nat
  close   : Bool
  /-- offset to be durable on M0 and M1, none for a stream the session does not have -/
  to0     : Option Nat
  to1     : Option Nat
  ns      : Nat
  /-- it has completed with COMMIT_PENDING, and REC_DURABLE is owed -/
  owed    : Bool
deriving DecidableEq, Repr, Inhabited

/-- A source of a recording session. -/
structure RecSrc where
  handle  : Nat
  /-- KIND of its items -/
  kind    : Nat
  /-- SRC_SEQ of the next item -/
  seq     : Nat
  gap     : Bool
deriving DecidableEq, Repr, Inhabited

/-- A recording session (13 R349-R357). -/
structure RecSes where
  handle  : Nat
  /-- REC_OPEN structure -/
  cfg     : List Byte
  srcs    : List RecSrc
  /-- completed by a source and not yet an item: source index and unit -/
  ready   : List (Nat × AuOut)
  /-- staging, bytes -/
  staging : Nat
  s0      : Option RecStream
  s1      : Option RecStream
  /-- 0 RECORDING, 1 ONE_SIDE, 2 DEGRADED -/
  state   : Nat
  waits   : List RecWait
  /-- FLUSH commands that wait for its data: fetch number, and the offset to be durable on M0 and M1 (02 R58) -/
  flushes : List (Nat × Option Nat × Option Nat) := []
  /-- a REC_CLOSE has been fetched -/
  closing : Bool
  /-- the object is closed and what remains is written out -/
  gone    : Bool
  /-- instant of the last periodic Flush -/
  lastNs  : Nat
deriving DecidableEq, Repr, Inhabited

/-- A MEDIA_READ at work (13 R358, R359). -/
structure MediaRead where
  cmd     : Nat
  port    : Nat
  items   : Bool
  source  : Nat
  dec     : Nat
  slba    : Nat
  blocks  : Nat
  /-- blocks read so far, and whether each is lost -/
  got     : List (List Byte × Bool)
  /-- ITEMS: blocks delivered or passed over; BLOCKS: blocks written to the buffer -/
  done    : Nat := 0
  /-- items delivered -/
  count   : Nat
  lost    : Nat
  /-- SESSION_ID, STREAM_SEQ and STREAM_OFFSET of the next item, none before the first -/
  expect  : Option (Nat × Nat × Nat)
  /-- bytes moved -/
  moved   : Nat
  /-- first block that failed -/
  failed  : Option Nat
  /-- it stops at the next 4 KiB boundary (13 R359) -/
  stop    : Bool := false
deriving DecidableEq, Repr, Inhabited

/-- A network port (14 R363-R366). -/
structure NetPort where
  /-- enabled; 14 R364; false -/
  on     : Bool := false
  /-- CDW8-CDW15 of NET_CONFIG, 32 bytes; 14 R364; empty -/
  cfg    : List Byte := []
  /-- link up; 14 R364; false -/
  up     : Bool := false
  /-- counters 1-16 of page 0x09; 14 R389; 0 -/
  cnt    : Vector Nat 16 := Vector.replicate 16 (0)
  /-- forwarded frames dropped since the last CHAIN_DROP; 14 R390; 0 -/
  drops  : Nat := 0
  /-- egress of the last PTP event message received here and forwarded, time-unit ns; 14 R364; 0 -/
  fwd    : Nat := 0
  /-- frames that wait for this port's egress, 2 forwarded, 1 firmware traffic; 14 R366; empty -/
  txq    : List (Nat × List Byte) := []
  /-- instant at which the frame in transmission has left, time-unit ns; 14 R366; 0 -/
  txFree : Nat := 0
deriving DecidableEq, Repr, Inhabited

/-- The receive side of a COMPRESSED_RX flow (14 R383). -/
structure RxState where
  /-- next sequence number in order, none before the first packet -/
  next   : Option Nat
  /-- packets kept: sequence number, arrival, packet -/
  kept   : List (Nat × Nat × RtpPkt)
  /-- the access unit so far: the packets missing before each payload, and the payload -/
  parts  : List (Nat × List Byte)
  /-- packets missing behind its last payload -/
  tail   : Nat
  /-- RTP timestamp of the access unit so far, none between two -/
  stamp  : Option Nat
  /-- packets lost since the last RX_LOSS -/
  lost   : Nat
deriving DecidableEq, Repr, Inhabited

/-- A media flow (14 R378-R384). -/
structure Flow where
  handle : Nat
  /-- handle of the source, or of the decode session -/
  src    : Nat
  /-- FLOW_OPEN structure, 64 bytes -/
  cfg    : List Byte
  /-- packets sent -/
  sent   : Nat
  /-- RTP sequence number of the next packet -/
  seq    : Nat
  /-- frame records (ANC) or head frames that wait for their alignment point, with the instant each was complete -/
  ready  : List (Nat × AuOut)
  /-- packets still to leave of the frame in transmission, each with its instant (14 R382) -/
  tx     : List (Nat × List Byte)
  /-- end of the frame in transmission -/
  busy   : Nat
  rx     : RxState
  /-- fetch numbers of the FLOW_CLOSE commands that wait -/
  closing : List Nat
deriving DecidableEq, Repr, Inhabited

/-- What the ordinary clock keeps of one port (14 R372, R373). -/
structure PtpPort where
  /-- best master heard, by its Announce; 14 R372; none -/
  master  : Option PtpMsg := none
  /-- time of its last Announce; 14 R373; 0 -/
  annNs   : Nat := 0
  /-- time of its last Sync; 14 R373; 0 -/
  syncNs  : Nat := 0
  /-- Sync of a two-step master that awaits its Follow_Up; 14 R376; none -/
  sync    : Option PtpMsg := none
  /-- origin and ingress of the last Sync, correction applied, 2^-16 ns; 14 R373; none -/
  pair    : Option (Int × Int) := none
  /-- Delay_Req sent: sequence number and egress stamp; 14 R373; none -/
  req     : Option (Nat × Int) := none
deriving DecidableEq, Repr, Inhabited

/-- PTP, genlock and LTC (14 R370-R373, R386, R387). -/
structure Ptp where
  /-- PTP_CONFIG structure, 64 bytes; 14 R371; SLEW_PPM 100, STEP_NS 1,000,000, LOCK_NS 100, TIME_SRC 2, TC_SRC 2, UTC_OFFSET_S 37, else 0 -/
  cfg     : List Byte := List.replicate 13 0 ++ [2] ++ toLE 2 100 ++ toLE 4 1000000 ++ toLE 2 100 ++ List.replicate 26 0 ++ [2] ++ List.replicate 3 0 ++ toLE 2 37 ++ List.replicate 10 0
  /-- SYNC_STATE; 14 R373; 0 FREERUN -/
  state   : Nat := 0
  /-- selected port, 0xFF none; 14 R388; 0xFF -/
  sel     : Nat := 0xFF
  ports   : Vector PtpPort 2 := Vector.replicate 2 {}
  /-- sequence number of the device's own messages: Sync, Announce, Delay_Req; 14 R370; 0 DESIGN CHOICE 5 -/
  seqs    : Nat × Nat × Nat := (0, 0, 0)
  /-- consecutive measurements within LOCK_NS; 14 R373; 0 -/
  good    : Nat := 0
  /-- last offset, 2^-16 ns; 14 R388; 0 -/
  offset  : Int := 0
  /-- mean path delay, 2^-16 ns; 14 R388; 0 -/
  delay   : Int := 0
  /-- the first offset has been measured; 14 R373; false -/
  seen    : Bool := false
  /-- the last 16 values of ADDEND, newest first; 14 R373; empty -/
  hist    : List Nat := []
  /-- last GENLOCK_IN edge of GL_EDGE; 14 R386; none -/
  edge    : Option Nat := none
  /-- instant from which the absence of GENLOCK_IN edges counts: of the last one, or of PTP_CONFIG; 14 R373; 0 -/
  edgeNs  : Nat := 0
  /-- LTC_IN locked; 14 R387; false -/
  ltcLock : Bool := false
  /-- consecutive valid LTC frames, up to 4; 14 R387; 0 -/
  ltcGood : Nat := 0
  /-- LTC_IN frames received, newest first, at most 8: start and code; 14 R387; empty -/
  ltc     : List (Nat × Nat) := []
deriving DecidableEq, Repr, Inhabited

/-- The video frame that a head shows or has selected (15 R397). -/
inductive HeadVid where
  | tap (f : TapFin)
  | dec (ses : Nat) (o : DecOut)
deriving DecidableEq, Repr, Inhabited

/-- A HEAD_COMMIT that waits (15 R403, R404). -/
structure HeadCommit where
  tag    : Nat
  /-- bytes 32-63 of its entry -/
  body   : List Byte
  /-- overlay data of its buffer -/
  data   : List Byte
  /-- HFC at which it is to apply, none for the first frame start at least 500 us after fetch -/
  target : Option Nat
  fetchNs : Nat
  /-- instant at which its copy ended -/
  copied : Option Nat
deriving DecidableEq, Repr, Inhabited

/-- A HEAD_CONFIG that waits (15 R401). -/
structure HeadNext where
  tag    : Nat
  /-- HEAD_CONFIG structure, empty for ENABLE = 0 -/
  cfg    : List Byte
  fetchNs : Nat
deriving DecidableEq, Repr, Inhabited

/-- A display head (15). -/
structure Head where
  /-- enabled: its frames run; 15 R401; false -/
  on      : Bool := false
  /-- HEAD_CONFIG structure in force, with the changes of commits; 15 R400; empty -/
  cfg     : List Byte := []
  /-- pending HEAD_CONFIG; 15 R401; none -/
  next    : Option HeadNext := none
  /-- pending HEAD_COMMIT; 15 R403; none -/
  commit  : Option HeadCommit := none
  /-- HFC of the next frame start; 15 R396; 0 -/
  hfc     : Nat := 0
  /-- instant of the last frame start, time-unit ns; 15 R396; 0 -/
  start   : Nat := 0
  /-- edge of the media clock at which the next frame starts; 15 R396; 0 -/
  edge    : Nat := 0
  /-- frame starts no longer follow the media clock; 15 R406; false -/
  loose   : Bool := false
  /-- which of its two banks in HBM is the front bank of overlay 0; 15 R404; 0 -/
  front0  : Nat := 0
  /-- the same of overlay 1; 15 R404; 0 -/
  front1  : Nat := 0
  /-- front bank of overlay 0; 15 R404; empty -/
  ov0     : List Byte := []
  /-- front bank of overlay 1; 15 R404; empty -/
  ov1     : List Byte := []
  /-- video frame on screen; 15 R397; none -/
  vid     : Option HeadVid := none
  /-- video frame selected for the next frame start; 15 R397; none -/
  sel     : Option HeadVid := none
  /-- the selection differs from the frame on screen; 15 R406; false -/
  fresh   : Bool := false
  /-- consecutive static frames; 15 R406; 0 -/
  static  : Nat := 0
  /-- the frame in progress is lengthened; 15 R406; false -/
  long    : Bool := false
  /-- the frame in progress was started without a source frame; 15 R405; false -/
  gap     : Bool := false
  /-- thermal shedding disables the head at the end of its frame; 15 R410; false -/
  shed    : Bool := false
  /-- DP link up; 15 R393; false -/
  up      : Bool := false
  /-- DP link rate code; 15 R409; 0 -/
  rate    : Nat := 0
  /-- DP lanes; 15 R409; 0 -/
  lanes   : Nat := 0
  /-- DP link below the reservation; 15 R402; false -/
  below   : Bool := false
  /-- the firmware trains the link; 15 R393; false -/
  training : Bool := false
  /-- counters 1-8 of page 0x0A; 15 R408; 0 -/
  cnt     : Vector Nat 8 := Vector.replicate 8 (0)
deriving DecidableEq, Repr, Inhabited

/-- What a pin of an audio port does (16 R411). -/
inductive PinUse where
  /-- a clock or frame-sync input, or a data input -/
  | input
  /-- an output driven low -/
  | low
  /-- a clock or frame-sync output -/
  | clock
  /-- transmit data -/
  | data
deriving DecidableEq, Repr, Inhabited

/-- The pins of a disabled port: its outputs low, the pins that are only ever inputs as they are (16 R411). -/
def pinsOff : List PinUse := [.low, .low, .input, .low, .input, .input]

/-- An audio port (16 R411-R421). -/
structure AudPort where
  /-- enabled; 16 R419; false -/
  on     : Bool := false
  /-- CDW8-CDW15 of AUD_CONFIG, 32 bytes; 16 R418; empty -/
  cfg    : List Byte := []
  /-- fetch number of an AUD_CONFIG that waits, and its fetch instant; 16 R420; none -/
  cmd    : Option (Nat × Nat) := none
  /-- it is a disable; 16 R420; false -/
  off    : Bool := false
  /-- instant of the first clock edge, none before it; 16 R420; none -/
  clk    : Option Nat := none
  /-- slave: instant at which frame 0 of the count began; 16 R416; 0 -/
  base   : Nat := 0
  /-- the external clock is lost and the port is muted; 16 R417; false -/
  lost   : Bool := false
  /-- first frame that did not complete, while the clock is lost; 16 R417; 0 -/
  lostAt : Nat := 0
  /-- muted frames of earlier losses, first and behind the last, newest first, at most 8; 16 R417; empty -/
  muted  : List (Nat × Nat) := []
  /-- what BCLK, FSYNC and D0-D3 do; 16 R411; the outputs low -/
  pins   : List PinUse := pinsOff
  /-- index of the first frame after the lead; 16 R420; 0 -/
  first  : Nat := 0
deriving DecidableEq, Repr, Inhabited

/-- An audio stream (16 R422-R432). -/
structure AudSes where
  handle : Nat
  port   : Nat
  play   : Bool
  /-- bytes 32-63 of AUD_STREAM OPEN -/
  cfg    : List Byte
  /-- mask in force -/
  mask   : Nat
  /-- last sequence number used -/
  seq    : Nat
  /-- first frame of the next period -/
  next   : Nat
  /-- overruns or underruns since open -/
  errs   : Nat
  /-- the previous period was discarded -/
  gap    : Bool
  /-- the period in progress began at a MASK (R427) -/
  split  : Bool
  /-- MASK that waits: fetch number, mask, the frame at which it takes effect -/
  change : Option (Nat × Nat × Nat)
  /-- fetch numbers of the CLOSE commands that wait -/
  closing : List Nat
  /-- frame at which a closing capture stream ends; of a playback stream the instant by which the slots it still plays were
  valid (R428) -/
  stop   : Option Nat := none
  /-- the sequence number last written to each slot (R425, 05 R167) -/
  wrote  : List (Nat × Nat) := []
  /-- epoch of host-bound delivery in which the period in progress began (02 R562) -/
  ep     : Nat := 0
  /-- thermal shedding has closed it: only its last period is to come -/
  shed   : Bool
deriving DecidableEq, Repr, Inhabited


/-- A grid sample of an axis (17 R435, R446). -/
structure Samp where
  /-- instant, time-unit ns -/
  t      : Nat
  /-- counter, 48-bit two's complement -/
  p      : Int
  speed  : Int
  valid  : Bool
  rehome : Bool
deriving DecidableEq, Repr, Inhabited

/-- The registers and the state of an axis, with its PWM channel and its brake (17 R438-R456). -/
structure Axis where
  /-- enabled; 17 R457; false -/
  on      : Bool := false
  /-- AXIS_CONFIG structure, 64 bytes; 17 R457; zeros -/
  cfg     : List Byte := List.replicate 64 0
  /-- VALID; 17 R456; 0 -/
  valid   : Bool := false
  /-- DIR; 17 R456; 0 -/
  dir     : Bool := false
  /-- REHOME; 17 R456; 0 -/
  rehome  : Bool := false
  /-- WRAP; 17 R456; 0 -/
  wrap    : Bool := false
  /-- INDEX; 17 R456; 0 -/
  index   : Bool := false
  /-- DIR_CHG; 17 R456; 0 -/
  dirChg  : Bool := false
  /-- DRIFT; 17 R456; 0 -/
  drift   : Bool := false
  /-- FAULT_EDGE; 17 R456; 0 -/
  faultEdge : Bool := false
  /-- LATCH; 17 R456; 0 -/
  latch   : Bool := false
  /-- FAULT; 17 R456; 0 -/
  fault   : Bool := false
  /-- FAULT_CAUSE; 17 R456; 0 -/
  cause   : Nat := 0
  /-- IRQ_EN, bits 8:3; 17 R456; 0 -/
  irqEn   : Nat := 0
  /-- position counter, 48-bit two's complement; 17 R441; 0 -/
  pos     : Int := 0
  /-- latest 1,024 grid samples, newest first, of which latches use 256; 17 R446, R448; empty -/
  hist    : List Samp := []
  /-- samples since enable or since a fault; 17 R446; 0 -/
  fresh   : Nat := 0
  /-- INDEX_POS; 17 R456; 0 -/
  idxPos  : Int := 0
  /-- INDEX_NS32; 17 R456; 0 -/
  idxNs   : Nat := 0
  /-- an index has been latched since enable or since a fault; 17 R443; false -/
  idxSeen : Bool := false
  /-- A2; 17 R456; 0 -/
  a2      : Nat := 0
  /-- DRIFT_E, 32 bits; 17 R456; 0 -/
  driftE  : Nat := 0
  /-- ERR_CNT; 17 R456; 0 -/
  errCnt  : Nat := 0
  /-- DRIFT_CNT; 17 R456; 0 -/
  driftCnt : Nat := 0
  /-- PRESET that waits for the next grid sample, and the instant of its store; 17 R441; none -/
  preset  : Option (Nat × Nat) := none
  /-- the counter's extreme since the last direction change; 17 R444; 0 -/
  ext     : Int := 0
  /-- phase of the last SINCOS sample, none before the first; 17 R440; none -/
  phase   : Option Nat := none
  /-- consecutive samples outside the amplitude window; 17 R445; 0 -/
  ampBad  : Nat := 0
  /-- consecutive samples with an invalid hall code; 17 R439; 0 -/
  hallBad : Nat := 0
  /-- last phase step above a quarter period; 17 R439; false -/
  stepBad : Bool := false
  /-- instants of illegal transitions within the last millisecond, newest first; 17 R439; empty -/
  illegal : List Nat := []
  /-- last serial read, its code and stamp; 17 R439; none -/
  read    : Option (Nat × Nat) := none
  /-- consecutive serial reads with a bad check, then without a start bit or idle line; 17 R439; 0 -/
  serBad  : Nat := 0
  /-- consecutive reads without a start bit or with a line not idle; 17 R439; 0 -/
  noStart : Nat := 0
  /-- instant at which a fault condition was last seen; 17 R447; 0 -/
  badNs   : Nat := 0
  /-- instants at which faults began; 17 R450; empty -/
  faults  : List Nat := []
  /-- instants at which presets applied; 17 R450; empty -/
  presets : List Nat := []
  /-- open latches, oldest first; 17 R448; empty -/
  lats    : List LatchReq := []
  /-- count of the emulation output; 17 R451; 0 DESIGN CHOICE 5 -/
  emu     : Int := 0
  /-- fetch numbers of the AXIS_CONFIG commands that wait for VALID or FAULT; 17 R458; empty -/
  waits   : List Nat := []
  /-- movement of an absolute encoder while a fault held the counter; 17 R447; 0 -/
  gap     : Int := 0
  /-- CMD; 17 R456; 0 -/
  cmd     : Int := 0
  /-- stores to CMD not yet in force: instant and value, oldest first; 17 R452; empty -/
  cmds    : List (Nat × Int) := []
  /-- the command in force from the next period; 17 R452; 0 -/
  cmdIn   : Int := 0
  /-- CMD applied in the current period; 17 R456; 0 -/
  applied : Int := 0
  /-- ARM; 17 R456; 0 -/
  arm     : Bool := false
  /-- BRAKE_REL; 17 R456; 0 -/
  brk     : Bool := false
  /-- TIMEOUT; 17 R456; 0 -/
  timeout : Bool := false
  /-- instant at which the command timer was last started; 17 R453; 0 -/
  timer   : Nat := 0
  /-- instant at which the current PWM period began; 17 R452; none -/
  perNs   : Option Nat := none
deriving DecidableEq, Repr, Inhabited



/-- An entry of the history of SAFETY_STATUS (18 R475). -/
structure SafeEnt where
  ns32    : Nat
  code    : Nat
  axis    : Nat
  entered : Bool
deriving DecidableEq, Repr, Inhabited

/-- A safety cause that is present: its code, its axis, and the instant it was last detected (18 R468). -/
structure Cause where
  code : Nat
  axis : Nat
  ns   : Nat
deriving DecidableEq, Repr, Inhabited

/-- The configuration after a Skerry restart (18 R471). -/
def safeCfgDefault : List Byte :=
  [1, 0] ++ toLE 2 100 ++ toLE 4 0 ++ [10] ++ List.replicate 211 0 ++ List.replicate 4 0

/-- The Skerry's link and the safety function (17 R436, R456; 18). -/
structure Safe where
  /-- SAFE_STATE: the safe state is held; 18 R465; 1 -/
  held    : Bool := true
  /-- level of the SAFE_IN ball; 18 R463; true DESIGN CHOICE 5 -/
  safeIn  : Bool := true
  /-- LAST_FAULT; 18 R475, R467; 0x04, the power-up cause -/
  last    : Nat := 4
  /-- LAST_AXIS; 18 R475; 0xFF -/
  lastAxis : Nat := 0xFF
  /-- FAULT_COUNT; 18 R475; 1 DEDUCED, the power-up cause -/
  count   : Nat := 1
  /-- instant of the latest entry, time-unit ns; 18 R470, R475; 0 -/
  entry   : Nat := 0
  /-- causes present; 18 R468; the power-up cause -/
  present : List Cause := [{ code := 4, axis := 0xFF, ns := 0 }]
  /-- HISTORY, newest first, at most 16; 18 R475; the power-up cause -/
  history : List SafeEnt := [{ ns32 := 0, code := 4, axis := 0xFF, entered := true }]
  /-- configuration stored on the Skerry, 224 bytes; 18 R471; R471's values after a Skerry restart -/
  cfg     : List Byte := safeCfgDefault
  /-- instant since which the Skerry has received good frames without a gap; 18 R470; none -/
  good    : Option Nat := none
  /-- instant since which the compute die has received good frames without a gap; 18 R470; none -/
  goodUp  : Option Nat := none
  /-- heartbeat sequence taken last, none before the first; 18 R466; none -/
  seq     : Option Nat := none
  /-- consecutive frame slots without a good frame; 18 R467; 0 -/
  missed  : Nat := 0
  /-- instant of the last good frame at the Skerry; 18 R467; 0 -/
  goodNs  : Nat := 0
  /-- the Safety Island's CRC of the configuration, as the last good frame carried it; 18 R466; none -/
  frameCrc : Option Word := none
  /-- PATH_A_UP; 17 R456; 0 -/
  pathA   : Bool := false
  /-- PATH_B_UP; 17 R456; 0 -/
  pathB   : Bool := false
  /-- SKERRY_POR; 17 R456; 1 -/
  por     : Bool := true
  /-- counters of log page 0x0B; 17 R460; 0 -/
  cnt     : Vector Nat 52 := Vector.replicate 52 (0)
  /-- PROOF_NS32; 18 R475; 0 DESIGN CHOICE 5 -/
  proofNs : Nat := 0
  /-- PROOF_RESULT; 18 R475; 0 DESIGN CHOICE 5 -/
  proof   : Nat := 0
  /-- fetch numbers of the PROOF_TESTs that run; 18 R476; empty -/
  proofCmds : List Nat := []
  /-- SI_FW_REV; 18 R475; Config.siFwRev (free) -/
  fwRev   : List Byte := Config.siFwRev
deriving DecidableEq, Repr, Inhabited



/-- A mailbox message (19 R490). -/
structure Msg where
  w0 : Dword
  w1 : Dword
deriving DecidableEq, Repr, Inhabited

/-- A timer of a customer core (19 R489). -/
structure Tmr where
  /-- EN; 19 R489; 0 -/
  en       : Bool := false
  /-- PERIODIC; 19 R489; 0 -/
  periodic : Bool := false
  /-- FIRED; 19 R489; 0 -/
  fired    : Bool := false
  /-- STEP; 19 R489; 0 -/
  step     : Bool := false
  /-- OVERRUN; 19 R489; 0 -/
  overrun  : Bool := false
  /-- DEADLINE; 19 R489; 0 -/
  deadline : Nat := 0
  /-- PERIOD; 19 R489; 1000 -/
  period   : Nat := 1000
  /-- COUNT; 19 R489; 0 -/
  count    : Nat := 0
deriving DecidableEq, Repr, Inhabited

/-- A core's snapshot of an axis (17 R456). -/
structure AxSnap where
  /-- STAMP; 17 R456; 0 -/
  stamp : Nat := 0
  /-- SPEED; 17 R456; 0 -/
  speed : Int := 0
deriving DecidableEq, Repr, Inhabited

/-- A customer core with its banks of the distributor, its timers and its mailbox (19). -/
structure Core where
  /-- 0 STOPPED, 1 RUNNING, 2 NO_IMAGE; 19 R482; 0 -/
  state   : Nat := 0
  /-- halted by the debug port; 20 R507; false -/
  halted  : Bool := false
  /-- VECTOR; 19 R482; 0 -/
  vector  : Nat := 0
  /-- access faults; 19 R482, 01 R20; 0 -/
  faults  : Nat := 0
  /-- pending flags of private edge sources 1-31; 19 R484; 0 -/
  pend    : Nat := 0
  /-- active IDs; 19 R485; empty -/
  active  : List Nat := []
  /-- ENABLE0 and ENABLE1, 64 bits; 19 R486; 0 -/
  enable  : Nat := 0
  /-- PRIORITY of IDs 1-31; 19 R486; 0x80 -/
  prio    : Vector Nat 32 := Vector.replicate 32 0x80
  /-- PMR; 19 R486; 0xFF -/
  pmr     : Nat := 0xFF
  /-- GSPLIT; 19 R486; 0 -/
  gsplit  : Nat := 0
  /-- SPURIOUS; 19 R486; 0 -/
  spurious : Nat := 0
  /-- TMR0-TMR3; 19 R489; reset values -/
  tmr     : Vector Tmr 4 := Vector.replicate 4 ({})
  /-- OUT queue; 19 R490; empty -/
  outq    : List (Nat × Msg) := []
  /-- IN queue; 19 R490; empty -/
  inq     : List Msg := []
  /-- MBX_OUT_W0; 19 R490; 0 -/
  outW0   : Dword := 0
  /-- OUT_OVF; 19 R490; 0 -/
  outOvf  : Bool := false
  /-- messages discarded because IN was full, not yet reported; 19 R491; 0 -/
  lost    : Nat := 0
  /-- ports whose frames send FRAME; 19 R491; 0 -/
  notify  : Nat := 0
  /-- snapshots of the axes; 17 R456; 0 -/
  snaps   : Vector AxSnap 8 := Vector.replicate 8 ({})
  /-- snapshot of the time unit: SEC, NS, NS32; 14 R369; 0 -/
  tsnap   : Nat × Nat × Nat := (0, 0, 0)
deriving DecidableEq, Repr, Inhabited

/-- A log entry of page 0x0C (19 R492). -/
structure PostEnt where
  seq  : Nat
  core : Nat
  tag  : Nat
  ns32 : Nat
  data : Dword
deriving DecidableEq, Repr, Inhabited

/-- What the customer cores share (19). -/
structure Cores where
  /-- C0 and C1; 19 R480; reset values -/
  c       : Vector Core 2 := Vector.replicate 2 ({})
  /-- pending flags of shared edge sources 32-63, bit i for ID 32 + i; 19 R484; 0 -/
  pend    : Nat := 0
  /-- PRIORITY of IDs 32-63; 19 R486; 0x80 -/
  prio    : Vector Nat 32 := Vector.replicate 32 0x80
  /-- TARGET of IDs 32-63 as written, 0 C0, 1 C1; 19 R488; 0 -/
  target  : Vector Nat 32 := Vector.replicate 32 (0)
  /-- PAUSED; 19 R490; 0 -/
  paused  : Bool := false
  /-- log page 0x0C, newest last, at most 64; 19 R492; empty -/
  posts   : List PostEnt := []
  /-- MSG_SEQ of the latest; 19 R492; 0 -/
  seq     : Nat := 0
  /-- a verified customer image is present; 19 R482, 20 R497; false -/
  image   : Bool := false
deriving DecidableEq, Repr, Inhabited


/-- Power state (20 R508-R512). -/
structure Pwr where
  /-- POWER: 0 RUN, 1 REDUCED, 2 SHOAL, 3 REEF; 02 R39; 0 -/
  state : Nat := 0
  /-- GATE in force: [3:0] Isles, [11:4] ENC, [13:12] DEC; 20 R509; 0 -/
  gate : Nat := 0
  /-- WAKE_MASK of the last REEF entry; 20 R509; 0 -/
  wake : Nat := 0
  /-- a POWER_STATE REEF that waits for the drain: fetch number and WAKE_MASK; 20 R511; none -/
  reef : Option (Nat × Nat) := none
  /-- POWER_STATE commands that a halted F core delays, in order: fetch number, TARGET, GATE, WAKE_MASK; 20 R514; empty -/
  waits : List (Nat × Nat × Nat × Nat) := []
  /-- the compute die is held in reset: AON loss, supply or PLL; 23 R554; false -/
  heldReset : Bool := false
  /-- WAKE# asserted; 20 R511; false -/
  wakePin : Bool := false
deriving DecidableEq, Repr, Inhabited

/-- An image or key object in staging (20 R498). -/
structure Staging where
  /-- total length of the object -/
  total : Nat
  bytes : List Byte
deriving DecidableEq, Repr, Inhabited

/-- A commit whose flash write is under way (20 R499). -/
structure Commit where
  cmd    : Nat
  target : Nat
  action : Nat
  /-- bank written or selected, 0xFF none -/
  bank   : Nat
  raiseSvn : Bool
  image  : List Byte
deriving DecidableEq, Repr, Inhabited

/-- Keys, lifecycle, debug and images (20). -/
structure Sec where
  /-- lifecycle state in force: 0 OPEN, 1 SECURED, 2 RMA, 3 RETIRED; 20 R503; Config.lifecycle (free) -/
  life    : Nat := Config.lifecycle.toNat
  /-- lifecycle fuses, in force from the next compute-die reset; 20 R503; Config.lifecycle (free) -/
  lifeNext : Nat := Config.lifecycle.toNat
  /-- key slot hashes, empty for an empty slot; 20 R494; Config.keySlot (free) -/
  slots   : Vector (List Byte) 4 := #v[Config.keySlot 0, Config.keySlot 1, Config.keySlot 2, Config.keySlot 3]
  /-- revocation fuses, bit n for slot n; 20 R494; Config.revoked (free) -/
  revoked : Nat := Config.revoked.toNat
  /-- firmware floor; 20 R495; Config.floorFw (free) -/
  floorFw : Nat := Config.floorFw
  /-- customer floor; 20 R495; Config.floorCust (free) -/
  floorCust : Nat := Config.floorCust
  /-- UDS lock fuse; 20 R504; false DESIGN CHOICE 5 -/
  udsLock : Bool := false
  /-- the erasure of the first boot in RMA has been done; 20 R504; false DESIGN CHOICE 5 -/
  rmaDone : Bool := false
  /-- debug level: 0 NONE, 1 APP, 2 FULL; 20 R507; 0 -/
  level   : Nat := 0
  /-- FULL has been granted since boot; 20 R502; false -/
  full    : Bool := false
  /-- outstanding nonce; 20 R506; none -/
  nonce   : Option (List Byte) := none
  /-- halted cores other than C0 and C1: bits 0-3 F0-F3, 4 S0, 5 S1; 20 R507; 0 -/
  halted  : Nat := 0
  /-- EVIDENCE_SEQ of the last evidence; 20 R502; 0 -/
  evSeq   : Nat := 0
  /-- staging of FIRMWARE; 20 R498; none -/
  stFw    : Option Staging := none
  /-- staging of CUSTOMER; 20 R498; none -/
  stCust  : Option Staging := none
  /-- staging of KEYS; 20 R498; none -/
  stKeys  : Option Staging := none
  /-- commit under way; 20 R499; none -/
  commit  : Option Commit := none
  /-- image in firmware bank A; 22 R533; Config.bankImage (free) -/
  bankA   : List Byte := Config.bankImage 0
  /-- image in firmware bank B; 22 R533; Config.bankImage (free) -/
  bankB   : List Byte := Config.bankImage 1
  /-- image in the customer slot; 22 R533; Config.custImage (free) -/
  cust    : List Byte := Config.custImage
  /-- customer image verified at the last boot or RESTART; 20 R502; empty -/
  custRun : List Byte := []
  /-- written copies that were cut off and do not verify: bit 0 bank A, 1 bank B, 2 the customer slot; 20 R500; 0 -/
  torn    : Nat := 0
  /-- bank selected for boot, 0 A or 1 B; 22 R534; Config.bankSel (free) -/
  sel     : Nat := Config.bankSel.toNat
  /-- SEL_SEQ of the copy in force; 22 R534; Config.selSeq (free) -/
  selSeq  : Nat := Config.selSeq
  /-- running bank; 20 R502; 0 until boot -/
  bank    : Nat := 0
  /-- running image; 20 R502; empty until boot -/
  running : List Byte := []
  /-- image digest measured at boot; 20 R502; empty until boot -/
  bootDigest : List Byte := []
  /-- an activation has succeeded since boot; 20 R502; false -/
  activated : Bool := false
deriving DecidableEq, Repr, Inhabited


/-- A telemetry subscription (21 R528). -/
structure TelSub where
  period : Nat
  slots  : Nat
  vector : Nat
  /-- last sequence number used -/
  seq    : Nat
  /-- fetch number of the subscribing command, whose buffer is the ring -/
  ring   : Nat
  /-- instant from which the period runs: the last record's -/
  last   : Nat
  /-- slots written, with their sequence numbers; 05 R167 -/
  wrote  : List (Nat × Nat) := []
deriving DecidableEq, Repr, Inhabited

/-- Thermal state and settings (21). -/
structure Thm where
  /-- THM_STATE: 0 normal, 1 throttling, 2 at or above ALARM; 21 R519; 0 -/
  state : Nat := 0
  /-- POWER_LIMIT_MW; 21 R527; 105000 -/
  limit : Nat := 105000
  /-- THROTTLE, degrees C; 21 R527; 110 -/
  throttle : Nat := 110
  /-- SLOPE; 21 R527; 8 -/
  slope : Nat := 8
  /-- DF_MIN_PCT; 21 R527; 5 -/
  dfMin : Nat := 5
  /-- SHED_INTERVAL_MS; 21 R527; 100 -/
  shedMs : Nat := 100
  /-- latest readings, 1/16 degree; 21 R517; 0 DESIGN CHOICE 5 -/
  ts : Vector Int 24 := Vector.replicate 24 (0)
  /-- readings before those; 21 R518, R525; none before the second sample -/
  prev : Option (Vector Int 24) := none
  /-- a sample has been taken since reset; 21 R517; false -/
  sampled : Bool := false
  /-- instant of the latest sample; 21 R517; 0 -/
  sampNs : Nat := 0
  /-- sensors that have become invalid and whose SENSOR_FAULT is not raised yet, true for a jump; 21 R518; empty -/
  owed : List (Nat × Bool) := []
  /-- settings that apply from the next sample: THROTTLE, SLOPE, DF_MIN_PCT, SHED_INTERVAL_MS, POWER_LIMIT_MW; 21 R527; none -/
  pend : Option (Nat × Nat × Nat × Nat × Nat) := none
  /-- invalid sensors, bit n for TSn; 21 R518; 0 -/
  invalid : Nat := 0
  /-- instants of jumps of each sensor within the last second; 21 R518; empty -/
  jumps : Vector (List Nat) 24 := Vector.replicate 24 ([])
  /-- Tj, 1/16 degree; 21 R518; 0 -/
  tj : Int := 0
  /-- HOT_SENSOR; 21 R518; 0 -/
  hot : Nat := 0
  /-- deferrable share f in percent; 21 R520; 100 -/
  share : Nat := 100
  /-- shed steps since boot; 21 R526; 0 -/
  shed : Nat := 0
  /-- instant of the last shed step, none before the first of an ALARM; 21 R522; none -/
  shedNs : Option Nat := none
  /-- a shed step may be taken: THM_STATE 2 has been entered and no step has found Tj below 138 since; 21 R522; false -/
  shedArm : Bool := false
  /-- instant of the last THERMAL_STATE event; 21 R519; none -/
  evNs : Option Nat := none
  /-- a THERMAL_STATE event is owed; 21 R519; false -/
  evOwed : Bool := false
  /-- telemetry subscription; 21 R528; none -/
  sub : Option TelSub := none
  /-- an immediate telemetry record is owed to a THERMAL_STATE event; 21 R528; false -/
  telNow : Bool := false
  /-- ns in THM_STATE 1 or 2 since boot; 21 R528; 0 -/
  nsThrottling : Nat := 0
  /-- ns in THM_STATE 2 since boot; 21 R528; 0 -/
  nsAlarm : Nat := 0
  /-- TJ_MAX; 21 R528; 0 DESIGN CHOICE 5 -/
  tjMax : Int := 0
  /-- the trip state; 21 R525; false -/
  tripped : Bool := false
  /-- fused trip counter; 21 R525; Config.tripCount (free) -/
  trips : Nat := Config.tripCount.toNat
deriving DecidableEq, Repr, Inhabited


/-- An entry of the event log (22 R535). -/
structure LogEnt where
  seq  : Nat
  type : Nat
  payload : List Byte
  boots : Nat
deriving DecidableEq, Repr, Inhabited

/-- A firmware activation under way (22 R541). -/
structure Activation where
  cmd  : Nat
  bank : Nat
  /-- 0 verification, 1 hold, 2 stop and drain -/
  step : Nat
  /-- instant at which the present step began, time-unit ns -/
  ns   : Nat
  /-- commands that the drain waits for; 22 R543 -/
  left : Nat := 0
deriving DecidableEq, Repr, Inhabited

/-- Boot, the event log and activation (22). -/
structure Boot where
  /-- boot stage under way: 0 PLL and fuses, 1 PCIe, 2 HBM training, 3 bank read, 4 DICE, 5 Safety Island, 6 firmware, 7 cores, 8 done, 9 stopped, 10 recovery, 11 off: REEF, trip, or held in reset; 22 R536; 0 -/
  stage : Nat := 0
  /-- BOOT_STATUS.RESET_CAUSE; 22 R532; 1 POWER_ON -/
  cause : Nat := 1
  /-- boot-stop reason; 22 R532; 0 -/
  stop : Nat := 0
  /-- BOOT_STATUS.TRIP; 21 R525; Config.tripFlag (free) -/
  trip : Bool := Config.tripFlag
  /-- the last shutdown was a thermal trip, for the next boot; 21 R525; false -/
  tripNext : Bool := false
  /-- fallback reason of this boot, 0 none; 22 R535; 0 -/
  fallback : Nat := 0
  /-- event log, oldest first; 22 R535; Config.eventLog (free) -/
  log : List LogEnt := Config.eventLog.map fun e => { seq := e.1, type := e.2.1, payload := e.2.2.1, boots := e.2.2.2 }
  /-- ENTRY_SEQ of the latest entry; 22 R535; Config.logSeq (free) -/
  seq : Nat := Config.logSeq
  /-- BOOT_COUNT; 22 R535; Config.bootCount (free) -/
  boots : Nat := Config.bootCount
  /-- FW_ACTIVATE under way; 22 R541; none -/
  act : Option Activation := none
deriving DecidableEq, Repr, Inhabited


/-- Everything the spec gives the device but its addressed memories and the queue of commands. -/
structure Dev where
  ident : Ident := {}
  pwr  : Pwr := {}
  thm  : Thm := {}
  sec  : Sec := {}
  boot : Boot := {}
  host : HostIf := {}
  pcie : Pcie := {}
  evt  : Evt := {}
  mirror : Mirror := {}
  lanes : Vector Lane 36 := Vector.replicate 36 {}
  links : Vector Link 4 := Vector.replicate 4 {}
  ports : Vector Port 4 := Vector.replicate 4 {}
  grps : Vector Group 4 := Vector.replicate 4 {}
  isles : Vector Isle 4 := Vector.replicate 4 {}
  /-- Holm Raw sessions by slot; 09 R270; empty -/
  holm : List (Nat × HolmSes) := []
  /-- encode sessions by slot; 08 R233; empty -/
  enc  : List (Nat × EncSes) := []
  /-- ladder groups by slot; 08 R236; empty -/
  ladders : List (Nat × Ladder) := []
  /-- encode engines in reset after a fault, bit e; 08 R254; 0 -/
  encReset : Nat := 0
  /-- decode sessions by slot; 10 R284; empty -/
  dec  : List (Nat × DecSes) := []
  heads : Vector Head 4 := Vector.replicate 4 {}
  hbm  : Hbm := {}
  media : Vector Medium 2 := Vector.replicate 2 {}
  /-- recording sessions by handle, those that only finish writing among them; 13 R349; empty -/
  recs  : List (Nat × RecSes) := []
  /-- MEDIA_READ commands at work; 13 R358; empty -/
  reads : List MediaRead := []
  nets : Vector NetPort 2 := Vector.replicate 2 {}
  /-- media flows by slot; 14 R379; empty -/
  flows : List (Nat × Flow) := []
  ptp  : Ptp := {}
  auds : Vector AudPort 4 := Vector.replicate 4 {}
  /-- audio streams by slot; 16 R423; empty -/
  auss : List (Nat × AudSes) := []
  /-- integrity counters 0-34; 11 R311; 0 -/
  integ : Vector Nat 35 := Vector.replicate 35 0
  tu   : Tu := {}
  axes : Vector Axis 8 := Vector.replicate 8 {}
  /-- axis records of the frames triggered since each port's capture began; 17 R450; empty -/
  axrec : List AxRec := []
  safe : Safe := {}
  cores : Cores := {}
  /-- what the device has put out, newest first; the model's own record; empty -/
  out  : List Out := []
  /-- free-value counter; the model's own; 0 -/
  free : Nat := 0
deriving DecidableEq, Repr, Inhabited

/-- The addressed memories: lists of (address, byte) with rising addresses and no byte equal to 0, which an
unlisted address reads as (DESIGN CHOICE 9). -/
structure Mem where
  /-- Lagoon, by byte offset; 12 R337; nothing listed -/
  lagoon : List Host.Cell := []
  /-- Lagoon customer windows of C0 and C1, by byte; 19 R481; nothing listed -/
  win0 : List Host.Cell := []
  /-- window of C1; 19 R481; nothing listed -/
  win1 : List Host.Cell := []
  /-- TCM of C0, by byte; 19 R481; nothing listed -/
  tcm0 : List Host.Cell := []
  /-- TCM of C1; 19 R481; nothing listed -/
  tcm1 : List Host.Cell := []
deriving DecidableEq, Repr, Inhabited

/-- The machine. -/
structure State where
  /-- commands that wait, first in first out -/
  pending : List Instr := []
  mem : Mem := {}
  dev : Dev := {}
deriving DecidableEq, Repr, Inhabited

/-- Change the device and nothing else: the shape of most meanings. -/
def State.mapDev (s : State) (f : Dev → Dev) : State := { s with dev := f s.dev }

/-- The machine as it powers up, every field at the value its docstring names. -/
def State.reset : State := {}

end Sys2Proof.Machine
end

