-- ==== Sys2Proof/Machine/Operands.lean ====
section
/-!
DEFINITION. Machine/Operands.lean: reading the fields of a submission entry and of the structures its
buffer holds, handles, little-endian packing, checksums, and which row an entry belongs to.
-/
namespace Sys2Proof.Machine

/-- `w` bits of a number from bit `lo`. -/
def bitsOf (x lo w : Nat) : Nat := x / 2 ^ lo % 2 ^ w

/-- One bit of a number as a Bool. -/
def bitOf (x i : Nat) : Bool := x / 2 ^ i % 2 == 1

/-- A Bool as one bit. -/
def b2n (b : Bool) : Nat := if b then 1 else 0

/-- The command-specific dwords as a number: byte 32 of the entry lowest (02 R44). -/
def sqeBody (e : Sqe) : Nat := e.body.toNat

/-- `n` bytes at byte offset `off` (32-63) of the entry (02 R44). -/
def fld (e : Sqe) (off n : Nat) : Nat := bitsOf (sqeBody e) (8 * (off - 32)) (8 * n)

/-- `w` bits from bit `lo` of the field at byte offset `off` of the entry. -/
def fldBits (e : Sqe) (off lo w : Nat) : Nat := bitsOf (sqeBody e) (8 * (off - 32) + lo) w

/-- A signed reading of an `n`-bit two's complement number. -/
def signed (n x : Nat) : Int := if x < 2 ^ (n - 1) then x else (x : Int) - 2 ^ n

/-- The `n`-bit two's complement of an integer. -/
def unsigned (n : Nat) (x : Int) : Nat := (x % (2 ^ n : Int)).toNat

/-- FLAGS bits (02 R44). -/
def ordered (e : Sqe) : Bool := e.flags.getLsbD 0
def bufDirect (e : Sqe) : Bool := e.flags.getLsbD 2

/-- The descriptors of the list: BDL_COUNT + 1 of them (02 R53). -/
def descs (e : Sqe) : List (Dword × Word × Word) := e.bdl.take (e.bdlCount.toNat + 1)

/-- Every descriptor has a length, and its reserved dword is 0 (02 R50, R53, R54). -/
def descsOk (e : Sqe) : Bool := (descs e).all fun x => x.2.1 != 0 && x.2.2 == 0

/-- The pieces of host memory that make up the buffer, in order, as address and length (02 R53). -/
def segments (e : Sqe) : List (Nat × Nat) :=
  if bufDirect e then [(e.bdlPtr.toNat, e.dataLen.toNat)] else (descs e).map fun x => (x.1.toNat, x.2.1.toNat)

/-- The pieces that `n` bytes of the buffer from offset `off` fall in (02 R53). -/
def scatter : List (Nat × Nat) → Nat → Nat → List (Nat × Nat)
  | [], _, _ => []
  | (a, k) :: t, off, n =>
    if n = 0 then []
    else if k ≤ off then scatter t (off - k) n
    else (a + off, min n (k - off)) :: scatter t 0 (n - min n (k - off))

/-- `n` bytes at `off` of a structure in a buffer, little-endian; bytes past its end read 0 (00 R5). -/
def le (l : List Byte) (off n : Nat) : Nat := leNat ((l.drop off).take n)

/-- A list of bytes from numbers given as (width in bytes, value). -/
def pack (fs : List (Nat × Nat)) : List Byte := fs.flatMap fun (n, v) => toLE n v

/-- `n` zero bytes. -/
def zeros (n : Nat) : List Byte := List.replicate n 0

/-- A list cut or filled with zero bytes to `n`. -/
def fit (n : Nat) (l : List Byte) : List Byte := (l ++ zeros n).take n

/-- ASCII text, space padded to `n` bytes (02 R68). -/
def ascii (n : Nat) (s : String) : List Byte :=
  ((s.toList.map fun (c : Char) => BitVec.ofNat 8 c.toNat) ++ List.replicate n 0x20).take n

/-- Object type of a handle (02 R52). -/
def hType (h : Nat) : Nat := h / 2 ^ 24
/-- Index of a handle (02 R52). -/
def hIdx (h : Nat) : Nat := h % 2 ^ 24
/-- Slot of a handle that a command opened (02 R52). -/
def hSlot (h : Nat) : Nat := h % 2 ^ 16
/-- A handle from its type, generation and slot (02 R52). -/
def mkHandle (ty gen slot : Nat) : Nat := ty * 2 ^ 24 + gen % 256 * 2 ^ 16 + slot

/-- Status codes (02 R55). -/
abbrev stSuccess : Nat := 0x0000
abbrev stInvalidOpcode : Nat := 0x0001
abbrev stInvalidField : Nat := 0x0002
abbrev stInvalidHandle : Nat := 0x0003
abbrev stLength : Nat := 0x0004
abbrev stExhausted : Nat := 0x0005
abbrev stConflict : Nat := 0x0006
abbrev stAbortedReset : Nat := 0x0007
abbrev stAbortedRequest : Nat := 0x0008
abbrev stIntegrityLink : Nat := 0x0010
abbrev stIntegrityMemory : Nat := 0x0011
abbrev stIntegritySelftest : Nat := 0x0012
abbrev stMediaWrite : Nat := 0x0020
abbrev stMediaPartial : Nat := 0x0021
abbrev stDenied : Nat := 0x0030
abbrev stActivation : Nat := 0x0031
abbrev stSafety : Nat := 0x0040
abbrev stThermal : Nat := 0x0050
abbrev stQpInUse : Nat := 0x0100
abbrev stArmLimit : Nat := 0x0101

/-- Event classes (02 R63). -/
abbrev evIntegrity : Nat := 1
abbrev evCapture : Nat := 2
abbrev evPipeline : Nat := 3
abbrev evCodec : Nat := 4
abbrev evMemory : Nat := 5
abbrev evMedia : Nat := 6
abbrev evNetwork : Nat := 7
abbrev evDisplay : Nat := 8
abbrev evMotion : Nat := 9
abbrev evThermal : Nat := 10
abbrev evFirmware : Nat := 11
abbrev evHost : Nat := 12

/-- One byte step of a reflected CRC-32 with the given polynomial. -/
def crcByte (poly : Word) (c : Word) (b : Byte) : Word :=
  let step (c : Word) : Word := if c.getLsbD 0 then (c >>> 1) ^^^ poly else c >>> 1
  step <| step <| step <| step <| step <| step <| step <| step (c ^^^ b.setWidth 32)

/-- CRC-32C (Castagnoli), reflected, initial value and final XOR all ones (04 R110, 11 R304). -/
def crc32c (l : List Byte) : Word := l.foldl (crcByte 0x82F63B78) 0xFFFFFFFF ^^^ 0xFFFFFFFF

/-- The row of an entry, from its opcode and its selector field, or the status and FIELD_BYTE it
completes with (02 R50, R71; an unlisted selector is INVALID_FIELD at its own byte). -/
def classify (e : Sqe) : Except (Nat × Nat) HostOp :=
  let bad : Except (Nat × Nat) HostOp := .error (stInvalidField, 32)
  let s := fld e 32 1
  match e.opcode.toNat with
  | 0x01 => .ok .identify
  | 0x02 => .ok .qpCreate
  | 0x03 => .ok .qpDelete
  | 0x04 => .ok .qpReset
  | 0x05 =>
    match s with
    | 1 => .ok .featureSetArbitration
    | 2 => .ok .featureSetIntCoalesce
    | 3 => .ok .featureSetEventConfig
    | 4 => .ok .featureSetQpClass
    | 5 => .ok .featureSetMemory
    | 6 =>
      match fld e 37 1 with
      | 0 => .ok .coreLinkVector
      | 1 => .ok .coreLinkPost
      | 2 => .ok .coreLinkRestart
      | 3 => .ok .coreLinkStop
      | _ => .error (stInvalidField, 37)
    | _ => bad
  | 0x06 => .ok .featureGet
  | 0x07 => .ok .logGet
  | 0x08 => .ok .abort
  | 0x09 => .ok .flush
  | 0x0A => .ok .fwDownload
  | 0x0B =>
    -- OBJECT in byte 32, ACTION in byte 33 (20 R499)
    match s, fld e 33 1 with
    | 0, 0 => .ok .fwCommitWrite
    | 0, 1 => .ok .fwCommitWriteAndSelect
    | 0, 2 => .ok .fwCommitSelectOnly
    | 1, 0 => .ok .fwCommitCustomer
    | 2, 0 => .ok .fwCommitKeys
    | 0, _ => .error (stInvalidField, 33)
    | 1, _ => .error (stInvalidField, 33)
    | 2, _ => .error (stInvalidField, 33)
    | _, _ => bad
  | 0x0C => .ok .fwActivate
  | 0x0D =>
    match s with
    | 0 => .ok .attestEvidence
    | 1 => .ok .attestCerts
    | _ => bad
  | 0x0E =>
    match s with
    | 0 => .ok .debugTokenChallenge
    | 1 => .ok .debugTokenUnlock
    | 2 => .ok .debugTokenRelock
    | 3 => .ok .debugTokenTransition
    | _ => bad
  | 0x0F =>
    match s with
    | 0 => .ok .powerStateRun
    | 1 => .ok .powerStateReduced
    | 2 => .ok .powerStateShoal
    | 3 => .ok .powerStateReef
    | _ => bad
  | 0x10 => .ok .eventArm
  | 0x20 => .ok .portConfig
  | 0x21 => .ok .groupConfig
  | 0x22 => .ok .captureStart
  | 0x23 => .ok .captureStop
  | 0x24 =>
    match s with
    | 0 => .ok .sensorCtrlWrite
    | 1 => .ok .sensorCtrlRead
    | 2 => .ok .sensorCtrlTiming
    | 3 => .ok .sensorCtrlCounters
    | _ => bad
  | 0x25 =>
    match s with
    | 0 => .ok .linkDiagStatus
    | 1 => .ok .linkDiagCounters
    | 2 => .ok .linkDiagEyeScan
    | 3 => .ok .linkDiagCounterClear
    | _ => bad
  | 0x30 => .ok .isleConfig
  | 0x31 => .ok .feTableLoad
  | 0x32 => .ok .cfaKernelLoad
  | 0x33 =>
    match s with
    | 1 => .ok .colourLoadParams
    | 2 => .ok .colourLoadBlendGrid
    | 3 => .ok .colourLoadLook
    | 4 => .ok .colourLoadTapOutput
    | _ => bad
  | 0x34 => .ok .lookSelect
  | 0x35 => if bitOf (fld e 36 1) 0 then .ok .tapConfigEnable else .ok .tapConfigDisable
  | 0x36 => if fld e 33 1 == 0 then .ok .statsSubscribeStop else .ok .statsSubscribeStart
  | 0x37 => .ok .frameFetch
  | 0x50 => .ok .encOpen
  | 0x51 => .ok .encReconfig
  | 0x52 => .ok .encClose
  | 0x53 => .ok .encForce
  | 0x58 => .ok .decOpen
  | 0x59 => .ok .decSubmit
  | 0x5A => .ok .decClose
  | 0x60 => .ok .holmOpen
  | 0x61 => .ok .holmClose
  | 0x70 =>
    match s with
    | 0 => .ok .mediaAttachAttach
    | 1 => .ok .mediaAttachDetach
    | 2 => .ok .mediaAttachInfo
    | _ => bad
  | 0x71 => .ok .recOpen
  | 0x72 => .ok .recExtents
  | 0x73 => .ok .recCommit
  | 0x74 => .ok .recClose
  | 0x75 =>
    match s with
    | 0 => .ok .mediaReadBlocks
    | 1 => .ok .mediaReadItems
    | _ => bad
  | 0x80 => .ok .netConfig
  | 0x81 => .ok .flowOpen
  | 0x82 => .ok .flowClose
  | 0x83 => .ok .ptpConfig
  | 0x84 =>
    match s with
    | 0 => .ok .timeGetRead
    | 1 => .ok .timeGetSet
    | 2 => .ok .timeGetStatus
    | _ => bad
  | 0x90 => if bitOf (fld e 32 1) 0 then .ok .headConfigEnable else .ok .headConfigDisable
  | 0x91 => .ok .headCommit
  | 0x92 => if fld e 32 1 == 0 then .ok .audConfigDisable else .ok .audConfigEnable
  | 0x93 =>
    match s with
    | 0 => .ok .audStreamOpen
    | 1 => .ok .audStreamClose
    | 2 => .ok .audStreamMask
    | 3 => .ok .audStreamStatus
    | _ => bad
  | 0xA0 => if bitOf (fld e 32 1) 0 then .ok .axisConfigEnable else .ok .axisConfigDisable
  | 0xA1 =>
    match s with
    | 0 => .ok .safetyConfigLoad
    | 1 => .ok .safetyConfigReset
    | 2 => .ok .safetyConfigForce
    | 3 => .ok .safetyConfigProofTest
    | _ => bad
  | 0xA2 => .ok .safetyStatus
  | 0xB0 => .ok .thermalConfig
  | 0xB1 =>
    match s with
    | 0 => .ok .telemetrySnapshot
    | 1 => .ok .telemetrySubscribe
    | 2 => .ok .telemetryUnsubscribe
    | _ => bad
  | _ => .error (stInvalidOpcode, 0)

/-- Bits set among the low 40 of a number. -/
def popCount (x : Nat) : Nat := ((List.range 40).filter (bitOf x)).length

/-! SHA3-256, which 20 R494 and R496 name (PRESUMED, log 122: FIPS 202). -/

/-- A lane of the state of 5 by 5 lanes; the lane of column x and row y stands at x + 5 y. -/
def kLane (a : List Dword) (x y : Nat) : Dword := a.getD (x % 5 + 5 * (y % 5)) 0

/-- Every lane anew, from its column and row. -/
def kLanes (f : Nat → Nat → Dword) : List Dword := (List.range 25).map fun i => f (i % 5) (i / 5)

def keccakRot : List Nat :=
  [0, 1, 62, 28, 27, 36, 44, 6, 55, 20, 3, 10, 43, 25, 39, 41, 45, 15, 21, 8, 18, 2, 61, 56, 14]

def keccakRound (a : List Dword) (rc : Dword) : List Dword :=
  let col := (List.range 5).map fun x => kLane a x 0 ^^^ kLane a x 1 ^^^ kLane a x 2 ^^^ kLane a x 3 ^^^ kLane a x 4
  let a := kLanes fun x y => kLane a x y ^^^ col.getD ((x + 4) % 5) 0 ^^^ (col.getD ((x + 1) % 5) 0).rotateLeft 1
  -- the lane of column x and row y moves to column y and row 2 x + 3 y
  let b := kLanes fun x y => let u := (x + 3 * y) % 5; (kLane a u x).rotateLeft (keccakRot.getD (u + 5 * x) 0)
  let a := kLanes fun x y => kLane b x y ^^^ (~~~ kLane b (x + 1) y &&& kLane b (x + 2) y)
  a.set 0 (kLane a 0 0 ^^^ rc)

def keccakConsts : List Dword :=
  [0x0000000000000001, 0x0000000000008082, 0x800000000000808A, 0x8000000080008000, 0x000000000000808B, 0x0000000080000001,
   0x8000000080008081, 0x8000000000008009, 0x000000000000008A, 0x0000000000000088, 0x0000000080008009, 0x000000008000000A] ++
  [0x000000008000808B, 0x800000000000008B, 0x8000000000008089, 0x8000000000008003, 0x8000000000008002, 0x8000000000000080,
   0x000000000000800A, 0x800000008000000A, 0x8000000080008081, 0x8000000000008080, 0x0000000080000001, 0x8000000080008008]

/-- Blocks of 136 bytes are absorbed one after the other. -/
def keccakAbsorb : Nat → List Byte → List Dword → List Dword
  | 0, _, a => a
  | n + 1, l, a =>
    let block := (List.range 25).map fun i => if i < 17 then BitVec.ofNat 64 (le l (8 * i) 8) else (0 : Dword)
    keccakAbsorb n (l.drop 136) (keccakConsts.foldl keccakRound (List.zipWith (· ^^^ ·) a block))

/-- SHA3-256 of a message: the padding is a byte 06, zeros, and bit 7 of the block's last byte. -/
def sha3 (l : List Byte) : List Byte :=
  let n := l.length / 136 + 1
  let room := 136 * n - l.length
  let pad : List Byte := if room = 1 then [0x86] else 0x06 :: zeros (room - 2) ++ [0x80]
  ((keccakAbsorb n (l ++ pad) (List.replicate 25 0)).take 4).flatMap fun w => toLE 8 w.toNat

end Sys2Proof.Machine
end

