-- ==== Sys2Proof/Machine/Ops.lean ====
section
/-!
DEFINITION. Machine/Ops.lean: the named operations every family uses: keyed tables, delivery to the
host, interrupt messages, completions, events, objects and handles, reservations and admission, and the
frame in which a host command's step runs.
-/
namespace Sys2Proof.Machine

/-! Keyed tables: lists of (key, value) in rising key order. -/

def tabGet {α : Type} (l : List (Nat × α)) (k : Nat) : Option α :=
  match l with
  | [] => none
  | (k', v) :: t => if k' = k then some v else tabGet t k

def tabSet {α : Type} (l : List (Nat × α)) (k : Nat) (v : α) : List (Nat × α) :=
  match l with
  | [] => [(k, v)]
  | (k', v') :: t =>
    if k < k' then (k, v) :: (k', v') :: t
    else if k = k' then (k, v) :: t
    else (k', v') :: tabSet t k v

def tabDel {α : Type} (l : List (Nat × α)) (k : Nat) : List (Nat × α) :=
  l.filter fun p => p.1 != k

def tabMod {α : Type} (l : List (Nat × α)) (k : Nat) (f : α → α) : List (Nat × α) :=
  l.map fun p => if p.1 = k then (p.1, f p.2) else p

/-- NS32, the time-unit stamp of records and events (14 R368). -/
def ns32 (d : Dev) : Nat := d.tu.ns % 2 ^ 32

/-! Delivery to the host (02 R562). -/

/-- Put something out of the package. -/
def emit (o : Out) (d : Dev) : Dev := { d with out := o :: d.out }

/-- Host memory and message writes may leave (02 R562; 20 R512). -/
def delivering (d : Dev) : Bool := d.host.enable && d.pcie.bme && !d.pcie.d3hot && d.pcie.up

/-- A new epoch of host-bound delivery where a change has stopped or resumed it (02 R562): what began before is of an
earlier epoch and is never delivered. -/
def dated (f : Dev → Dev) (d : Dev) : Dev :=
  let e := f d
  if delivering e == delivering d then e else { e with pcie := { e.pcie with epoch := d.pcie.epoch + 1 } }

/-- A frame, record or period that began in an epoch is delivered: delivery takes place and has done since (02 R562). -/
def deliversFrom (ep : Nat) (d : Dev) : Bool := delivering d && ep == d.pcie.epoch

/-- A write to host memory that falls due: sent, held while ENABLE is 1, or lost. -/
def postOut (o : Out) (d : Dev) : Dev :=
  if delivering d then emit o d
  else if d.host.enable then { d with host := { d.host with held := d.host.held ++ [.post o] } }
  else d

/-- The vector control word of a vector; a vector never written is masked (02 R42). -/
def vecMasked (d : Dev) (vec : Nat) : Bool :=
  d.pcie.funcMask || ((tabGet d.pcie.msix vec).getD {}).ctrl.getLsbD 0

/-- Send a message or, under a mask, set the pending bit (02 R67). -/
def msixSend (vec : Nat) (d : Dev) : Dev :=
  if vecMasked d vec then
    if d.pcie.pba.contains vec then d
    else { d with pcie := { d.pcie with pba := vec :: d.pcie.pba } }
  else emit (.msix vec) d

/-- Send the message of each pending vector that no mask holds, once delivery is possible; its bit clears as the message is
posted (02 R67, R562). -/
def sendPending (d : Dev) : Dev :=
  if !(delivering d) then d
  else
    let go := d.pcie.pba.reverse.filter fun v => !(vecMasked d v)
    go.foldl (fun d v =>
      emit (.msix v) { d with
        pcie := { d.pcie with pba := d.pcie.pba.filter (· != v) }
        host := { d.host with cnt := { d.host.cnt with pend := d.host.cnt.pend + 1 } } }) d

/-- A trigger of a vector (02 R66, R562); vector 0 outside QP0 stands for no vector. -/
def trigger (vec : Nat) (d : Dev) : Dev :=
  if delivering d then msixSend vec d
  else if d.host.enable then { d with host := { d.host with held := d.host.held ++ [.trig vec] } }
  else d

/-- A notification vector that a command named, 0 for none (05 R165 and others). -/
def notify (vec : Nat) (d : Dev) : Dev := if vec = 0 then d else trigger vec d

/-- Post what was held, in order, once delivery returns (02 R562). -/
def releaseHeld (d : Dev) : Dev :=
  d.host.held.foldl
    (fun d h => match h with
      | .post o => emit o d
      | .trig v => msixSend v d)
    { d with host := { d.host with held := [] } }

/-! Queue pairs and completions (02 R45-R47, R56, R66). -/

def getQp (d : Dev) (q : Nat) : Option Qp := tabGet d.host.qps q

def modHost (f : HostIf → HostIf) (d : Dev) : Dev := { d with host := f d.host }

def setQp (q : Nat) (p : Qp) (d : Dev) : Dev :=
  modHost (fun h => { h with qps := tabSet h.qps q p }) d

/-- The next CQ slot is taken and the phase inverts at the wrap (02 R46). -/
def advanceCq (p : Qp) : Qp :=
  if p.cqTail + 1 = p.cqSize then
    { p with cqTail := 0, phase := !p.phase, unrel := p.unrel + 1 }
  else { p with cqTail := p.cqTail + 1, unrel := p.unrel + 1 }

/-- Interrupt moderation of one completion (02 R66): trigger now, or count it. -/
def coalesce (q status : Nat) (p : Qp) : Bool × Qp :=
  if q = 0 || status != 0 || p.aggCount < p.since + 1 then (true, { p with since := 0 })
  else (false, { p with since := p.since + 1 })

/-- Statuses that the error log leaves out (02 R72). -/
def loggedStatus (st : Nat) : Bool := st != stSuccess && st != stAbortedReset && st != stAbortedRequest

/-- Append to the error log, which keeps the latest 256 (02 R72). -/
def logError (c : Outst) (st fb : Nat) (d : Dev) : Dev :=
  if loggedStatus st then
    let n : ErrEnt :=
      { errSeq := d.host.errSeq + 1, qp := c.qp, cid := c.e.cid, status := st,
        opcode := c.e.opcode, field := fb, ns32 := ns32 d, handle := c.e.handle.toNat }
    modHost (fun h => { h with
      errSeq := h.errSeq + 1,
      errLog := (h.errLog ++ [n]).drop ((h.errLog.length + 1) - 256) }) d
  else d

/-- Write a command's completion entry and take it off the outstanding list (02 R45, R56). -/
def complete (c : Outst) (st res ext fb : Nat) (d : Dev) : Dev :=
  let d := modHost (fun h => { h with outst := h.outst.filter fun o => o.tag != c.tag }) d
  match getQp d c.qp with
  | none => d
  | some p =>
    let d := logError c st fb d
    let entry : Cqe :=
      { qp := c.qp, slot := p.cqTail, result := res % 2 ^ 64, sqhd := p.sqHead, cid := c.e.cid,
        phase := p.phase, status := st, ext := ext % 2 ^ 128 }
    let (now, p) := coalesce c.qp st (advanceCq p)
    let p := if p.since = 1 then { p with firstNs := d.tu.ns } else p
    let d := postOut (.cqe entry) (setQp c.qp p d)
    if now then trigger p.vector d else d

/-- A completion without result. -/
def completeSt (c : Outst) (st : Nat) (d : Dev) : Dev := complete c st 0 0 0xFF d

/-- An outstanding command by fetch number. -/
def findOutst (d : Dev) (t : Nat) : Option Outst := d.host.outst.find? fun c => c.tag == t

/-- Change an outstanding command's phase (02 R56). -/
def setPhase (t : Nat) (ph : Phase) (d : Dev) : Dev :=
  modHost (fun h => { h with
    outst := h.outst.map fun c => if c.tag = t then { c with phase := ph } else c }) d

/-- Complete the command a unit remembered by fetch number, where it is still outstanding. -/
def completeTag (t : Option Nat) (st res ext : Nat) (d : Dev) : Dev :=
  match t with
  | none => d
  | some t =>
    match findOutst d t with
    | none => d
    | some c => complete c st res ext 0xFF d

/-- Bytes of a command's data buffer, with where in host memory they go (02 R53). -/
def dataOut (c : Outst) (off : Nat) (bytes : List Byte) : Out :=
  .data c.tag off bytes (scatter (segments c.e) off bytes.length)

/-- The device writes bytes of a command's data buffer (02 R54). -/
def writeData (c : Outst) (bytes : List Byte) (d : Dev) : Dev :=
  postOut (dataOut c 0 (bytes.take c.e.dataLen.toNat)) d

/-! Events (02 R61, R62). -/

/-- RESULT of an EVENT_ARM completion (02 R61). -/
def eventResult (v : Event) : Nat := v.cls + v.code * 2 ^ 16 + v.handle * 2 ^ 32
/-- EXT_RESULT of an EVENT_ARM completion (02 R61). -/
def eventExt (v : Event) : Nat := v.ns32 + v.seq % 2 ^ 32 * 2 ^ 32 + v.detail % 2 ^ 64 * 2 ^ 64

/-- The oldest EVENT_ARM that waits. -/
def oldestArm (d : Dev) : Option Outst :=
  d.host.outst.find? fun c => c.op == .eventArm && c.phase == .waiting

/-- Queue an event; past 63 waiting entries it is counted in the EVENTS_LOST entry (02 R62). -/
def enqueueEvent (v : Event) (q : List Event) : List Event :=
  if q.length < 63 then q ++ [v]
  else if q.length = 63 then
    q ++ [{ cls := evHost, code := 3, handle := 0, ns32 := v.ns32, seq := v.seq, detail := 1 }]
  else q.dropLast ++ (q.drop (q.length - 1)).map fun l => { l with detail := l.detail + 1 }

/-- Raise an event of a class (02 R62): it takes the next EVENT_SEQ and completes the oldest
EVENT_ARM, or waits in the queue; a disabled class raises nothing. -/
def raise (cls code handle detail : Nat) (d : Dev) : Dev :=
  if bitOf d.evt.mask cls then
    let v : Event := { cls, code, handle, ns32 := ns32 d, seq := d.evt.seq, detail }
    let d := { d with evt := { d.evt with seq := (d.evt.seq + 1) % 2 ^ 32 } }
    match oldestArm d with
    | some c => complete c stSuccess (eventResult v) (eventExt v) 0xFF d
    | none => { d with evt := { d.evt with queue := enqueueEvent v d.evt.queue } }
  else d

/-! Objects and handles (02 R52, R72). -/

def modEvt (f : Evt → Evt) (d : Dev) : Dev := { d with evt := f d.evt }

/-- The lowest slot below `n` of a type that no open object holds. -/
def freeSlot (d : Dev) (ty n : Nat) : Option Nat :=
  (List.range n).find? fun s =>
    !(d.evt.objs.any fun o => hType o.handle == ty && hSlot o.handle == s)

/-- Open an object: its handle takes the slot's next generation (02 R52). -/
def openObj (ty slot opener st : Nat) (d : Dev) : Nat × Dev :=
  let key := ty * 2 ^ 16 + slot
  let gen := (tabGet d.evt.gens key).getD 0
  let h := mkHandle ty gen slot
  (h, modEvt (fun e => { e with
    objs := e.objs ++ [{ handle := h, opener, st }],
    gens := tabSet e.gens key ((gen + 1) % 256) }) d)

/-- Close an object; its handle names nothing from then on. -/
def closeObj (h : Nat) (d : Dev) : Dev :=
  modEvt (fun e => { e with objs := e.objs.filter fun o => o.handle != h }) d

/-- Add a fixed object that work has opened (a capture, 02 R72). -/
def addObj (h opener st : Nat) (d : Dev) : Dev :=
  modEvt (fun e => { e with objs := e.objs ++ [{ handle := h, opener, st }] }) d

def setObjSt (h st : Nat) (d : Dev) : Dev :=
  modEvt (fun e => { e with
    objs := e.objs.map fun o => if o.handle = h then { o with st } else o }) d

/-! Reservations (01 R24). -/

/-- What a reservation holds: the larger of the amount in force and the pending one. -/
def Resv.held (r : Resv) : Nat := max r.cur r.nxt

def sumHeld (l : List Resv) : Nat := (l.map Resv.held).foldl (· + ·) 0

/-- The amount held of a class and unit. -/
def heldOf (d : Dev) (cls unit : Nat) : Nat :=
  sumHeld (d.evt.resv.filter fun r => r.cls == cls && r.unit == unit)

/-- The amount an owner holds of a class and unit. -/
def heldBy (d : Dev) (owner cls unit : Nat) : Nat :=
  sumHeld (d.evt.resv.filter fun r => r.owner == owner && r.cls == cls && r.unit == unit)

/-- Whether an owner holds any reservation. -/
def holds (d : Dev) (owner : Nat) : Bool := d.evt.resv.any fun r => r.owner == owner

/-- Bytes that the firmware sets aside for an HBM buffer: its reservation in MiB, and room for the skew (12 R323; the room
and the place of the firmware region, above every buffer, are a DESIGN CHOICE, log 86). -/
def hbmExtent (mib : Nat) : Nat := (mib + 8) * 2 ^ 20

/-- The buffers a set of reservations stands for, as first and end address. -/
def hbmSpans (l : List Resv) : List (Nat × Nat) :=
  (l.filter fun r => r.cls == 0x09).map fun r => (r.base, r.base + hbmExtent r.held)

/-- The lowest place for a buffer among others: each begins on a 16 KiB boundary (12 R323; lowest place: DESIGN CHOICE, log
86). -/
def hbmFit (l : List (Nat × Nat)) (n : Nat) : Nat :=
  let free (a : Nat) : Bool := l.all fun x => decide (x.2 ≤ a) || decide (a + n ≤ x.1)
  ((0 :: l.map fun x => (x.2 + 16383) / 16384 * 16384).filter free).foldl
    (fun b a => match b with
      | none => some a
      | some x => some (min x a)) none |>.getD 0

/-- The place of a class 0x09 buffer of an amount: where it stands if it fits there, else a new one. -/
def hbmBaseFor (others : List Resv) (old : Option Resv) (mib : Nat) : Nat :=
  let l := hbmSpans others
  match old with
  | some r =>
    if l.all fun x => decide (x.2 ≤ r.base) || decide (r.base + hbmExtent mib ≤ x.1) then r.base
    else hbmFit l (hbmExtent mib)
  | none => hbmFit l (hbmExtent mib)

/-- Give an owner a new amount of one class and unit: at once, or with a pending copy (01 R24). -/
def setResv (owner cls unit amt : Nat) (pending : Bool) (d : Dev) : Dev :=
  let hasIt := fun (r : Resv) => r.owner == owner && r.cls == cls && r.unit == unit
  let old := d.evt.resv.find? hasIt
  let cur := if pending then (old.map Resv.cur).getD 0 else amt
  let base := if cls = 0x09 then hbmBaseFor (d.evt.resv.filter fun r => !hasIt r) old (max cur amt) else 0
  let r : Resv := { owner, cls, unit, cur, nxt := amt, base }
  modEvt (fun e => { e with resv := (e.resv.filter fun r => !hasIt r) ++ [r] }) d

/-- Return everything an owner holds. -/
def dropResv (owner : Nat) (d : Dev) : Dev :=
  modEvt (fun e => { e with resv := e.resv.filter fun r => r.owner != owner }) d

/-- An owner's pending copy becomes active: the new amounts alone are held (01 R24). -/
def activateResv (owner : Nat) (d : Dev) : Dev :=
  modEvt (fun e => { e with resv := (e.resv.map fun r =>
    if r.owner = owner then { r with cur := r.nxt } else r).filter fun r => r.held != 0 }) d

/-- An owner's pending copy is discarded: the previous amounts stand (01 R24). -/
def discardResv (owner : Nat) (d : Dev) : Dev :=
  modEvt (fun e => { e with resv := (e.resv.map fun r =>
    if r.owner = owner then { r with nxt := r.cur } else r).filter fun r => r.held != 0 }) d

/-! The frame of a host command's step (02 R56). -/

/-- Recovery mode (22 R538). -/
def recovery (d : Dev) : Bool := d.boot.stage == 10

/-- How a command uses its data buffer (02 R54). -/
structure DataUse where
  transfers : Bool
  /-- a DATA_LEN below this is INVALID_FIELD -/
  least : Nat := 0
  /-- the length the command's own fields require of the buffer -/
  need : Sqe → Nat := fun _ => 0

def noData : DataUse := { transfers := false }
def someData : DataUse := { transfers := true }
def structData (n : Nat) : DataUse := { transfers := true, least := n }

/-- What HANDLE must be: 0, a fixed object of a type with an index below a bound, or the body's
business. -/
inductive HandleUse where
  | zero
  | fixed (ty n : Nat)
  | body

/-- How a row reads its entry: the fields it defines as (byte offset, low bit, width), the rules of
those fields as (byte offset, kept), its data and its handle. -/
structure CmdSpec where
  op : HostOp
  layout : List (Nat × Nat × Nat)
  checks : Sqe → List (Nat × Bool) := fun _ => []
  data : DataUse := noData
  handle : HandleUse := .zero
  admits : Bool := false
  /-- the status of the first step 1 check of the structure in the buffer that fails (01 R22) -/
  inner : Sqe → Option Nat := fun _ => none

/-- A check of the structure in the buffer that the command alone decides (01 R22 step 1). -/
def innerCheck (ok : Bool) : Option Nat := if ok then none else some stInvalidField

/-- The bits of a number that no field of a layout covers. -/
def strayBits (x : Nat) (layout : List (Nat × Nat × Nat)) : Nat :=
  layout.foldl (fun x (off, lo, w) =>
    let p := 8 * (off - 32) + lo
    x - bitsOf x p w * 2 ^ p) x

/-- The byte offset of the lowest set bit, from a base. -/
def lowestByte (base x : Nat) : Nat → Nat
  | 0 => base
  | n + 1 => if x % 256 = 0 then lowestByte (base + 1) (x / 256) n else base

/-- The first field of the entry in error, if any (02 R50, R54, R72 FIELD_BYTE): the header, then the
command dwords, each in rising offset. -/
def fieldError (sp : CmdSpec) (e : Sqe) : Option Nat :=
  let stray := strayBits (sqeBody e) sp.layout
  let hdr : List (Nat × Bool) :=
    [(1, decide (e.flags.toNat < 8)),
     (4, match sp.handle with | .zero => e.handle == 0 | _ => true)] ++
    (if sp.data.transfers then
      [(16, bufDirect e || e.bdlPtr.toNat % 16 == 0),
       (24, e.dataLen != 0 && decide (sp.data.least ≤ e.dataLen.toNat)),
       (28, !(bufDirect e) || e.bdlCount == 0)]
    else
      [(16, e.bdlPtr == 0), (24, e.dataLen == 0), (28, e.bdlCount == 0)]) ++
    [(30, e.rsvd == 0)]
  let bad := (hdr ++ sp.checks e).filter fun p => !p.2
  let offs := bad.map (·.1) ++ (if stray = 0 then [] else [lowestByte 32 stray 32])
  offs.foldl (fun m o => match m with
    | none => some o
    | some k => some (min k o)) none

/-- How a step answers. -/
inductive Ans where
  /-- a check fails: nothing changes, the command completes with the status, FIELD_BYTE and EXT_RESULT -/
  | fail (st fb ext : Nat)
  /-- the effect is applied and the command completes -/
  | done (d : Dev) (st res ext : Nat)
  /-- the command stays outstanding in the phase given -/
  | stay (d : Dev) (ph : Phase)

/-- A check of a step, in order (01 R22). -/
def check (ok : Bool) (st : Nat) (k : Ans) : Ans := if ok then k else .fail st 0xFF 0

/-- A successful step. -/
def okAns (d : Dev) (res : Nat := 0) (ext : Nat := 0) : Ans := .done d stSuccess res ext

/-- Bytes of the buffer (02 R53). -/
def bufCovers (e : Sqe) : Nat := ((segments e).map (·.2)).sum

/-- The checks that need only the entry and its buffer, then the handle (01 R22 steps 1 and 2). -/
def specCheck (sp : CmdSpec) (c : Outst) : Option (Nat × Nat) :=
  match fieldError sp c.e with
  | some fb => some (stInvalidField, fb)
  | none =>
    if sp.data.transfers && !(bufDirect c.e) && !(descsOk c.e) then some (stInvalidField, 0xFF)
    else if sp.data.transfers && bufCovers c.e < max c.e.dataLen.toNat (sp.data.need c.e) then
      some (stLength, 0xFF)
    else match sp.inner c.e with
      | some st => some (st, 0xFF)
      | none =>
        match sp.handle with
        | .fixed ty n =>
          if hType c.e.handle.toNat = ty && hIdx c.e.handle.toNat < n then none
          else some (stInvalidHandle, 4)
        | _ => none

/-- Rows that open or enlarge work (01 R22). -/
def opensWork : HostOp → Bool
  | .captureStart | .isleConfig | .statsSubscribeStart | .statsSubscribeStop
  | .tapConfigEnable | .tapConfigDisable | .frameFetch | .encOpen | .encReconfig | .holmOpen
  | .decOpen | .recOpen | .mediaReadBlocks | .mediaReadItems | .netConfig | .flowOpen
  | .headConfigEnable | .headConfigDisable | .audConfigEnable | .audConfigDisable
  | .audStreamOpen | .axisConfigEnable | .axisConfigDisable => true
  | _ => false

/-- The command of a row that may begin its step now: fetched, its row, the engine running (in recovery
mode HSTS.FATAL is 1 too, 22 R538), no
earlier-fetched command of the same handle still before its step (02 R49), and no earlier admission
undecided (01 R23). -/
def startable (op : HostOp) (t : Nat) (d : Dev) : Option Outst :=
  match findOutst d t with
  | none => none
  | some c =>
    let before := d.host.outst.takeWhile fun o => o.tag != t
    if c.op = op && c.phase == .fetched && (!d.host.fatal || recovery d) &&
        before.all (fun o => o.phase != .fetched ||
          ((o.e.handle != c.e.handle || c.e.handle == 0) && !(opensWork o.op && opensWork op)))
    then some c else none

/-- Apply an answer. -/
def applyAns (c : Outst) (a : Ans) (d : Dev) : Dev :=
  match a with
  | .fail st fb ext => complete c st 0 ext fb d
  | .done d st res ext => complete c st res ext 0xFF d
  | .stay d ph => setPhase c.tag ph d

/-- A host-command row: its step where the command may begin it, else nothing. -/
def hostRow (sp : CmdSpec) (t : Nat) (body : Outst → Dev → Ans) (d : Dev) : Dev :=
  match startable sp.op t d with
  | none => d
  | some c =>
    match specCheck sp c with
    | some (st, fb) => complete c st 0 0 fb d
    | none => applyAns c (body c d) d

end Sys2Proof.Machine
end

