-- ==== Sys2Proof/Machine/Admission.lean ====
section
/-!
DEFINITION. Machine/Admission.lean: the resource table, its capacities, and the admission check
(01 R22-R27), with the host link's capacity (02 R36, R37).
-/
namespace Sys2Proof.Machine

/-- RES_CLASS codes (01 R26). -/
abbrev rcIsle : Nat := 0x01
abbrev rcTap : Nat := 0x02
abbrev rcEnc : Nat := 0x03
abbrev rcEncSes : Nat := 0x04
abbrev rcDec : Nat := 0x05
abbrev rcDecSes : Nat := 0x06
abbrev rcHolmSes : Nat := 0x07
abbrev rcHbmBw : Nat := 0x08
abbrev rcHbmCap : Nat := 0x09
abbrev rcLagoon : Nat := 0x0A
abbrev rcHost : Nat := 0x0B
abbrev rcNet : Nat := 0x0C
abbrev rcMedia : Nat := 0x0D
abbrev rcDisp : Nat := 0x0E
abbrev rcPower : Nat := 0x0F
abbrev rcThermal : Nat := 0x10

/-- RES_UNIT of a device-wide resource (01 R25). -/
abbrev unitAll : Nat := 0xFF

/-- Rounded-up division. -/
def divUp (a b : Nat) : Nat := (a + b - 1) / b

/-- Data rate of one lane of the host link, as kilobytes per second times a denominator (02 R36):
numerator and denominator in MB/s. -/
def laneRate : Nat → Nat × Nat
  | 1 => (250, 1)
  | 2 => (500, 1)
  | 3 => (1000 * 128, 130)
  | 4 => (2000 * 128, 130)
  | 5 => (4000 * 128, 130)
  | 6 => (8000 * 236, 256)
  | 7 => (16000 * 236, 256)
  | _ => (0, 1)

/-- Class 0x0B capacity in MB/s: 80 % of the trained link's data rate, rounded down (02 R36). -/
def linkCapacityOf (rate width : Nat) : Nat :=
  (laneRate rate).1 * width * 80 / ((laneRate rate).2 * 100)

def linkCapacity (d : Dev) : Nat :=
  if d.pcie.up then linkCapacityOf d.pcie.rate d.pcie.width else 0

/-- Whether a unit of a class is gated: in REDUCED, and in a SHOAL entered from it (20 R509). -/
def gatedUnit (d : Dev) (cls unit : Nat) : Bool :=
  d.pwr.state != 0 &&
  (if cls = rcIsle || cls = rcTap || cls = rcHolmSes then bitOf d.pwr.gate unit
   else if cls = rcEnc then bitOf d.pwr.gate (4 + unit)
   else if cls = rcDec then bitOf d.pwr.gate (12 + unit)
   else false)

/-- Class 0x08 capacity in MB/s (01 R26). -/
def hbmRtCapacity (d : Dev) : Nat := if d.ident.b24 then 921600 else 1843200

/-- Class 0x0D capacity of a media port: 90 % of the trained link's data rate (13 R344). -/
def mediaCapacity (d : Dev) (unit : Nat) : Nat :=
  match (d.media[unit]?).bind Medium.info with
  | some i => (laneRate i.linkRate).1 * i.linkWidth * 90 / ((laneRate i.linkRate).2 * 100)
  | none => 0

/-- Capacity of a class and unit (01 R26; units 0 and 1 of the host link are its two directions). -/
def capacity (d : Dev) (cls unit : Nat) : Nat :=
  match cls with
  | 0x01 => 32000
  | 0x02 => 64000
  | 0x03 => 2000
  | 0x04 => 64
  | 0x05 => 2000
  | 0x06 => 16
  | 0x07 => 2
  | 0x08 => hbmRtCapacity d
  | 0x09 => (if d.ident.b24 then 24576 else 49152) - d.ident.fwHbmMib
  | 0x0A => 196608 - d.ident.fwLagoonKib
  | 0x0B => linkCapacity d
  | 0x0C => 95000
  | 0x0D => mediaCapacity d unit
  | 0x0F => d.thm.limit
  | _ => unit * 0

/-- Count resources give a SHORTFALL of 1 (01 R25). -/
def countRes (cls : Nat) : Bool := cls == rcEncSes || cls == rcDecSes || cls == rcHolmSes

/-- EXT_RESULT of RESOURCE_EXHAUSTED (01 R25). -/
def resExt (cls unit short avail : Nat) : Nat :=
  cls + unit * 2 ^ 8 + min short 0xFFFFFFFF * 2 ^ 32 + min avail 0xFFFFFFFF * 2 ^ 64

/-- One wanted amount against its capacity: EXT_RESULT when it does not fit. -/
def shortOf (d : Dev) (owner : Nat) (w : Nat × Nat × Nat) : Option Nat :=
  let (cls, unit, amt) := w
  let mine := heldBy d owner cls unit
  if amt ≤ mine then none
  else
    let all := heldOf d cls unit
    let need := all - mine + amt
    let cap := capacity d cls unit
    if need ≤ cap then none
    else
      let u := if cls = rcHost || cls = rcEncSes || cls = rcDecSes || cls = rcHbmBw ||
        cls = rcHbmCap || cls = rcLagoon || cls = rcPower then unitAll else unit
      some (resExt cls u (if countRes cls then 1 else need - cap) (cap - all))

/-- Step 5 of R22: EXT_RESULT of the first resource, in class order, that does not cover the wanted
amounts; class 0x10 refuses a new real-time reservation at or above ALARM. -/
def admitFails (d : Dev) (owner : Nat) (realTime : Bool) (want : List (Nat × Nat × Nat)) :
    Option Nat :=
  match want.findSome? (shortOf d owner) with
  | some x => some x
  | none =>
    if realTime && d.thm.state == 2 && want.any (fun w => heldBy d owner w.1 w.2.1 < w.2.2) then
      some (resExt rcThermal unitAll 1 0)
    else none

/-- Hold the wanted amounts for an owner (01 R24). -/
def reserve (owner : Nat) (pending : Bool) (want : List (Nat × Nat × Nat)) (d : Dev) : Dev :=
  want.foldl (fun d w => setResv owner w.1 w.2.1 w.2.2 pending d) d

/-- The host-link reservations of the direction that holds more. -/
def linkHeld (d : Dev) : Nat := max (heldOf d rcHost 0) (heldOf d rcHost 1)

/-- DETAIL of LINK_CAPACITY (02 R64). -/
def linkDetail (d : Dev) (below : Bool) : Nat :=
  linkCapacity d + b2n below * 2 ^ 32 + d.pcie.rate * 2 ^ 36 + d.pcie.width * 2 ^ 40

def setShort (b : Bool) (d : Dev) : Dev := { d with pcie := { d.pcie with short := b } }

/-- The shortfall ends where the capacity covers the reservations again (02 R37). -/
def linkRecover (d : Dev) : Dev :=
  if d.pcie.short && decide (linkHeld d ≤ linkCapacity d) then
    raise evHost 1 0 (linkDetail d false) (setShort false d)
  else d

/-- Admit and go on with the reservations held, or fail with RESOURCE_EXHAUSTED. An amount that is lowered may end a
host-link shortfall (02 R37). -/
def withAdmission (owner : Nat) (realTime pending : Bool) (want : List (Nat × Nat × Nat)) (d : Dev)
    (k : Dev → Ans) : Ans :=
  match admitFails d owner realTime want with
  | some ext => .fail stExhausted 0xFF ext
  | none => k (linkRecover (reserve owner pending want d))

/-- A recomputation of the class 0x0B capacity (02 R37). -/
def linkRecompute (d : Dev) : Dev :=
  if linkCapacity d < linkHeld d then
    let d := modHost (fun h => { h with cnt := { h.cnt with below := h.cnt.below + 1 } }) d
    raise evHost 1 0 (linkDetail d true) (setShort true d)
  else linkRecover d

/-- An owner's pending copy becomes active, which may end a host-link shortfall (01 R24; 02 R37). -/
def takeResv (owner : Nat) (d : Dev) : Dev := linkRecover (activateResv owner d)

/-- An owner's pending copy is discarded, with the same end (01 R24; 02 R37). -/
def excessResv (owner : Nat) (d : Dev) : Dev := linkRecover (discardResv owner d)

/-- Return what an owner holds (01 R24), which may end a host-link shortfall (02 R37). -/
def returnResv (owner : Nat) (d : Dev) : Dev := linkRecover (dropResv owner d)

end Sys2Proof.Machine
end

