-- ==== Sys2Proof/Machine/Hbm.lean ====
section
/-!
DEFINITION. Machine/Hbm.lean: the HBM address mapping, buffers and their slots, the write queues, ECC and
poison, and what a client's read or write of a buffer does to them (12 R317-R328). The bytes themselves stand
in the objects that own them (frames, pictures, bitstreams); here stands what becomes of each sector.
-/
namespace Sys2Proof.Machine

/-! The HBM address mapping (12 R317-R321). -/

/-- Where a device address lies. -/
structure HbmPlace where
  sid  : Nat
  /-- pseudo-channel index c, bit 5 the stack -/
  pc   : Nat
  /-- bank group and bank, 0-15 -/
  bank : Nat
  row  : Nat
  /-- column byte in the row -/
  col  : Nat
deriving DecidableEq, Repr

/-- XOR of the row bits i for which (i + S) mod m is k. -/
def rowFold (row s m k : Nat) : Nat :=
  ((List.range 14).filter fun i => (i + s) % m == k).foldl (fun x i => (x + bitsOf row i 1) % 2) 0

/-- The mapping of R319 and R320: w pseudo-channel bits, 6 on the B48 and 5 on the B24. -/
def hbmPlace (b24 : Bool) (s addr : Nat) : HbmPlace :=
  let w := if b24 then 5 else 6
  let a := addr % 2 ^ (28 + w)
  let row := bitsOf a (14 + w) 14
  let c := (List.range w).map fun k => (bitsOf a (8 + k) 1 + bitsOf a (8 + w + k) 1 + rowFold row s w k) % 2 * 2 ^ k
  let b := (List.range 4).map fun k => (bitsOf a (10 + w + k) 1 + rowFold row s 4 k) % 2 * 2 ^ k
  { sid := addr / 2 ^ (28 + w), pc := c.foldl (· + ·) 0, bank := b.foldl (· + ·) 0, row
    col := bitsOf a (8 + w) 2 * 256 + addr % 256 }

/-- Bytes of the fitted HBM (12 R318). -/
def hbmBytes (d : Dev) : Nat := (if d.ident.b24 then 24 else 48) * 2 ^ 30

/-- Pseudo-channels fitted (12 R318). -/
def hbmPcs (d : Dev) : Nat := if d.ident.b24 then 32 else 64

/-- The memory runs: trained at boot, and neither in self-refresh nor off (12 R341, 22 R536). -/
def hbmRuns (d : Dev) : Bool := decide (d.pwr.state < 2) && decide (3 ≤ d.boot.stage) && decide (d.boot.stage ≤ 8)

def modHbm (f : Hbm → Hbm) (d : Dev) : Dev := { d with hbm := f d.hbm }

/-- The place of a sector. -/
def secPlace (d : Dev) (sec : Nat) : HbmPlace := hbmPlace d.ident.b24 d.hbm.preset (32 * sec)

/-- Count in a memory counter; it saturates (12 R335). -/
def bumpMem (i n : Nat) (d : Dev) : Dev :=
  modHbm (fun h => { h with cnt := h.cnt.setIfInBounds i (min (h.cnt.getD i 0 + n) (2 ^ 64 - 1)) }) d

/-- Count in a stack's part of the counters (12 R335). -/
def bumpStack (p : HbmPlace) (i : Nat) (d : Dev) : Dev := bumpMem (p.pc / 32 * 16 + i) 1 d

/-! The memory error log (12 R328). -/

/-- Who asks for memory: its object, 0 for none, its CLASS, and the frame it works on. -/
structure MemUser where
  handle : Nat
  cls    : Nat
  frame  : Nat

/-- The patrol scrub (12 R331). -/
def scrubUser : MemUser := { handle := 0, cls := 3, frame := 0 }

/-- Append to the memory error log, which keeps the latest 256. -/
def logMem (u : MemUser) (source kind stack unit addr detail : Nat) (d : Dev) : Dev :=
  let n : MemErr :=
    { errSeq := d.hbm.errSeq + 1, ns32 := ns32 d, source, kind, stack, unit, addr, handle := u.handle, cls := u.cls, detail }
  modHbm (fun h => { h with
    errSeq := h.errSeq + 1, errLog := (h.errLog ++ [n]).drop (h.errLog.length + 1 - 256) }) d

/-- MEM_UE for the entry logged last, at most once per requester in each frame (12 R340); a requester without an object
counts for itself alone. -/
def memUe (u : MemUser) (source stack unit : Nat) (d : Dev) : Dev :=
  if u.handle != 0 && d.hbm.told.contains (u.handle, u.frame) then d
  else
    let d := if u.handle = 0 then d
      else modHbm (fun h => { h with told := (u.handle, u.frame) :: h.told.filter fun x => x.1 != u.handle }) d
    raise evMemory 1 u.handle (source + stack * 2 ^ 8 + unit * 2 ^ 16 + d.hbm.errSeq % 2 ^ 32 * 2 ^ 32) d

/-- A sector's loss is logged, and MEM_UE says so: KIND 2 uncorrectable, 3 a read of poison. -/
def memLost (u : MemUser) (source kind sec : Nat) (d : Dev) : Dev :=
  let p := secPlace d sec
  memUe u source (p.pc / 32) (p.pc % 32) (logMem u source kind (p.pc / 32) (p.pc % 32) (32 * sec) (p.sid * 16) d)

/-- A row's key: stack ID, pseudo-channel, bank and row. -/
def rowKey (p : HbmPlace) : Nat := ((p.sid * 64 + p.pc) * 16 + p.bank) * 2 ^ 14 + p.row

/-- A sector read with a corrected error: logged for the first in its row in each pass, counted, and CE_ROW_LIMIT at the
limit (12 R328, R335, R336). -/
def memCorrected (u : MemUser) (source counter bits sec : Nat) (d : Dev) : Dev :=
  let p := secPlace d sec
  let n := (tabGet d.hbm.rows (rowKey p)).getD 0 + 1
  let d := bumpStack p counter (modHbm (fun h => { h with rows := tabSet h.rows (rowKey p) n }) d)
  let d := if n = 1 then logMem u source 1 (p.pc / 32) (p.pc % 32) (32 * sec) (bits % 16 + p.sid * 16) d else d
  if n = d.hbm.ceLimit then
    raise evMemory 2 0 (p.pc / 32 + p.pc % 32 * 2 ^ 8 + p.sid * 2 ^ 16 + p.bank * 2 ^ 24 + p.row * 2 ^ 32) d
  else d

/-! Sectors in the DRAM and in the write queues (12 R324-R327). -/

/-- The entry that holds a sector. -/
def queued (d : Dev) (sec : Nat) : Option QEnt := d.hbm.queue.find? fun q => q.sec == sec

/-- A sector takes the poison codeword. -/
def setPoison (sec : Nat) (h : Hbm) : Hbm :=
  { h with poison := if h.poison.contains sec then h.poison else sec :: h.poison, upset := h.upset.filter fun x => x.1 != sec }

/-- An entry's ECC is checked before it is forwarded or drained; one that fails becomes poisoned (12 R325). -/
def checkEntry (q : QEnt) (d : Dev) : Dev :=
  if q.bad then memLost { handle := 0, cls := 0, frame := 0 } 3 2 q.sec (modHbm (fun h => { h with
    queue := h.queue.map fun x => if x.sec = q.sec then { x with bad := false, poison := true } else x }) d)
  else d

/-- An entry leaves its queue for the DRAM. -/
def drainEntry (q : QEnt) (d : Dev) : Dev :=
  let d := checkEntry q d
  modHbm (fun h =>
    let h := { h with
      queue := h.queue.filter fun x => x.sec != q.sec
      upset := h.upset.filter fun x => x.1 != q.sec, poison := h.poison.filter (· != q.sec) }
    if q.bad || q.poison then setPoison q.sec h else h) d

/-- A pseudo-channel's queue has its 64 entries. -/
def queueFull (d : Dev) (pc : Nat) : Bool :=
  decide (64 ≤ d.hbm.queue.length) && decide (64 ≤ (d.hbm.queue.filter fun q => (secPlace d q.sec).pc == pc).length)

/-- The oldest entry of a pseudo-channel drains. -/
def drainOldest (pc : Nat) (d : Dev) : Dev :=
  match d.hbm.queue.find? fun q => (secPlace d q.sec).pc == pc with
  | some q => drainEntry q d
  | none => d

/-- What a read of a sector in the DRAM finds: an error in it corrected or turned to poison (12 R326, R327). True where it
returns poison. -/
def readDram (u : MemUser) (sec : Nat) (d : Dev) : Dev × Bool :=
  if d.hbm.poison.contains sec then
    (memLost u 1 3 sec (bumpStack (secPlace d sec) 14 d), true)
  else match d.hbm.upset.find? fun x => x.1 == sec with
    | none => (d, false)
    | some (_, 0) => (memLost u 1 2 sec (bumpStack (secPlace d sec) 12 (modHbm (setPoison sec) d)), true)
    | some (_, bits) =>
      (memCorrected u 1 10 bits sec (modHbm (fun h => { h with upset := h.upset.filter fun x => x.1 != sec }) d), false)

/-- A client reads a sector: from the write queue where it is held there, else from the DRAM (12 R324). -/
def readSector (u : MemUser) (sec : Nat) (d : Dev) : Dev × Bool :=
  match queued d sec with
  | none => readDram u sec d
  | some q =>
    let d := checkEntry q (bumpStack (secPlace d sec) 3 d)
    if q.bad || q.poison then (memLost u 1 3 sec (bumpStack (secPlace d sec) 14 d), true) else (d, false)

/-- A client writes a sector, whole or in part: into the entry that holds it, else into a new one (12 R324, R325, R327). -/
def writeSector (u : MemUser) (whole : Bool) (sec : Nat) (d : Dev) : Dev :=
  match queued d sec with
  | some _ => modHbm (fun h => { h with
      queue := h.queue.map fun x => if x.sec = sec && whole then { x with bad := false, poison := false } else x }) d
  | none =>
    let pc := (secPlace d sec).pc
    let d := if queueFull d pc then drainOldest pc d else d
    let (d, poison) := if whole then (d, false) else readDram u sec (bumpStack (secPlace d sec) 15 d)
    modHbm (fun h => { h with queue := h.queue ++ [{ sec, bad := false, poison }] }) d

/-! Buffers and their slots (12 R323). -/

/-- The HBM buffer of an owner. -/
def hbmBuffer (d : Dev) (owner : Nat) : Option Nat :=
  (d.evt.resv.find? fun r => r.owner == owner && r.cls == rcHbmCap).map Resv.base

/-- Slot i of a buffer of slots of a size: the stride and the skew (12 R323). -/
def slotAt (base size i : Nat) : Nat := base + i * (size + 2048) + 256 * (i % 7)

/-- The sectors that bytes from an address fall in. -/
def sectorsOf (addr n : Nat) : List Nat :=
  if n = 0 then [] else (List.range ((addr + n - 1) / 32 - addr / 32 + 1)).map fun i => addr / 32 + i

/-- A client writes n bytes from an address: the ends may be parts of sectors. -/
def hbmWrite (u : MemUser) (addr n : Nat) (d : Dev) : Dev :=
  (sectorsOf addr n).foldl (fun d sec =>
    writeSector u (decide (addr ≤ 32 * sec) && decide (32 * sec + 32 ≤ addr + n)) sec d) d

/-- A client reads n bytes from an address: the sectors that come back as poison. -/
def hbmRead (u : MemUser) (addr n : Nat) (d : Dev) : Dev × List Nat :=
  (sectorsOf addr n).foldl (fun (acc : Dev × List Nat) sec =>
    let (d, lost) := readSector u sec acc.1
    (d, if lost then acc.2 ++ [sec] else acc.2)) (d, [])

/-- Write bytes at an offset of an owner's buffer. -/
def bufferWrite (u : MemUser) (owner off n : Nat) (d : Dev) : Dev :=
  match hbmBuffer d owner with
  | some b => hbmWrite u (b + off) n d
  | none => d

/-- Read bytes at an offset of an owner's buffer: the offsets in the range, in whole sectors, that come back as poison. -/
def bufferRead (u : MemUser) (owner off n : Nat) (d : Dev) : Dev × List Nat :=
  match hbmBuffer d owner with
  | some b =>
    let (d, l) := hbmRead u (b + off) n d
    (d, l.map fun sec => 32 * sec - (b + off))
  | none => (d, [])

/-- Bytes as a requester receives them: those of poisoned sectors as zero (12 R327). -/
def zeroLost (lost : List Nat) (l : List Byte) : List Byte :=
  if lost.isEmpty then l
  else l.zipIdx.map fun (b, i) => if lost.any fun o => decide (o ≤ i) && decide (i < o + 32) then 0 else b

/-- Time passes without a command: each pseudo-channel drains its oldest entry (DESIGN CHOICE, log 87: R324 gives no time for
a drain). -/
def drainIdle (d : Dev) : Dev :=
  if d.hbm.queue.isEmpty || !hbmRuns d then d
  else (List.range 64).foldl (fun d pc => drainOldest pc d) d

end Sys2Proof.Machine
end

