-- ==== Sys2Proof/Machine/Blocks.lean ====
section
/-!
DEFINITION. Machine/Blocks.lean: the coding of Strait blocks and of back-channel frames (03 R79-R83, R91, R92): symbols to
bits, headers, scrambling, control block types, CRC-16, and how the blocks of one block time read.
-/
namespace Sys2Proof.Machine

/-! Symbols and bits (03 R79). -/

/-- Rates of two bits a symbol (03 R76). -/
def pam4Rate (rate : Nat) : Bool := rate == 1 || rate == 2

/-- PAM4 level of two bits, the earlier as most significant (03 R79). -/
def pam4Level (b1 b0 : Bool) : Nat :=
  match b1, b0 with
  | false, false => 0
  | false, true => 1
  | true, true => 2
  | true, false => 3

/-- The two bits of a PAM4 level, the earlier first (03 R79). -/
def pam4Bits (l : Nat) : List Bool := [decide (2 ≤ l), l == 1 || l == 2]

/-- The bits of a block in the order sent; a lane of inverted polarity reads the opposite levels (03 R79, R86). -/
def blkBits (pam4 inv : Bool) (b : Blk) : List Bool :=
  if pam4 then b.flatMap fun l => pam4Bits (if inv then 3 - l else l)
  else b.map fun l => (l == 1) != inv

/-- A number from its bits, the least significant first. -/
def bitsNat : List Bool → Nat
  | [] => 0
  | b :: l => b2n b + 2 * bitsNat l

/-- Sync headers (03 R79): data, control, or invalid. -/
def headerKind (h : Nat) : Option Bool :=
  if h = 0b0101 then some true else if h = 0b1010 then some false else none

/-- A block as its lane's receiver frames it: the header, H0 first, and 16 payload bytes, each least significant bit
first, still scrambled (03 R79). -/
def readBlk (pam4 inv : Bool) (b : Blk) : Option Bool × List Byte :=
  let n := bitsNat (blkBits pam4 inv b)
  (headerKind (n % 16), (List.range 16).map fun j => BitVec.ofNat 8 (n / 2 ^ (4 + 8 * j)))

/-! The scrambler (03 R80). -/

/-- Scrambler seed of logical lane k (03 R80). -/
def scrSeed (k : Nat) : Word := BitVec.ofNat 32 (0x7FFFFF00 + 0x11 * (k + 1))

/-- One scrambler step: the output bit and the next 31-bit state (03 R80). -/
def scrStep (s : Word) : Bool × Word :=
  let fb : Word := if s.getLsbD 30 != s.getLsbD 27 then 1 else 0
  (s.getLsbD 30, ((s <<< 1) ||| fb) &&& 0x7FFFFFFF#32)

/-- The next n output bits, the first in bit 0, and the state after them (03 R80). -/
def scrBits : Nat → Word → Nat × Word
  | 0, s => (0, s)
  | n + 1, s => ((b2n (scrStep s).1 + 2 * (scrBits n (scrStep s).2).1), (scrBits n (scrStep s).2).2)

/-- Bytes XORed with the scrambler's output, in transmission order (03 R80). -/
def descramble (s : Word) : List Byte → List Byte × Word
  | [] => ([], s)
  | b :: l =>
    let (o, s) := scrBits 8 s
    let (r, s) := descramble s l
    ((b ^^^ BitVec.ofNat 8 o) :: r, s)

/-! Control blocks (03 R82, R83). -/

abbrev cbIdle : Nat := 0x1E
abbrev cbTrain : Nat := 0x2D
abbrev cbLctl : Nat := 0x5A
abbrev cbSleep : Nat := 0x78
abbrev cbComma : Nat := 0xB4

/-- Control block types (03 R82). -/
def typeKnown (t : Nat) : Bool := t == cbIdle || t == cbTrain || t == cbLctl || t == cbSleep || t == cbComma

/-- One byte of CRC-16, polynomial 0x1021, no reflection (03 R83). -/
def crc16Byte (c : Nat) (b : Byte) : Nat :=
  let step (c : Nat) : Nat := if c < 0x8000 then c * 2 else (c * 2 % 0x10000) ^^^ 0x1021
  step <| step <| step <| step <| step <| step <| step <| step (c ^^^ (b.toNat * 256))

/-- CRC-16 of blocks and back-channel frames, initial value 0xFFFF (03 R83). -/
def crc16 (l : List Byte) : Nat := l.foldl crc16Byte 0xFFFF

/-- Bytes 14 and 15 are the CRC-16 of bytes 0 to 13, high byte first (03 R83). -/
def blkCrcOk (l : List Byte) : Bool := le l 14 1 * 256 + le l 15 1 == crc16 (l.take 14)

/-- What one lane reads from its TRAIN blocks (03 R83, R86). -/
structure LaneTrain where
  logical  : Nat
  width    : Nat
  rateCode : Nat
  txEq     : Bool
  preset   : Nat
  /-- TRAIN_SEQ of the last block -/
  seq      : Nat
  inverted : Bool
deriving DecidableEq, Repr, Inhabited

/-- The fields of a TRAIN block (03 R83). -/
def trainFields (inv : Bool) (l : List Byte) : LaneTrain :=
  { logical := bitsOf (le l 1 1) 0 3, width := le l 2 1, rateCode := le l 3 1, txEq := bitOf (le l 4 1) 0
    preset := bitsOf (le l 4 1) 4 4, seq := le l 5 1, inverted := inv }

/-- The payload of a block that reads as TRAIN at a polarity (03 R82, R86). -/
def trainAt (pam4 inv : Bool) (b : Blk) : Option (List Byte) :=
  match readBlk pam4 inv b with
  | (some false, l) => if le l 0 1 = cbTrain then some l else none
  | _ => none

/-- The last of 8 or more consecutive TRAIN blocks at a polarity; n of them have just been seen (03 R86). -/
def settles (pam4 inv : Bool) : Nat → List Blk → Option (List Byte)
  | _, [] => none
  | n, b :: bs =>
    match trainAt pam4 inv b with
    | none => settles pam4 inv 0 bs
    | some l => match settles pam4 inv (n + 1) bs with
      | some r => some r
      | none => if 7 ≤ n then some l else none

/-- A lane tests both polarities and keeps the one that matches on 8 consecutive blocks (03 R86). -/
def laneTrain (pam4 : Bool) (bs : List Blk) : Option LaneTrain :=
  match settles pam4 false 0 bs with
  | some l => some (trainFields false l)
  | none => (settles pam4 true 0 bs).map (trainFields true)

/-- What one lane sees of a COMMA block time: whether a COMMA is there, whether it passes its CRC, its COMMA_SEQ, and when
its last bit arrives (03 R83, R86, R88, R101). -/
structure LaneComma where
  present   : Bool
  crcOk     : Bool
  seq       : Nat
  arrivalPs : Nat
deriving DecidableEq, Repr, Inhabited

/-- A received block as a COMMA; COMMA blocks are never scrambled (03 R80, R83). -/
def laneComma (pam4 inv : Bool) (b : Blk) (ps : Nat) : LaneComma :=
  let (h, l) := readBlk pam4 inv b
  { present := h == some false && le l 0 1 == cbComma, crcOk := blkCrcOk l, seq := le l 4 1, arrivalPs := ps }

/-- The kind of a block time: the header of logical lane 0 or, if invalid, the first valid one in lane order (03 R81).
The headers come in logical order. -/
def timeKind : List (Option Bool) → Option Bool
  | [] => none
  | some k :: _ => some k
  | none :: l => timeKind l

/-- Where byte j of logical lane k's block stands in the stream S in the m-th data block time (03 R81). -/
def stripeIndex (w m k j : Nat) : Nat := 16 * (w * m + k) + j

/-! Back-channel frames (03 R91, R92). -/

/-- CLASS, LEN, payload and CRC-16, high byte first, of a back-channel frame (03 R92). -/
def bcFrame (cls : Nat) (payload : List Byte) : List Byte :=
  let body := BitVec.ofNat 8 cls :: BitVec.ofNat 8 (payload.length - 1) :: payload
  body ++ [BitVec.ofNat 8 (crc16 body / 256), BitVec.ofNat 8 (crc16 body % 256)]

end Sys2Proof.Machine
end

