-- ==== Sys2Proof/Machine/Timing.lean ====
section
/-!
DEFINITION. Machine/Timing.lean: frame numbers, trigger instants, and what APPLY_FRAME may name (04
R119-R122, 05 R160, R161).
-/
namespace Sys2Proof.Machine

def port (d : Dev) (p : PortId) : Port := d.ports[p]
def setPort (p : PortId) (k : Port) (d : Dev) : Dev := { d with ports := d.ports.set p k }
def modPort (p : PortId) (f : Port → Port) (d : Dev) : Dev := setPort p (f (port d p)) d
def grp (d : Dev) (g : GroupId) : Group := d.grps[g]
def setGrp (g : GroupId) (k : Group) (d : Dev) : Dev := { d with grps := d.grps.set g k }
def modGrp (g : GroupId) (f : Group → Group) (d : Dev) : Dev := setGrp g (f (grp d g)) d
def isle (d : Dev) (i : IsleId) : Isle := d.isles[i]
def setIsle (i : IsleId) (k : Isle) (d : Dev) : Dev := { d with isles := d.isles.set i k }
def modIsle (i : IsleId) (f : Isle → Isle) (d : Dev) : Dev := setIsle i (f (isle d i)) d

/-- A port by a number below 4. -/
def portOf (n : Nat) : PortId := ⟨n % 4, Nat.mod_lt _ (by decide)⟩
def isleOf (n : Nat) : IsleId := ⟨n % 4, Nat.mod_lt _ (by decide)⟩

def groupHandle (g : GroupId) : Nat := mkHandle 3 0 g.val

/-- Members of a group (04 R119). -/
def members (d : Dev) (g : GroupId) : List PortId :=
  (List.finRange 4).filter fun p => bitOf (grp d g).members p.val

/-- The group a port belongs to. -/
def groupOf (d : Dev) (p : PortId) : Option GroupId :=
  (List.finRange 4).find? fun g => bitOf (grp d g).members p.val

/-- A port belongs to a capturing group. -/
def capturing (d : Dev) (p : PortId) : Bool :=
  match groupOf d p with
  | some g => (grp d g).run
  | none => false

/-- Frames of the port count for a shadow: it is capturing, or a decode session plays under it, whose frames are treated as
the port's (05 R160, 10 R283; DEDUCED, log 81). -/
def counting (d : Dev) (p : PortId) : Bool := capturing d p || (port d p).play.isSome

/-- Frame number f is a or later, modulo 2^32 (05 R160). -/
def fnFrom (a f : Nat) : Bool := decide ((f + 2 ^ 32 - a % 2 ^ 32) % 2 ^ 32 < 2 ^ 31)

/-- Frame number arithmetic. -/
def fnAdd (a b : Nat) : Nat := (a + b) % 2 ^ 32
def fnPred (a : Nat) : Nat := (a + 2 ^ 32 - 1) % 2 ^ 32

/-- k frame periods in ns, rounded up (04 R120). -/
def periods (g : Group) (k : Nat) : Nat :=
  if g.num = 0 then 0 else divUp (k * g.den * 1000000000) g.num

/-- Grid instant k of a TIME group (04 R120). -/
def timeGrid (g : Group) (k : Nat) : Nat := periods g k + g.phase

/-- First grid index of a TIME group at or after an instant (04 R127). -/
def firstIndex (g : Group) (s : Nat) : Nat :=
  -- the least k with ceil(k * den * 1e9 / num) >= s - phase
  if g.den = 0 then 0 else
  let x := s - g.phase
  let k := if x = 0 then 0 else (x - 1) * g.num / (g.den * 1000000000) + 1
  if s ≤ g.phase then 0 else k

/-- Trigger i of an edge, never before 4 us after it (04 R120). -/
def edgeTrig (g : Group) (e i : Nat) : Nat := max (e + g.phase + periods g i) (e + 4000)

/-- The earliest instant of the next trigger, where it is known: the grid instant of TIME, or that of the oldest edge with
triggers still to send; under GENLOCK none lies less than half a period after the previous one (04 R120, R121). -/
def nextTrig (g : Group) : Option Nat :=
  let late (t : Nat) : Nat := if g.fired then max t (g.lastT + divUp (g.den * 500000000) g.num) else t
  if !g.genlock then some (timeGrid g g.k)
  else match g.olds with
    | (e, i) :: _ => some (late (edgeTrig g e i))
    | [] => match g.anchor with
      | none => none
      | some e => if g.glDiv ≤ g.k && !g.free then none else some (late (edgeTrig g e g.k))

/-- A trigger has been sent: its edge's next one follows (04 R120). -/
def afterTrig (g : Group) : Group :=
  match g.olds with
  | (e, i) :: l => { g with olds := if g.genlock && i + 1 < g.glDiv then (e, i + 1) :: l else l }
  | [] => { g with k := g.k + 1 }

/-- The trigger instant of frame n, where it is determined (05 R161): from the grid under TIME, or
extrapolated from the last trigger under GENLOCK. -/
def trigOf (g : Group) (n : Nat) : Option Nat :=
  let ahead := (n + 2 ^ 32 - g.next) % 2 ^ 32
  let pastStop := match g.stop with
    | some s => !fnFrom n s.frame
    | none => false
  if pastStop then none
  else if !g.genlock then some (timeGrid g (g.k + ahead))
  else if g.fired then some (g.lastT + periods g (ahead + 1)) else none

/-- The trigger of frame n of a run has been sent. -/
def trigSent (g : Group) (n : Nat) : Bool := g.fired && fnFrom n (fnPred g.next)

/-- Status code FRAME_PASSED (04 R134). -/
abbrev stFramePassed : Nat := 0x0204
abbrev stNotAvailable : Nat := 0x0200
abbrev stNoResponse : Nat := 0x0201
abbrev stRejected : Nat := 0x0202
abbrev stQueueFull : Nat := 0x0203

/-- Whether APPLY_FRAME may be named now for a capturing port: FRAME_PASSED when its trigger is sent or
under 100 us away, INVALID_FIELD when it lies more than 80 ms after the command's fetch (05 R161). -/
def applyCheck (d : Dev) (fetch : Nat) (p : PortId) (apply : Nat) : Option Nat :=
  match groupOf d p with
  | none => none
  | some gi =>
    let g := grp d gi
    if !g.run || apply = 0xFFFFFFFF then none
    else if trigSent g apply then some stFramePassed
    else match trigOf g apply with
      | none => none
      | some t =>
        if t < d.tu.ns + 100000 then some stFramePassed
        else if fetch + 80000000 < t then some stInvalidField
        else none

/-- The PCLK instant of the time unit, in units of 0.5 ns (01 R10). -/
def nowPclk (d : Dev) : Nat := 2 * d.tu.ns

/-- PCLK of one line at the Isle rate (04 R124). -/
def linePclk (k : Port) : Nat := divUp (k.samples + 1) 16

/-- Isle usable: not gated in REDUCED, and the device not in SHOAL or REEF (01 R28, R22 step 4). -/
def isleAvail (d : Dev) (i : Nat) : Bool :=
  decide (d.pwr.state < 2) && !gatedUnit d rcIsle i

/-- Integrity counters saturate (11 R311). -/
def bumpInteg (i : Nat) (d : Dev) : Dev :=
  { d with integ := d.integ.setIfInBounds i (min (d.integ.getD i 0 + 1) (2 ^ 64 - 1)) }

end Sys2Proof.Machine
end

