-- ==== Sys2Proof/Machine/Strait.lean ====
section
/-!
DEFINITION. Machine/Strait.lean: the Strait lanes (03): the link sequencer of each sensor port, the back channel, block
reception, sleep, calibration, counters and LINK_DIAG.
-/
namespace Sys2Proof.Machine

/-! State access. -/

def link (d : Dev) (p : PortId) : Link := d.links[p]
def lane (d : Dev) (l : LaneId) : Lane := d.lanes[l]

def setLink (p : PortId) (k : Link) (d : Dev) : Dev := { d with links := d.links.set p k }
def modLink (p : PortId) (f : Link → Link) (d : Dev) : Dev := setLink p (f (link d p)) d
def setLane (l : LaneId) (k : Lane) (d : Dev) : Dev := { d with lanes := d.lanes.set l k }
def modLane (l : LaneId) (f : Lane → Lane) (d : Dev) : Dev := setLane l (f (lane d l)) d

/-- Physical lane I(8n + k) of a port (01 R33). -/
def portLane (p : PortId) (k : Nat) : LaneId := ⟨(8 * p.val + k % 8) % 36, Nat.mod_lt _ (by decide)⟩

/-- Change every lane of the port's width, with its position. -/
def modLanes (p : PortId) (f : Nat → Lane → Lane) (d : Dev) : Dev :=
  (List.range (link d p).width).foldl (fun d k => modLane (portLane p k) (f k) d) d

/-- A saturating 32-bit counter (03 R102, 04 R133). -/
def satInc (n : Nat) (by' : Nat := 1) : Nat := min (n + by') 0xFFFFFFFF

def bump (i : Nat) (l : Lane) : Lane :=
  { l with cnt := l.cnt.setIfInBounds i (satInc (l.cnt.getD i 0)) }

/-- Handle of a sensor port (02 R52). -/
def portHandle (p : PortId) : Nat := mkHandle 2 0 p.val

/-- LINK_STATE event of a port (04 R140). -/
def linkEvent (p : PortId) (warn : Bool) (d : Dev) : Dev :=
  raise evCapture 1 (portHandle p)
    ((link d p).state + (link d p).reason * 2 ^ 8 + (link d p).d * 2 ^ 16 + b2n warn * 2 ^ 24) d

/-! The back channel (03 R91-R93, R95, R96). -/

/-- A frame from K27.7 to K29.7, and the two K28.5 that it is kept apart by (03 R91, R92). -/
def bcChars (cls : Nat) (payload : List Byte) : List BcChar :=
  .k277 :: (bcFrame cls payload).map .d ++ [.k297, .k285, .k285]

/-- Character periods are 40 ns (03 R91). -/
abbrev bcCharNs : Nat := 40

/-- The first character boundary of a port at or after an instant, counted from the boundary at which its channel came
free (03 R91). -/
def bcAfter (k : Link) (t : Nat) : Nat := k.bcFree + divUp (t - k.bcFree) bcCharNs * bcCharNs

/-- When the next waiting frame may start: once the channel is free and a frame waits, and 64 K28.5 later where the
channel sleeps (03 R93, R95). -/
def bcNext (k : Link) : Option Nat :=
  match k.bcq with
  | [] => none
  | m :: l => some (bcAfter k (l.foldl (fun t m => min t m.ns) m.ns + (if k.bcAsleep then 64 * bcCharNs else 0)))

/-- The frame that starts at an instant, of those then waiting: SMIWALD before LINK, else the first handed over (03 R93). -/
def bcPick (l : List BcMsg) (t : Nat) : Option BcMsg :=
  let l := l.filter fun m => decide (m.ns ≤ t)
  match l.find? fun m => m.cls == 2 with
  | some m => some m
  | none => l.head?

/-- A frame starts at an instant: it is counted, and ends with its K29.7; the silence of a register message and of
TX_PRESET is measured from there (03 R92-R94, R102, 04 R134; DESIGN CHOICE 67 for TX_PRESET). -/
def bcStart (p : PortId) (start cls : Nat) (payload : List Byte) (tag : Option Byte) (d : Dev) : Dev :=
  let chars := bcChars cls payload
  let fin := start + (chars.length - 2) * bcCharNs
  let d := modLane (portLane p 0) (bump 12) d
  let d := modLink p (fun k => { k with
    bcAsleep := false, bcFree := start + chars.length * bcCharNs
    askedNs := if cls = 1 && le payload 0 1 = 2 then some fin else k.askedNs }) d
  let d := match tag with
    | none => d
    | some tg => { d with ports := d.ports.set p { d.ports[p] with
        ctrl := d.ports[p].ctrl.map fun w => if w.tag == tg then { w with sent := some fin } else w } }
  emit (.bc p start chars) d

/-- The waiting frames whose start has come are sent, each in its turn; `guard` is the boundary for which the next
trigger is scheduled, in the 3 us before which no other frame starts (03 R93). -/
def bcRun (p : PortId) (guard : Option Nat) : Nat → Dev → Dev
  | 0, d => d
  | n + 1, d =>
    let k := link d p
    match bcNext k with
    | none => d
    | some t =>
      if d.tu.ns < t || guard.any (fun b => decide (b < t + 3000)) then d
      else match bcPick k.bcq t with
        | none => d
        | some m =>
          bcRun p guard n (bcStart p t m.cls m.payload m.tag (modLink p (fun k => { k with bcq := k.bcq.erase m }) d))

/-- The boundary for which the next trigger of a port's group is scheduled (03 R93, 04 R116). -/
def bcGuard (d : Dev) (p : PortId) : Option Nat :=
  match groupOf d p with
  | none => none
  | some g => if (grp d g).run && !(grp d g).ended then nextTrig (grp d g) else none

def bcPump (p : PortId) (d : Dev) : Dev := bcRun p (bcGuard d p) (link d p).bcq.length d

/-- Hand a frame to the back channel (03 R92, R93). -/
def bcSend (p : PortId) (cls : Nat) (payload : List Byte) (d : Dev) (tag : Option Byte := none) : Dev :=
  bcPump p (modLink p (fun k => { k with bcq := k.bcq ++ [{ cls, payload, ns := d.tu.ns, tag }] }) d)

/-- A LINK class message to the sensor (03 R94). -/
def bcLink (p : PortId) (code b1 b2 b3 : Nat) (d : Dev) : Dev :=
  bcSend p 1 [BitVec.ofNat 8 code, BitVec.ofNat 8 b1, BitVec.ofNat 8 b2, BitVec.ofNat 8 b3] d

/-- Stop the eye scans of a port's lanes (03 R106). -/
def stopScans (p : PortId) (d : Dev) : Dev :=
  (List.range 8).foldl (fun d k => modLane (portLane p k) (fun l =>
    if l.scan.isSome then { l with scanStop := true } else l) d) d

/-- A change of state stops the eye scans: leaving UP for ALIGN, and any change to DISABLED, DETECT, TRAIN or FAIL; in a
sleep state and in the ALIGN of a wake a dwell only pauses (03 R97, R106). -/
def stateStopsScans (old new : Nat) : Bool := (new == 3 && old == 4) || !(new == 3 || new == 4 || new == 5 || new == 6)

/-- A state change of the sequencer, raised as an event where the state does change (03 R85). -/
def toState (p : PortId) (st : Nat) (d : Dev) : Dev :=
  let old := (link d p).state
  if old = st then d
  else
    let d := modLink p (fun k => { k with state := st }) d
    linkEvent p false (if stateStopsScans old st then stopScans p d else d)

/-- Enter FAIL with a reason (03 R85). -/
def toFail (p : PortId) (reason : Nat) (d : Dev) : Dev :=
  toState p 7 (modLink p (fun k => { k with reason, asked := none, retrain := false, req := none, failNs := d.tu.ns }) d)

/-- Enter DETECT: bring-up begins afresh; D stands until the port next passes through ALIGN (03 R85, R86, R90). -/
def toDetect (p : PortId) (d : Dev) : Dev :=
  toState p 1 (modLink p (fun k => { k with
    attempts := 0, adapted := false, retrain := false, asked := none, final := false
    again := false, best := none, seen := false, req := none }) d)

/-- Counters as after a clear: FOM_MIN is 0xFF (03 R102). -/
def clearedCounters : Vector Nat 16 := (Vector.replicate 16 0).set 13 255

/-- PORT_CONFIG enables a port: its lanes are powered, their counters count from here, and no D is held (03 R86, R102). -/
def startLink (p : PortId) (d : Dev) : Dev :=
  let d := modLanes p (fun _ l => { l with cnt := clearedCounters, low := 0, miss := 0 }) d
  toDetect p (modLink p (fun k => { k with dHeld := false, bcAsleep := false, bcq := [] }) d)

/-- Note a TRAIN_REQ or RETRAIN sent now (03 R86, R563). -/
def noteReq (p : PortId) (d : Dev) : Dev :=
  modLink p (fun k => { k with req := some ((k.req.map (·.1)).getD d.tu.ns, d.tu.ns) }) d

/-- A millisecond has passed since the last request, or none has been sent (03 R86, R563). -/
def reqDue (d : Dev) (p : PortId) : Bool :=
  match (link d p).req with
  | none => true
  | some (_, t) => decide (t + 1000000 ≤ d.tu.ns)

/-- Return to TRAIN from UP, ALIGN or sleep, with RETRAIN (03 R563); the stored adaptation is the
starting point (03 R97, R101). -/
def toRetrain (p : PortId) (d : Dev) : Dev :=
  let d := modLink p (fun k => { k with
    attempts := 0, retrain := true, adapted := true, asked := none, final := false, seen := false, req := none }) d
  toState p 2 (bcLink p 5 0 0 0 (noteReq p d))

/-- Enter ALIGN. -/
def toAlign (p : PortId) (seen : Bool) (d : Dev) : Dev :=
  toState p 3 (modLanes p (fun _ l => { l with miss := 0 }) (modLink p (fun k => { k with seen, alignNs := d.tu.ns }) d))

/-! Timers of bring-up (03 R85, R86, R563). -/

/-- TRAIN_REQ every 1 ms in DETECT; the sensor chooses its preset (03 R94, DESIGN CHOICE 68). -/
def trainReqTimer (p : PortId) (d : Dev) : Dev :=
  if (link d p).state = 1 && reqDue d p then bcLink p 1 (link d p).rate (link d p).width 0xFF (noteReq p d) else d

def execTrainReqTimer (p : PortId) (s : State) : Host.Outcome State Fault Refusal :=
  .next (s.mapDev (trainReqTimer p))

/-- RETRAIN is repeated every 1 ms until TRAIN blocks arrive (03 R563). -/
def retrainTimer (p : PortId) (d : Dev) : Dev :=
  if (link d p).state = 2 && (link d p).retrain && reqDue d p then bcLink p 5 0 0 0 (noteReq p d) else d

def execRetrainTimer (p : PortId) (s : State) : Host.Outcome State Fault Refusal :=
  .next (s.mapDev (retrainTimer p))

/-- No TRAIN blocks within 10 ms of the first TRAIN_REQ or RETRAIN (03 R85, R563). -/
def noResponseTimeout (p : PortId) (d : Dev) : Dev :=
  if ((link d p).state = 1 || ((link d p).state = 2 && (link d p).retrain)) &&
      (link d p).req.any (fun r => decide (r.1 + 10000000 ≤ d.tu.ns)) then toFail p 6 d else d

def execNoResponseTimeout (p : PortId) (s : State) : Host.Outcome State Fault Refusal :=
  .next (s.mapDev (noResponseTimeout p))

/-- A retry from FAIL, 100 ms after the entry, starts at DETECT, from step 2 of R86 (03 R85, R563). -/
def failRetry (p : PortId) (d : Dev) : Dev :=
  if (link d p).state = 7 && decide ((link d p).failNs + 100000000 ≤ d.tu.ns) then toDetect p d else d

def execFailRetry (p : PortId) (s : State) : Host.Outcome State Fault Refusal :=
  .next (s.mapDev (failRetry p))

/-! TRAIN (03 R86, R94, R99). -/

/-- An adaptation attempt begins on every lane. -/
def countAttempt (p : PortId) (d : Dev) : Dev := modLanes p (fun _ => bump 6) d

def inOrder (ls : List LaneTrain) : Bool :=
  (List.range ls.length).all fun k => (ls[k]?.map LaneTrain.logical) == some k

def isReversed (ls : List LaneTrain) : Bool :=
  (List.range ls.length).all fun k => (ls[k]?.map LaneTrain.logical) == some (ls.length - 1 - k)

/-- What the lanes of the width read from their TRAIN blocks, by physical position (03 R86). -/
def trainLanes (d : Dev) (p : PortId) (ls : List (List Blk)) : List (Option LaneTrain) :=
  (List.range (link d p).width).map fun i => laneTrain (pam4Rate (link d p).rate) ((ls[i]?).getD [])

/-- TRAIN blocks settled on every lane of the width: the checks and the start of an attempt (03 R86). Where several
things are wrong at once, FAIL_REASON is WIDTH_MISMATCH before RATE_MISMATCH before LANE_ORDER (DESIGN CHOICE 69). A
search runs where the sensor can change its preset, PORT_CONFIG asks for it and no adaptation is stored (03 R97, R99). -/
def trainSettled (p : PortId) (ls : List LaneTrain) (d : Dev) : Dev :=
  let k := link d p
  if ls.any (fun l => l.width != k.width) then toFail p 5 d
  else if ls.any (fun l => l.rateCode != k.rate) then toFail p 4 d
  else if !(inOrder ls || isReversed ls) then toFail p 2 d
  else
    let searching := k.search && ls.all LaneTrain.txEq && !k.adapted
    let d := modLanes p (fun i l => { l with
      inverted := ((ls[i]?).map LaneTrain.inverted).getD false
      scr := scrSeed (((ls[i]?).map LaneTrain.logical).getD i) }) d
    let d := modLink p (fun k => { k with
      reversed := !inOrder ls, retrain := false, req := none
      txEq := ls.all LaneTrain.txEq
      preset := ((ls.head?).map LaneTrain.preset).getD 0
      asked := if searching then some 0 else none
      askedNs := none, final := false, again := false, best := none }) d
    let d := countAttempt p d
    let d := if k.state = 1 then toState p 2 d else d
    if searching then bcLink p 2 0 0 0 d else d

/-- TRAIN blocks arrive while they are awaited; those missing on a lane of the width fail the port (03 R85, R86). -/
def trainBlockRx (p : PortId) (ls : List (List Blk)) (d : Dev) : Dev :=
  let k := link d p
  if !(k.state == 1 || (k.state == 2 && k.retrain)) then d
  else
    let ts := trainLanes d p ls
    if ts.all Option.isNone then d
    else if ts.any Option.isNone then toFail p 5 d
    else trainSettled p (ts.filterMap id) d

def execTrainBlockRx (p : PortId) (lanes : List (List Blk)) (s : State) :
    Host.Outcome State Fault Refusal :=
  .next (s.mapDev (trainBlockRx p lanes))

/-- Record a FOM measured on each lane; FOM_MIN keeps the lowest (03 R102). -/
def recordFom (p : PortId) (foms : List Nat) (d : Dev) : Dev :=
  modLanes p (fun i l => match foms[i]? with
    | some f => { l with fom := f, cnt := l.cnt.set 13 (min l.cnt[13] f) }
    | none => l) d

/-- Every lane of the width has a FOM of at least 24 (03 R99). -/
def fomPass (w : Nat) (foms : List Nat) : Bool := foms.length == w && foms.all (24 ≤ ·)

/-- The taps a lane's DFE has: 12 at PAM4 rates, 8 at NRZ rates (03 R98). -/
def dfeTaps (rate : Nat) : Nat := if pam4Rate rate then 12 else 8

/-- Adaptation, or tracking, leaves a lane's CTLE and DFE where the receiver puts them: free values (03 R98-R100). -/
def equalised (n rate : Nat) (l : Lane) : Lane :=
  { l with ctle := (Config.ctleSetting n).val, dfe := (List.range (dfeTaps rate)).map (Config.dfeTap n) }

/-- An attempt ends: TRAIN_DONE and ALIGN, a new attempt from another CTLE starting point, or LOW_FOM after the third (03
R87, R99). The starting point of the next attempt is the present setting plus 1, modulo 16 (DESIGN CHOICE 71). -/
def endAttempt (p : PortId) (foms : List Nat) (d : Dev) : Dev :=
  let n := d.free
  let d := modLanes p (fun i => equalised (n + i) (link d p).rate) (recordFom p foms { d with free := n + 8 })
  let k := link d p
  if fomPass k.width foms then
    let d := modLink p (fun k => { k with adapted := true, asked := none, final := false }) d
    toAlign p false (bcLink p 3 0 0 0 d)
  else
    let d := modLanes p (fun i l => if (foms[i]?).getD 0 < 24 then bump 7 l else l) d
    let d := modLink p (fun k => { k with attempts := k.attempts + 1 }) d
    if k.attempts + 1 ≥ 3 then toFail p 1 d
    else
      let searching := k.search && k.txEq && !k.adapted
      let d := modLanes p (fun _ l => { l with ctle := (l.ctle + 1) % 16 }) d
      let d := modLink p (fun k => { k with
        asked := if searching then some 0 else none, askedNs := none, final := false, again := false, best := none }) d
      let d := countAttempt p d
      if searching then bcLink p 2 0 0 0 d else d

/-- An adaptation attempt without a search ends (03 R99). -/
def adaptationDone (p : PortId) (foms : List Nat) (d : Dev) : Dev :=
  if (link d p).state = 2 && !(link d p).retrain && (link d p).asked.isNone then endAttempt p foms d
  else d

def execAdaptationDone (p : PortId) (foms : List Nat) (s : State) : Host.Outcome State Fault Refusal :=
  .next (s.mapDev (adaptationDone p foms))

/-- The FOM of a port at a preset: its worst lane. -/
def portFom (foms : List Nat) : Nat := foms.foldl min 255

/-- Ask the sensor for a preset (03 R94). -/
def askPreset (p : PortId) (n : Nat) (final : Bool) (d : Dev) : Dev :=
  bcLink p 2 n 0 0 (modLink p (fun k => { k with asked := some n, askedNs := none, final, again := false }) d)

/-- The search ends: the best preset acknowledged is put back, or decides the attempt (03 R99). One in which no preset was
ever acknowledged counts as a failed attempt (DESIGN CHOICE 70). -/
def endSearch (p : PortId) (d : Dev) : Dev :=
  match (link d p).best with
  | none => endAttempt p [] (modLink p (fun k => { k with asked := none }) d)
  | some (n, foms) =>
    if (link d p).preset = n then endAttempt p foms (modLink p (fun k => { k with asked := none }) d)
    else askPreset p n true d

/-- PRESET_ACK (03 R94, R99): the higher FOM is kept, the lower preset on a tie. -/
def presetTaken (p : PortId) (preset : Nat) (foms : List Nat) (d : Dev) : Dev :=
  let k := link d p
  if k.state != 2 || k.asked != some preset then d
  else
    let d := modLink p (fun k => { k with preset }) (recordFom p foms d)
    if k.final then endAttempt p foms (modLink p (fun k => { k with asked := none }) d)
    else
      let better := match k.best with
        | none => true
        | some (_, f) => decide (portFom f < portFom foms)
      let d := if better then modLink p (fun k => { k with best := some (preset, foms) }) d else d
      if preset < 15 then askPreset p (preset + 1) false d else endSearch p d

/-- The physical position of logical lane k of a port (03 R86). -/
def physOf (k : Link) (i : Nat) : Nat := if k.reversed then k.width - 1 - i else i

/-- The LCTL copies of a block time in logical order, descrambled from the state after the latest TRAIN block, with
whether each is an LCTL block that passes its CRC (03 R80, R83). -/
def lctlCopies (d : Dev) (p : PortId) (time : BlkTime) : List (Bool × List Byte) :=
  let k := link d p
  (List.range k.width).map fun i =>
    let (h, l) := readBlk (pam4Rate k.rate) (lane d (portLane p (physOf k i))).inverted ((time[physOf k i]?).getD [])
    let l := l.take 1 ++ (descramble (scrSeed i) (l.drop 1)).1
    (h == some false && le l 0 1 == cbLctl && blkCrcOk l, l)

/-- A PRESET_ACK arrives in an LCTL block time: the copy on logical lane 0 counts or, if that fails its CRC, the first copy
that passes (03 R83, R94). -/
def presetAck (p : PortId) (time : BlkTime) (foms : List Nat) (d : Dev) : Dev :=
  let cs := lctlCopies d p time
  let d := if ((cs.head?).map (·.1)).getD false then d else modLane (portLane p (physOf (link d p) 0)) (bump 11) d
  match cs.find? (·.1) with
  | some (_, l) => if le l 1 1 = 0x81 then presetTaken p (le l 2 1) foms d else d
  | none => d

def execPresetAck (p : PortId) (time : BlkTime) (foms : List Nat) (s : State) :
    Host.Outcome State Fault Refusal :=
  .next (s.mapDev (presetAck p time foms))

/-- No PRESET_ACK for 20 us after the end of a TX_PRESET: it is repeated once, then the search ends (03 R94). -/
def presetAckTimeout (p : PortId) (d : Dev) : Dev :=
  let k := link d p
  match k.state, k.asked with
  | 2, some n =>
    if !k.askedNs.any (fun t => decide (t + 20000 ≤ d.tu.ns)) then d
    else if !k.again then bcLink p 2 n 0 0 (modLink p (fun k => { k with again := true }) d)
    else if k.final then
      endAttempt p ((k.best.map (·.2)).getD []) (modLink p (fun k => { k with asked := none }) d)
    else endSearch p d
  | _, _ => d

def execPresetAckTimeout (p : PortId) (s : State) : Host.Outcome State Fault Refusal :=
  .next (s.mapDev (presetAckTimeout p))

/-! ALIGN, UP and COMMA blocks (03 R84, R86, R88, R90, R101). -/

/-- Lane-to-lane skew in PCLK, rounded up (03 R88). -/
def skewPclk (ls : List LaneComma) : Nat :=
  let ts := ls.map LaneComma.arrivalPs
  (ts.foldl max 0 - ts.foldl min (ts.foldl max 0) + 499) / 500

/-- D after an alignment: kept while the skew fits within it, else the skew (03 R90). -/
def newD (k : Link) (skew : Nat) : Nat := if k.dHeld && skew ≤ k.d then k.d else skew

/-- The COMMA block time is whole on every lane: present, good, and of one COMMA_SEQ, which tells block times of
different COMMAs apart (03 R83, R86; DEDUCED 72). -/
def commaOk (w : Nat) (ls : List LaneComma) : Bool :=
  ls.length == w && ls.all (fun l => l.present && l.crcOk) &&
  (match ls with
    | [] => true
    | l :: rest => rest.all fun m => m.seq == l.seq)

/-- Logical number of the lane at a physical position (03 R86). -/
def logicalOf (k : Link) (i : Nat) : Nat := physOf k i

/-- What the lanes of a port read in a COMMA block time, by physical position (03 R83). -/
def commaLanes (d : Dev) (p : PortId) (ls : List CommaRx) : List LaneComma :=
  ((List.range (link d p).width).zip ls).map fun x =>
    laneComma (pam4Rate (link d p).rate) (lane d (portLane p x.1)).inverted x.2.blk x.2.arrivalPs

/-- Count what each lane saw of a COMMA block time; a COMMA reloads its lane's scrambler (03 R80, R101, R102). -/
def countComma (p : PortId) (ls : List LaneComma) (d : Dev) : Dev :=
  modLanes p (fun i l => match ls[i]? with
    | none => { bump 3 l with miss := l.miss + 1 }
    | some c =>
      if !c.present then { bump 3 l with miss := l.miss + 1 }
      else if !c.crcOk then { bump 2 l with miss := l.miss + 1, scr := scrSeed (logicalOf (link d p) i) }
      else { l with miss := 0, scr := scrSeed (logicalOf (link d p) i) }) d

/-- Alignment confirmed: D, LINK_UP, UP (03 R86); the packet stream starts afresh (04 R108). -/
def linkUp (p : PortId) (skew : Nat) (d : Dev) : Dev :=
  let dd := newD (link d p) skew
  let d := modLink p (fun k => { k with d := dd, dHeld := true, seen := false }) d
  let d := { d with ports := d.ports.set p { d.ports[p] with hunt := false, rx := [] } }
  toState p 4 (bcLink p 4 dd 0 0 d)

/-- An UP port leaves for ALIGN, the loss counted on the lane that caused it (03 R101, R102). -/
def loseAlign (p : PortId) (lane : Nat) (d : Dev) : Dev :=
  toAlign p false (modLane (portLane p lane) (bump 4) d)

/-- A good COMMA of another COMMA_SEQ than the first good one: COMMAs in different block times (03 R101, DEDUCED 72). -/
def oddComma (ls : List LaneComma) : Option Nat :=
  match ls.find? fun l => l.present && l.crcOk with
  | none => none
  | some c => ls.findIdx? fun l => l.present && l.crcOk && l.seq != c.seq

/-- A COMMA block time on an UP port: two in a row missed or failed on a lane, or COMMAs in different block times, lose
the alignment (03 R101). -/
def commaUp (p : PortId) (ls : List LaneComma) (d : Dev) : Dev :=
  let d := countComma p ls d
  match (List.range (link d p).width).find? fun i => 2 ≤ (lane d (portLane p i)).miss with
  | some i => loseAlign p i d
  | none => match oddComma ls with
    | some i => loseAlign p i d
    | none => d

/-- A COMMA block time arrives (03 R86, R88, R97, R101). -/
def commaSeen (p : PortId) (ls : List LaneComma) (d : Dev) : Dev :=
  let k := link d p
  match k.state with
  | 3 =>
    let d := countComma p ls d
    if !commaOk k.width ls then modLink p (fun k => { k with seen := false }) d
    else if skewPclk ls > 63 then toFail p 3 d
    else if k.seen then linkUp p (skewPclk ls) d
    else modLink p (fun k => { k with seen := true }) d
  | 4 => commaUp p ls d
  | 5 => if commaOk k.width ls then toAlign p true (countComma p ls d) else d
  | 6 => if commaOk k.width ls then toAlign p true (countComma p ls d) else d
  | _ => d

def commaBlockRx (p : PortId) (ls : List CommaRx) (d : Dev) : Dev := commaSeen p (commaLanes d p ls) d

def execCommaBlockRx (p : PortId) (lanes : List CommaRx) (s : State) :
    Host.Outcome State Fault Refusal :=
  .next (s.mapDev (commaBlockRx p lanes))

/-- Lane rate in Mbit/s (03 R76). -/
def laneMbps : Nat → Nat
  | 1 => 56000
  | 2 => 48000
  | 3 => 28000
  | 4 => 24000
  | 5 => 14000
  | 6 => 7000
  | 7 => 3500
  | _ => 0

/-- A number of comma periods of a port, in ns (03 R84). -/
def commaNs (k : Link) (n : Nat) : Nat := divUp (n * 2048 * 132 * 1000) (laneMbps k.rate)

/-- ALIGN does not confirm within 4 comma periods (03 R101). -/
def alignTimeout (p : PortId) (d : Dev) : Dev :=
  if (link d p).state = 3 && decide ((link d p).alignNs + commaNs (link d p) 4 ≤ d.tu.ns) then toRetrain p d else d

def execAlignTimeout (p : PortId) (s : State) : Host.Outcome State Fault Refusal :=
  .next (s.mapDev (alignTimeout p))

/-- A lane loses lock (03 R85, R101, R102). Causes: 0 sixteen invalid headers in 64, 1 two COMMAs
missed, 2 COMMAs in different block times, 3 an elastic slip; the fourth slip within 1 s fails. -/
def laneLockLoss (p : PortId) (lane cause : Nat) (d : Dev) : Dev :=
  let k := link d p
  if k.state != 4 then d
  else
    let i := portLane p lane
    let d := if cause = 0 then modLane i (bump 1) d
      else if cause = 3 then modLane i (bump 5) d else d
    if cause = 3 then
      let slips := (k.slips.filter fun t => d.tu.ns < t + 1000000000) ++ [d.tu.ns]
      let d := modLink p (fun k => { k with slips }) d
      if slips.length ≥ 4 then toFail p 7 (modLink p (fun k => { k with slips := [] }) d)
      else loseAlign p lane d
    else loseAlign p lane d

def execLaneLockLoss (p : PortId) (lane cause : Nat) (s : State) : Host.Outcome State Fault Refusal :=
  .next (s.mapDev (laneLockLoss p lane cause))

/-! Sleep (03 R95-R97). -/

/-- A SLEEP block puts an UP port to sleep: byte 1 is 0 for light, 1 for deep (03 R95). -/
def sleepSeen (p : PortId) (deep : Bool) (d : Dev) : Dev :=
  if (link d p).state = 4 then
    toState p (if deep then 6 else 5) (modLanes p (fun _ => bump 8) d)
  else d

/-! Block reception of an UP port (03 R80-R83). -/

/-- One lane's block of a block time, in logical order: header, and payload as received. -/
def timeLanes (d : Dev) (p : PortId) (t : BlkTime) : List (LaneId × Option Bool × List Byte) :=
  let k := link d p
  (List.range k.width).map fun i =>
    let l := portLane p (physOf k i)
    (l, readBlk (pam4Rate k.rate) (lane d l).inverted ((t[physOf k i]?).getD []))

/-- A block that counts as BLOCK_ERR: its header is invalid, or it is a control block of unknown type (03 R82, R102). -/
def blockBad (h : Option Bool) (l : List Byte) : Bool :=
  match h with
  | none => true
  | some true => false
  | some false => !typeKnown (le l 0 1)

/-- The scrambler's bytes of one lane's block of a data block time; its state steps over them (03 R80). -/
def laneData (l : LaneId) (bytes : List Byte) (d : Dev) : List Byte × Dev :=
  let (r, s) := descramble (lane d l).scr bytes
  (r, modLane l (fun k => { k with scr := s }) d)

/-- A data block time: its bytes join the stream S in lane order, marked in error where any header is invalid (03 R81). -/
def dataTime (p : PortId) (ls : List (LaneId × Option Bool × List Byte)) (d : Dev) : Dev :=
  let bad := ls.any fun x => x.2.1.isNone
  let (bytes, d) := ls.foldl (fun (acc : List Byte × Dev) x =>
    let (r, d) := laneData x.1 x.2.2 acc.2
    (acc.1 ++ r, d)) ([], d)
  { d with ports := d.ports.set p { d.ports[p] with rx := d.ports[p].rx ++ bytes.map fun b => (b, bad) } }

/-- A control block time: IDLE, LCTL and SLEEP step the scrambler over bytes 1 to 15, TRAIN and COMMA reload it, and an
unknown type is discarded (03 R80, R82). LCTL says nothing outside the preset search (03 R94). -/
def controlTime (p : PortId) (ls : List (LaneId × Option Bool × List Byte)) (d : Dev) : Dev :=
  let at0 := (ls.find? fun x => x.2.1 == some false).getD (portLane p 0, none, [])
  let ty := le at0.2.2 0 1
  if ty = cbIdle || ty = cbLctl || ty = cbSleep then
    let plain := (descramble (lane d at0.1).scr (at0.2.2.drop 1)).1
    let bad0 := ty == cbLctl && !(((ls.head?).map fun x => blkCrcOk (x.2.2.take 1 ++ (descramble (lane d x.1).scr (x.2.2.drop 1)).1)).getD true)
    let d := if bad0 then modLane (portLane p (physOf (link d p) 0)) (bump 11) d else d
    let d := ls.foldl (fun d x => (laneData x.1 (x.2.2.drop 1) d).2) d
    if ty = cbSleep && le plain 0 1 = 0 then sleepSeen p false d
    else if ty = cbSleep && le plain 0 1 = 1 then sleepSeen p true d
    else d
  else if ty = cbComma then
    let k := link d p
    commaUp p ((List.range k.width).map fun i =>
      match ls[logicalOf k i]? with
      | some x => { present := x.2.1 == some false && le x.2.2 0 1 == cbComma, crcOk := blkCrcOk x.2.2, seq := le x.2.2 4 1, arrivalPs := 0 }
      | none => { present := false, crcOk := false, seq := 0, arrivalPs := 0 }) d
  else if ty = cbTrain then
    (ls.zipIdx).foldl (fun d x => modLane x.1.1 (fun l => { l with scr := scrSeed x.2 }) d) d
  else d

/-- One block time of an UP port (03 R81, R82). One with no valid header at all has no kind, and nothing comes of it but
its BLOCK_ERR counts (DESIGN CHOICE 73). -/
def blockTime (p : PortId) (t : BlkTime) (d : Dev) : Dev :=
  if (link d p).state != 4 then d
  else
    let ls := timeLanes d p t
    let d := ls.foldl (fun d x => if blockBad x.2.1 x.2.2 then modLane x.1 (bump 0) d else d) d
    match timeKind (ls.map fun x => x.2.1) with
    | some true => dataTime p ls d
    | some false => controlTime p ls d
    | none => d

/-- The block times since the port's last row, in order (03 R81). -/
def receive (p : PortId) (times : List BlkTime) (d : Dev) : Dev := times.foldl (fun d t => blockTime p t d) d

/-- A SLEEP block arrives, after the block times before it (03 R95). -/
def sleepBlockRx (p : PortId) (times : List BlkTime) (d : Dev) : Dev := receive p times d

def execSleepBlockRx (p : PortId) (times : List BlkTime) (s : State) : Host.Outcome State Fault Refusal :=
  .next (s.mapDev (sleepBlockRx p times))

/-- No COMMA within 4 comma periods of the signal's return, an instant the receiver notes: WAKE_OVERRUN and a retrain (03
R97). -/
def wakeTimeout (p : PortId) (signalNs : Nat) (d : Dev) : Dev :=
  if ((link d p).state = 5 || (link d p).state = 6) && decide (signalNs + commaNs (link d p) 4 ≤ d.tu.ns) then
    toRetrain p (modLanes p (fun _ => bump 9) d)
  else d

def execWakeTimeout (p : PortId) (signalNs : Nat) (s : State) : Host.Outcome State Fault Refusal :=
  .next (s.mapDev (wakeTimeout p signalNs))

/-- 20 us without a waiting frame: the back channel sleeps where permitted and clocked by REF (03 R95, R96). -/
def bcSleepTimer (p : PortId) (d : Dev) : Dev :=
  let d := bcPump p d
  let k := link d p
  if k.state != 0 && k.bcSleep && k.clkRef && k.bcq.isEmpty && decide (k.bcFree + 20000 ≤ d.tu.ns) then
    modLink p (fun k => { k with bcAsleep := true }) d
  else d

def execBcSleepTimer (p : PortId) (s : State) : Host.Outcome State Fault Refusal :=
  .next (s.mapDev (bcSleepTimer p))

/-! Background calibration (03 R100). -/

/-- The port that owns an inbound lane, and the lane's place in it. -/
def lanePort (l : LaneId) : Option PortId :=
  if h : l.val < 32 then some ⟨l.val / 8, by omega⟩ else none

/-- The network port's link of an outbound lane is up (03 R104, 14 R390). -/
def netLaneUp (d : Dev) (l : LaneId) : Bool :=
  let n : NetId := ⟨(l.val - 32) / 2, by have := l.isLt; omega⟩
  d.nets[n].on && d.nets[n].up

/-- Calibration runs in UP and in both sleep states; on O0-O3 while the network port's link is up, and on no lane in
SHOAL or REEF (03 R100, R104, R107). -/
def laneRuns (d : Dev) (l : LaneId) : Bool :=
  match lanePort l with
  | some p => decide (l.val % 8 < (link d p).width) && decide (4 ≤ (link d p).state) &&
      decide ((link d p).state ≤ 6)
  | none => netLaneUp d l && decide (d.pwr.state < 2)

/-- The thermal sensor nearest a lane: TS12-TS15 for the groups of P0-P3, TS16 for O0-O7 (03 R100, 21 R517). -/
def laneSensor (l : LaneId) : TsId := if l.val < 32 then ⟨12 + l.val / 8 % 4, by omega⟩ else 16

def laneTemp (d : Dev) (l : LaneId) : Int := d.thm.ts[laneSensor l]

/-- Rate of a lane: its port's, or PAM4 on O0-O3 (03 R76, R77). -/
def laneCode (d : Dev) (l : LaneId) : Nat := match lanePort l with
  | some p => (link d p).rate
  | none => 1

/-- 10 ms have passed since the lane's last calibration, or its sensor has moved 8 degrees (03 R100). -/
def recalDue (d : Dev) (l : LaneId) : Bool :=
  decide ((lane d l).calNs + 10000000 ≤ d.tu.ns) || decide (128 ≤ (laneTemp d l - (lane d l).calT).natAbs)

/-- The spare sampler set is calibrated and swapped in; CTLE and DFE track meanwhile (03 R100). -/
def laneRecalTimer (l : LaneId) (d : Dev) : Dev :=
  if laneRuns d l && recalDue d l then
    modLane l (fun k => equalised d.free (laneCode d l)
      { bump 10 k with spare := !k.spare, calNs := d.tu.ns, calT := laneTemp d l }) { d with free := d.free + 1 }
  else d

def execLaneRecalTimer (l : LaneId) (s : State) : Host.Outcome State Fault Refusal :=
  .next (s.mapDev (laneRecalTimer l))

/-- A FOM measurement, every 10 ms; the third low one in a row reports FOM_WARN (03 R100). -/
def fomMeasure (l : LaneId) (fom : Nat) (d : Dev) : Dev :=
  if !laneRuns d l || decide (d.tu.ns < (lane d l).fomNs + 10000000) then d
  else
    let low := if fom < 16 then (lane d l).low + 1 else 0
    let d := modLane l (fun k => { k with fom, low, fomNs := d.tu.ns, cnt := k.cnt.set 13 (min k.cnt[13] fom) }) d
    match lanePort l with
    | some p => if low = 3 then linkEvent p true d else d
    | none => d

def execFomMeasure (l : LaneId) (fom : Nat) (s : State) : Host.Outcome State Fault Refusal :=
  .next (s.mapDev (fomMeasure l fom))

/-! LINK_DIAG (03 R103-R106). -/

/-- The lane of a LINK_DIAG entry; values past 35 are refused before it is used. -/
def diagLane (e : Sqe) : LaneId := ⟨fld e 33 1 % 36, Nat.mod_lt _ (by decide)⟩

def diagChecks (e : Sqe) : List (Nat × Bool) := [(33, decide (fld e 33 1 < 36))]

def diagLayout : List (Nat × Nat × Nat) := [(32, 0, 16)]

/-- RESULT of STATUS (03 R104). A lane of a disabled port, or beyond the width, reports the RATE_CODE and width last
configured (DESIGN CHOICE 74). -/
def diagStatus (d : Dev) (l : LaneId) : Nat :=
  let n := lane d l
  let own := n.fom * 2 ^ 40 + n.cnt[13] % 256 * 2 ^ 48 + n.ctle * 2 ^ 56
  match lanePort l with
  | none => own
  | some p =>
    let k := link d p
    own + k.state + k.reason * 2 ^ 8 + k.rate * 2 ^ 16 + k.width * 2 ^ 24 + b2n n.inverted * 2 ^ 28 +
      b2n k.reversed * 2 ^ 29 + k.d * 2 ^ 32 + k.preset * 2 ^ 60

def specLinkDiagStatus : CmdSpec where
  op := .linkDiagStatus
  layout := diagLayout
  checks := diagChecks

def linkDiagStatusBody (c : Outst) (d : Dev) : Ans := okAns d (res := diagStatus d (diagLane c.e))

def execLinkDiagStatus (t : Nat) (s : State) : Host.Outcome State Fault Refusal :=
  .next (s.mapDev (hostRow specLinkDiagStatus t linkDiagStatusBody))

def specLinkDiagCounters : CmdSpec where
  op := .linkDiagCounters
  layout := diagLayout
  checks := diagChecks
  data := someData

/-- COUNTERS (03 R103); on O0-O3 only entries 10 and 13 count (03 R102). -/
def laneCounters (d : Dev) (l : LaneId) : List Byte :=
  pack ((List.range 16).map fun i =>
    (4, if l.val < 32 || i = 10 || i = 13 then (lane d l).cnt.getD i 0 else 0))

def linkDiagCountersBody (c : Outst) (d : Dev) : Ans :=
  okAns (writeData c (laneCounters d (diagLane c.e)) d)

def execLinkDiagCounters (t : Nat) (s : State) : Host.Outcome State Fault Refusal :=
  .next (s.mapDev (hostRow specLinkDiagCounters t linkDiagCountersBody))

def specLinkDiagCounterClear : CmdSpec where
  op := .linkDiagCounterClear
  layout := diagLayout
  checks := diagChecks

def linkDiagCounterClearBody (c : Outst) (d : Dev) : Ans :=
  okAns (modLane (diagLane c.e) (fun l => { l with cnt := clearedCounters }) d)

def execLinkDiagCounterClear (t : Nat) (s : State) : Host.Outcome State Fault Refusal :=
  .next (s.mapDev (hostRow specLinkDiagCounterClear t linkDiagCounterClearBody))

/-- The points of a scan: phases and voltages (03 R105). -/
def scanPhases (e : Sqe) : Nat :=
  ((signed 8 (fld e 37 1) - signed 8 (fld e 36 1)) / (fldBits e 38 0 4 + 1 : Int)).toNat + 1
def scanVolts (e : Sqe) : Nat :=
  ((signed 8 (fld e 41 1) - signed 8 (fld e 40 1)) / (fldBits e 38 4 4 + 1 : Int)).toNat + 1
def scanPoints (e : Sqe) : Nat := scanPhases e * scanVolts e

def specLinkDiagEyeScan : CmdSpec where
  op := .linkDiagEyeScan
  layout := diagLayout ++ [(36, 0, 24), (40, 0, 32)]
  checks e := diagChecks e ++
    [(36, decide (-32 ≤ signed 8 (fld e 36 1)) && decide (signed 8 (fld e 36 1) ≤ 31)),
     (37, decide (signed 8 (fld e 36 1) ≤ signed 8 (fld e 37 1)) && decide (signed 8 (fld e 37 1) ≤ 31)),
     (40, decide (-127 ≤ signed 8 (fld e 40 1))),
     (41, decide (signed 8 (fld e 40 1) ≤ signed 8 (fld e 41 1))),
     (42, decide (fld e 42 1 ≤ 2)), (43, decide (20 ≤ fld e 43 1) && decide (fld e 43 1 ≤ 40)),
     (24, decide (16 * scanPoints e ≤ e.dataLen.toNat))]
  data := someData

/-- PAM4 rates carry three eyes (03 R76, R105). A lane whose port has no rate yet counts as NRZ, so that EYE 0 or 2 there is
INVALID_FIELD, before STATE_CONFLICT (DESIGN CHOICE 75). -/
def pam4Lane (d : Dev) (l : LaneId) : Bool :=
  match lanePort l with
  | some p => (link d p).rate == 1 || (link d p).rate == 2
  | none => true

/-- A scan may run on the lane: UP or a sleep state; on O0-O3 the network port's link up (03 R104, R106). -/
def scanAllowed (d : Dev) (l : LaneId) (netUp : Nat → Bool) : Bool :=
  match lanePort l with
  | some p => decide (l.val % 8 < (link d p).width) && decide (4 ≤ (link d p).state) &&
      decide ((link d p).state ≤ 6)
  | none => netUp ((l.val - 32) / 2)

/-- The 16-byte record of point i (03 R105). -/
def scanRecord (e : Sqe) (i errors : Nat) : List Byte :=
  let ph := signed 8 (fld e 36 1) + ((i / scanVolts e * (fldBits e 38 0 4 + 1) : Nat) : Int)
  let v := signed 8 (fld e 40 1) + ((i % scanVolts e * (fldBits e 38 4 4 + 1) : Nat) : Int)
  pack [(1, unsigned 8 ph), (1, unsigned 8 v), (1, fld e 42 1), (5, 0), (8, errors)]

/-- The lane whose scan a command runs. -/
def scanLane (d : Dev) (t : Nat) : Option LaneId :=
  (List.finRange 36).find? fun l => (lane d l).scan == some t

/-- The records of the points finished, and whether the scan was cut short (03 R106). -/
def endScan (c : Outst) (l : LaneId) (errors : List Nat) (d : Dev) : Dev :=
  let n := min errors.length (scanPoints c.e)
  let recs := (List.range n).flatMap fun i => scanRecord c.e i ((errors[i]?).getD 0)
  let cut := decide (n < scanPoints c.e)
  let d := modLane l (fun k => { k with scan := none, scanStop := false }) (writeData c recs d)
  complete c stSuccess (n + b2n cut * 2 ^ 16) 0 0xFF d

/-- An eye scan finishes, or ends as interrupted once stopped (03 R106). -/
def eyeScanDone (t : Nat) (errors : List Nat) (d : Dev) : Dev :=
  match findOutst d t, scanLane d t with
  | some c, some l =>
    if (lane d l).scanStop || decide (scanPoints c.e ≤ errors.length) then endScan c l errors d else d
  | _, _ => d

def execEyeScanDone (t : Nat) (errors : List Nat) (s : State) : Host.Outcome State Fault Refusal :=
  .next (s.mapDev (eyeScanDone t errors))

end Sys2Proof.Machine
end

