-- ==== Sys2Proof/Machine/Cores.lean ====
section
/-!
DEFINITION. Machine/Cores.lean: the customer cores' interrupt distributor, timers and mailbox (19), and
the time readout (14 R369).
-/
namespace Sys2Proof.Machine

def core (d : Dev) (c : CoreId) : Core := d.cores.c[c]
def modCores (f : Cores → Cores) (d : Dev) : Dev := { d with cores := f d.cores }
def modCore (c : CoreId) (f : Core → Core) (d : Dev) : Dev :=
  modCores (fun k => { k with c := k.c.set c (f k.c[c]) }) d
def axisOf (d : Dev) (a : AxisId) : Axis := d.axes[a]
def modAxis (a : AxisId) (f : Axis → Axis) (d : Dev) : Dev :=
  { d with axes := d.axes.set a (f d.axes[a]) }

/-- A customer core executes: running and not halted by the debug port (19 R482, 20 R507). -/
def coreRuns (d : Dev) (c : CoreId) : Bool := (core d c).state == 1 && !(core d c).halted

/-- Set bit i of a number. -/
def setBit (x i : Nat) : Nat := if bitOf x i then x else x + 2 ^ i
/-- Clear bit i of a number. -/
def clearBit (x i : Nat) : Nat := if bitOf x i then x - 2 ^ i else x

/-! Interrupt distributor (19 R483-R488). -/

/-- POS_STATUS [8:3] of an axis (17 R456). -/
def axisFlags (x : Axis) : Nat :=
  b2n x.wrap * 8 + b2n x.index * 16 + b2n x.dirChg * 32 + b2n x.drift * 64 + b2n x.faultEdge * 128 +
    b2n x.latch * 256

/-- An axis by a number below 8. -/
def axisIdx (n : Nat) : AxisId := ⟨n % 8, Nat.mod_lt _ (by decide)⟩
/-- OWNER of an axis (17 R457). -/
def axisOwner (d : Dev) (a : AxisId) : Nat := le (axisOf d a).cfg 1 1 % 2

/-- Level sources (19 R483). -/
def isLevel (id : Nat) : Bool := id == 8 || id == 9 || (decide (32 ≤ id) && decide (id ≤ 39)) || id == 41

/-- Sources that exist (19 R483). -/
def isSource (id : Nat) : Bool :=
  (decide (1 ≤ id) && decide (id ≤ 4)) || id == 8 || id == 9 || (decide (24 ≤ id) && decide (id ≤ 42)) ||
  (decide (44 ≤ id) && decide (id ≤ 53))

/-- The line of a level source (19 R483, 17 R456). -/
def irqLine (d : Dev) (c : CoreId) (id : Nat) : Bool :=
  if id = 8 then !(core d c).inq.isEmpty
  else if id = 9 then (core d c).outq.isEmpty
  else if id = 41 then d.safe.por
  else if 32 ≤ id && id ≤ 39 then
    let x := axisOf d (axisIdx (id - 32))
    (List.range 6).any fun i => bitOf (axisFlags x) (i + 3) && bitOf x.irqEn (i + 3)
  else false

/-- The core on which a source is active. -/
def activeOn (d : Dev) (id : Nat) : Option CoreId :=
  (List.finRange 2).find? fun c => (core d c).active.contains id

/-- The core a shared source targets: the one on which it is active, else OWNER or TARGET (19 R488). -/
def irqTarget (d : Dev) (id : Nat) : Nat :=
  match activeOn d id with
  | some c => c.val
  | none => if id ≤ 39 then axisOwner d (axisIdx (id - 32)) else d.cores.target.getD (id - 32) 0

/-- A source pends on a core (19 R484). -/
def irqPending (d : Dev) (c : CoreId) (id : Nat) : Bool :=
  if id < 32 then
    if isLevel id then irqLine d c id && !(core d c).active.contains id else bitOf (core d c).pend id
  else irqTarget d id == c.val &&
    (if isLevel id then irqLine d c id && (activeOn d id).isNone else bitOf d.cores.pend (id - 32))

/-- PRIORITY of a source on a core (19 R486: shared IDs hold one value). -/
def irqPrio (d : Dev) (c : CoreId) (id : Nat) : Nat :=
  if id < 32 then (core d c).prio.getD id 0x80 else d.cores.prio.getD (id - 32) 0x80

/-- Group priority (19 R484). -/
def irqGroup (d : Dev) (c : CoreId) (id : Nat) : Nat := irqPrio d c id / 2 ^ (core d c).gsplit

/-- Running priority of a core (19 R484). -/
def irqRunning (d : Dev) (c : CoreId) : Nat :=
  ((core d c).active.map (irqGroup d c)).foldl min 0xFF

/-- A source is claimable by a core (19 R484). -/
def claimable (d : Dev) (c : CoreId) (id : Nat) : Bool :=
  irqPending d c id && bitOf (core d c).enable id && decide (irqPrio d c id < (core d c).pmr) &&
  decide (irqGroup d c id < irqRunning d c)

/-- The claimable source of the lowest PRIORITY, and the lowest ID on a tie; 0 for none (19 R485). -/
def irqNext (d : Dev) (c : CoreId) : Nat :=
  ((List.range 64).filter (claimable d c)).foldl
    (fun best id => if best = 0 || irqPrio d c id < irqPrio d c best then id else best) 0

/-- The distributor asserts MEIP of a core (19 R484). -/
def meip (d : Dev) (c : CoreId) : Bool := irqNext d c != 0

/-- A value returned to a core by a load. -/
def coreLoad (c : CoreId) (addr value : Nat) (d : Dev) : Dev := emit (.load (c.val + 1) addr value) d

/-- An edge of a shared source pends it (19 R484). -/
def irqEdge (id : Nat) (d : Dev) : Dev := modCores (fun k => { k with pend := setBit k.pend (id - 32) }) d

/-- An edge of a private source of a core. -/
def irqEdgeOn (c : CoreId) (id : Nat) (d : Dev) : Dev :=
  modCore c (fun k => { k with pend := setBit k.pend id }) d

/-- IRQ_CLAIM (19 R485). -/
def irqClaim (c : CoreId) (d : Dev) : Dev :=
  if !coreRuns d c then d
  else
    let id := irqNext d c
    let d := coreLoad c 0x40000000 id d
    if id = 0 then d
    else
      let d := modCore c (fun k => { k with active := k.active ++ [id] }) d
      if isLevel id then d
      else if id < 32 then modCore c (fun k => { k with pend := clearBit k.pend id }) d
      else modCores (fun k => { k with pend := clearBit k.pend (id - 32) }) d

def execIrqClaim (c : CoreId) (s : State) : Host.Outcome State Fault Refusal :=
  .next (s.mapDev (irqClaim c))

/-- IRQ_COMPLETE (19 R486). -/
def irqComplete (c : CoreId) (v : Word) (d : Dev) : Dev :=
  let n := v.toNat % 512
  if !coreRuns d c then d
  else if (core d c).active.contains n then
    modCore c (fun k => { k with active := k.active.filter (· != n) }) d
  else modCore c (fun k => { k with spurious := min (k.spurious + 1) 0xFFFF }) d

def execIrqComplete (c : CoreId) (v : Word) (s : State) : Host.Outcome State Fault Refusal :=
  .next (s.mapDev (irqComplete c v))

/-- IRQ_SPURIOUS: a read returns and clears (19 R486, 00 R8). -/
def irqSpuriousRead (c : CoreId) (d : Dev) : Dev :=
  if !coreRuns d c then d
  else modCore c (fun k => { k with spurious := 0 }) (coreLoad c 0x40000014 (core d c).spurious d)

def execIrqSpuriousRead (c : CoreId) (s : State) : Host.Outcome State Fault Refusal :=
  .next (s.mapDev (irqSpuriousRead c))

/-- The other customer core. -/
def otherCore (c : CoreId) : CoreId := ⟨1 - c.val, by omega⟩

/-- A store to SGI_NUM and SGI_OTHER (19 R483). -/
def sgiWrite (c : CoreId) (v : Word) (d : Dev) : Dev :=
  if !coreRuns d c then d
  else irqEdgeOn (if v.getLsbD 8 then otherCore c else c) (24 + v.toNat % 8) d

def execSgiWrite (c : CoreId) (v : Word) (s : State) : Host.Outcome State Fault Refusal :=
  .next (s.mapDev (sgiWrite c v))

/-- A store to the PRIORITY and TARGET word of an ID (19 R486, R488): TARGET is writable for 40-53. -/
def irqTargetWrite (c : CoreId) (id : Nat) (v : Word) (d : Dev) : Dev :=
  let p := v.toNat % 256
  if !coreRuns d c || id = 0 || 64 ≤ id then d
  else if id < 32 then modCore c (fun k => { k with prio := k.prio.setIfInBounds id p }) d
  else
    let d := modCores (fun k => { k with prio := k.prio.setIfInBounds (id - 32) p }) d
    if 40 ≤ id && id ≤ 53 then
      modCores (fun k => { k with target := k.target.setIfInBounds (id - 32) (b2n (v.getLsbD 9)) }) d
    else d

def execIrqTargetWrite (c : CoreId) (id : Nat) (v : Word) (s : State) :
    Host.Outcome State Fault Refusal :=
  .next (s.mapDev (irqTargetWrite c id v))

/-- An access that is not performed (01 R20): counted, and an access fault on the core; a load returns 0. -/
def accessFault (c : CoreId) (store : Bool) (addr : Nat) (d : Dev) : Dev :=
  let d := modCore c (fun k => { k with faults := min (k.faults + 1) 0xFFFF }) d
  emit (.accessFault c.val store addr) (if store then d else coreLoad c addr 0 d)

def execCustomerAccessFault (c : CoreId) (store : Bool) (addr : Nat) (s : State) :
    Host.Outcome State Fault Refusal :=
  .next (s.mapDev fun d => if coreRuns d c then accessFault c store addr d else d)

/-! Timers (19 R489). -/

/-- The deadline of a timer has come. -/
def tmrDue (d : Dev) (t : Tmr) : Bool :=
  t.en && decide ((ns32 d + 2 ^ 32 - t.deadline % 2 ^ 32) % 2 ^ 32 < 2 ^ 31)

/-- PERIOD as it acts (19 R489). -/
def tmrPeriod (t : Tmr) : Nat := max t.period 1000

/-- A timer expires (19 R489), by its deadline or by a time step. -/
def tmrExpire (now : Nat) (byStep : Bool) (t : Tmr) : Tmr :=
  { t with
    fired := true
    overrun := t.overrun || t.fired
    step := t.step || byStep
    count := min (t.count + 1) 0xFFFFFFFF
    en := t.periodic
    deadline := if t.periodic then ((if byStep then now else t.deadline) + tmrPeriod t) % 2 ^ 32 else t.deadline }

def expireOn (c : CoreId) (n : Fin 4) (byStep : Bool) (d : Dev) : Dev :=
  irqEdgeOn c (1 + n.val)
    (modCore c (fun k => { k with tmr := k.tmr.set n (tmrExpire (ns32 d) byStep k.tmr[n]) }) d)

def tmrExpiry (c : CoreId) (n : Fin 4) (d : Dev) : Dev :=
  if tmrDue d (core d c).tmr[n] then expireOn c n false d else d

def execTmrExpiry (c : CoreId) (n : Fin 4) (s : State) : Host.Outcome State Fault Refusal :=
  .next (s.mapDev (tmrExpiry c n))

/-- A read of COUNT returns and clears it. -/
def tmrCountRead (c : CoreId) (n : Fin 4) (d : Dev) : Dev :=
  if !coreRuns d c then d
  else
    modCore c (fun k => { k with tmr := k.tmr.set n { k.tmr[n] with count := 0 } })
      (coreLoad c (0x4005000C + 0x20 * n.val) (core d c).tmr[n].count d)

def execTmrCountRead (c : CoreId) (n : Fin 4) (s : State) : Host.Outcome State Fault Refusal :=
  .next (s.mapDev (tmrCountRead c n))

/-- The time unit has stepped: every enabled timer expires with STEP, and source 52 pends (19 R483, R489). -/
def timersStep (d : Dev) : Dev :=
  let d := (List.finRange 2).foldl (fun d c => (List.finRange 4).foldl (fun d n =>
    if (core d c).tmr[n].en then expireOn c n true d else d) d) d
  irqEdge 52 d

/-- A load of TIME_NS captures SEC, NS and NS32 of one instant (14 R369). -/
def timeSnapshotLoad (c : CoreId) (d : Dev) : Dev :=
  if !coreRuns d c then d
  else
    let sec := d.tu.ns / 1000000000
    let ns := d.tu.ns % 1000000000
    coreLoad c 0x40030000 ns (modCore c (fun k => { k with tsnap := (sec % 2 ^ 48, ns, ns32 d) }) d)

def execTimeSnapshotLoad (c : CoreId) (s : State) : Host.Outcome State Fault Refusal :=
  .next (s.mapDev (timeSnapshotLoad c))

/-! Firmware mailbox (19 R490-R492). -/

/-- Word 0 of a message: CODE, TAG, PARAM (19 R490). -/
def msgWord (code tag param : Nat) : Dword :=
  BitVec.ofNat 64 (code % 256 + tag % 256 * 2 ^ 8 + param * 2 ^ 16)

/-- A message toward a core: queued, or discarded and counted where IN is full (19 R491). -/
def mbxIn (c : CoreId) (m : Msg) (d : Dev) : Dev :=
  if (core d c).inq.length < 16 then modCore c (fun k => { k with inq := k.inq ++ [m] }) d
  else modCore c (fun k => { k with lost := min (k.lost + 1) 0xFFFFFFFF }) d

/-- A message that carries no TAG of its own (19 R491). -/
def plainMsg (code param : Nat) (w1 : Dword) : Msg :=
  { w0 := msgWord code (Config.msgTag code).toNat param, w1 }

/-- A store to MBX_OUT_W1 (19 R490). -/
def mbxOutPush (c : CoreId) (v : Dword) (d : Dev) : Dev :=
  if !coreRuns d c then d
  else if (core d c).outq.length < 16 then
    modCore c (fun k => { k with outq := k.outq ++ [(ns32 d, { w0 := k.outW0, w1 := v })] }) d
  else modCore c (fun k => { k with outOvf := true }) d

def execMbxOutPush (c : CoreId) (v : Dword) (s : State) : Host.Outcome State Fault Refusal :=
  .next (s.mapDev (mbxOutPush c v))

/-- IN_LOST as soon as an entry is free (19 R491). -/
def reportLost (c : CoreId) (d : Dev) : Dev :=
  let k := core d c
  if k.lost = 0 || 16 ≤ k.inq.length then d
  else modCore c (fun k => { k with lost := 0, inq := k.inq ++ [plainMsg 0x85 k.lost 0] }) d

/-- A load of MBX_IN_W1 (19 R490). -/
def mbxInPop (c : CoreId) (d : Dev) : Dev :=
  if !coreRuns d c then d
  else match (core d c).inq with
    | [] => coreLoad c 0x40040018 0 d
    | m :: rest =>
      reportLost c (modCore c (fun k => { k with inq := rest }) (coreLoad c 0x40040018 m.w1.toNat d))

def execMbxInPop (c : CoreId) (s : State) : Host.Outcome State Fault Refusal :=
  .next (s.mapDev (mbxInPop c))

/-- HOST_POST: an entry of page 0x0C, then the core's vector (19 R492). -/
def hostPost (c : CoreId) (ns tag : Nat) (data : Dword) (d : Dev) : Dev :=
  let d := modCores (fun k =>
    let e : PostEnt := { seq := k.seq + 1, core := c.val, tag, ns32 := ns, data }
    { k with seq := k.seq + 1, posts := (k.posts ++ [e]).drop (k.posts.length + 1 - 64) }) d
  notify (core d c).vector d

/-- The F cores take an OUT message (19 R490, R491), except while the mailbox is paused. -/
def mbxOutTake (c : CoreId) (d : Dev) : Dev :=
  if d.cores.paused then d
  else match (core d c).outq with
    | [] => d
    | (ns, m) :: rest =>
      let d := modCore c (fun k => { k with outq := rest }) d
      let code := bitsOf m.w0.toNat 0 8
      let tag := bitsOf m.w0.toNat 8 8
      match code with
      | 0x01 => hostPost c ns tag m.w1 d
      | 0x02 => modCore c (fun k => { k with notify := bitsOf m.w0.toNat 16 4 }) d
      | 0x03 => mbxIn c { w0 := msgWord 0x83 tag 0, w1 := 0 } d
      | _ => mbxIn c (plainMsg 0x8F code 0) d

def execMbxOutTake (c : CoreId) (s : State) : Host.Outcome State Fault Refusal :=
  .next (s.mapDev (mbxOutTake c))

/-- A frame of a port has closed: its sources pend and the cores that asked get FRAME (19 R483, R491). -/
def frameNotify (p : PortId) (num status : Nat) (d : Dev) : Dev :=
  let d := irqEdge (48 + p.val) d
  (List.finRange 2).foldl (fun d c =>
    if bitOf (core d c).notify p.val then
      mbxIn c (plainMsg 0x82 p.val (BitVec.ofNat 64 (num + status * 2 ^ 32))) d
    else d) d

end Sys2Proof.Machine
end

