-- ==== Sys2Proof/Machine/SafeState.lean ====
section
/-!
DEFINITION. Machine/SafeState.lean: the safe state, its causes and its history, and what each cause of
18 R467 does.
-/
namespace Sys2Proof.Machine

def modSafe (f : Safe → Safe) (d : Dev) : Dev := { d with safe := f d.safe }

/-- Cause codes (18 R467). -/
abbrev csSafeIn : Nat := 0x01
abbrev csForce : Nat := 0x02
abbrev csProof : Nat := 0x03
abbrev csPowerUp : Nat := 0x04
abbrev csHeartbeat : Nat := 0x10
abbrev csMismatch : Nat := 0x11
abbrev csLockstep : Nat := 0x20
abbrev csWatchdog : Nat := 0x21
abbrev csMemory : Nat := 0x22
abbrev csSelftest : Nat := 0x23
abbrev csClockCompute : Nat := 0x24
abbrev csClockSkerry : Nat := 0x25
abbrev csSupply : Nat := 0x26
abbrev csThermal : Nat := 0x27
abbrev csSkerryInternal : Nat := 0x28
abbrev csReadback : Nat := 0x29
abbrev csDebugHalt : Nat := 0x2A
abbrev csFeedback : Nat := 0x40
abbrev csSpeed : Nat := 0x41
abbrev csPosition : Nat := 0x42
abbrev csDrift : Nat := 0x43

/-- A cause with no axis. -/
abbrev noAxis : Nat := 0xFF

/-- Causes that stay present until good frames have arrived for 1 ms (18 R468). -/
def clearsWithFrames (code : Nat) : Bool :=
  code == csForce || code == csProof || code == csPowerUp || code == csHeartbeat || code == csMismatch ||
  code == csWatchdog || code == csClockCompute || code == csClockSkerry || code == csSupply ||
  code == csThermal || code == csDebugHalt

/-- The causes that a command brings: each arrival is recorded, present or not (18 R468). -/
def commanded (code : Nat) : Bool := code == csForce || code == csProof

/-- Causes that are present only while their condition is seen, and drift, which is a moment (18 R468). -/
def momentary (code : Nat) : Bool := code == csDrift

/-- CFG_CRC as the Skerry holds it (18 R475), and whether that in the frames differs (18 R467 cause 0x11). -/
def skerryCrc (d : Dev) : Word := crc32c (d.safe.cfg.take 220)
def crcDiffers (d : Dev) : Bool := d.safe.frameCrc.any fun c => c != skerryCrc d

/-- A condition that persists now (18 R468). -/
def conditionHolds (d : Dev) (code : Nat) : Bool :=
  if code = csDebugHalt then decide (16 ≤ d.sec.halted) || d.sec.level == 2
  else if code = csThermal then decide (146 * 16 ≤ d.thm.tj)
  else if code = csHeartbeat then d.safe.good.isNone
  else if code = csMismatch then crcDiffers d
  else if code = csSafeIn then !d.safe.safeIn
  else false

/-- An entry of the history, newest first, at most 16 (18 R475). -/
def safeHistory (code axis : Nat) (entered : Bool) (d : Dev) : Dev :=
  let e : SafeEnt := { ns32 := ns32 d, code, axis, entered }
  modSafe (fun s => { s with history := (e :: s.history).take 16 }) d

/-! AXIS_CONFIG fields (17 R457). -/

def axMode (c : List Byte) : Nat := le c 0 1
def axFlag (c : List Byte) (i : Nat) : Bool := bitOf (le c 2 1) i
def axInvert (c : List Byte) : Bool := axFlag c 0
def axIndexEn (c : List Byte) : Bool := axFlag c 1
def axGray (c : List Byte) : Bool := axFlag c 2
def axPwmEn (c : List Byte) : Bool := axFlag c 4
def axBrakeEn (c : List Byte) : Bool := axFlag c 5
def axLatchPorts (c : List Byte) : Nat := le c 3 1
def axCpr (c : List Byte) : Nat := le c 4 4
def axDriftTol (c : List Byte) : Nat := le c 8 2
def axHyst (c : List Byte) : Nat := le c 10 2
def axSpdWin (c : List Byte) : Nat := le c 12 1
def axAmpCount (c : List Byte) : Nat := le c 13 1
def axAmpLo (c : List Byte) : Nat := le c 14 2
def axAmpHi (c : List Byte) : Nat := le c 16 2
def axSinOfs (c : List Byte) : Int := signed 16 (le c 18 2)
def axCosOfs (c : List Byte) : Int := signed 16 (le c 20 2)
def axEncBits (c : List Byte) : Nat := le c 22 1
def axEncClk (c : List Byte) : Nat := le c 23 1
def axEncDelay (c : List Byte) : Int := signed 32 (le c 24 4)
def axEmuOut (c : List Byte) : Nat := le c 28 1
def axEmuLines (c : List Byte) : Nat := le c 32 4
def axPeriodNs (c : List Byte) : Nat := le c 36 4
def axTimeoutUs (c : List Byte) : Nat := le c 40 2
def axTag (c : List Byte) : Nat := le c 44 4

/-- PERIOD in 10 ns ticks (17 R452). -/
def pwmTicks (c : List Byte) : Nat := axPeriodNs c / 10

/-- A channel is DRIVING (17 R453). -/
def driving (d : Dev) (a : AxisId) : Bool :=
  axPwmEn (axisOf d a).cfg && (axisOf d a).arm && !d.safe.held

/-- A brake is energised (17 R454). -/
def brakeOn (d : Dev) (a : AxisId) : Bool :=
  axBrakeEn (axisOf d a).cfg && (axisOf d a).brk && !d.safe.held

/-- An axis's outputs follow a change: a channel that stops DRIVING goes low, and a brake that changes is put out
(17 R452-R455). -/
def settleAxis (was : Dev) (a : AxisId) (d : Dev) : Dev :=
  let d := if driving was a && !driving d a then emit (.pwm a.val 0 (pwmTicks (axisOf d a).cfg)) d else d
  if brakeOn was a == brakeOn d a then d else emit (.brake a.val (brakeOn d a)) d

def settleAll (was d : Dev) : Dev := (List.finRange 8).foldl (fun d a => settleAxis was a d) d

/-- Drive off: ARM and BRAKE_REL clear on every channel (17 R455, 18 R465). -/
def driveOff (d : Dev) : Dev :=
  { d with axes := d.axes.map fun x => { x with arm := false, brk := false, applied := 0 } }

/-- Entry into the safe state (18 R465): latched, outputs off, the event and source 40. -/
def safeEnter (code axis : Nat) (d : Dev) : Dev :=
  if d.safe.held then d
  else
    let d := settleAll d (driveOff (modSafe (fun s => { s with held := true, entry := d.tu.ns }) d))
    let d := emit (.pin 4 0) (emit (.pin 3 0) d)
    irqEdge 40 (raise evMotion 0x10 0 (code + axis * 2 ^ 8 + ns32 d * 2 ^ 32) d)

/-- A cause arrives (18 R467, R468): recorded and counted, and the safe state is forced. A condition that
is already present is not recorded again. -/
def safeCause (code axis : Nat) (d : Dev) : Dev :=
  let same := fun (c : Cause) => c.code == code && c.axis == axis
  if d.safe.present.any same && !commanded code then
    safeEnter code axis (modSafe (fun s => { s with
      present := s.present.map fun c => if same c then { c with ns := d.tu.ns } else c }) d)
  else
    let d := modSafe (fun s => { s with
      present := if momentary code then s.present
        else s.present.filter (fun c => !same c) ++ [{ code, axis, ns := d.tu.ns }]
      last := code, lastAxis := axis, count := min (s.count + 1) 0xFFFFFFFF }) d
    safeEnter code axis (safeHistory code axis true d)

/-- A cause is no longer present: a cleared entry enters the history (18 R475). -/
def safeClear (code axis : Nat) (d : Dev) : Dev :=
  if d.safe.present.any fun c => c.code == code && c.axis == axis then
    safeHistory code axis false (modSafe (fun s => { s with
      present := s.present.filter fun c => !(c.code == code && c.axis == axis) }) d)
  else d

/-- Causes whose condition has gone and since when good frames have arrived for 1 ms (18 R468). -/
def clearByFrames (d : Dev) : Dev :=
  match d.safe.good with
  | none => d
  | some g =>
    let gone := d.safe.present.filter fun c =>
      clearsWithFrames c.code && !conditionHolds d c.code && decide (max g c.ns + 1000000 ≤ d.tu.ns)
    gone.foldl (fun d c => safeClear c.code c.axis d) d

/-- Fields of the configuration in force (18 R471). -/
def monAxes (d : Dev) : Nat := le d.safe.cfg 1 1
def monitored (d : Dev) (a : AxisId) : Bool := bitOf (monAxes d) a.val
def safeFilterUs (d : Dev) : Nat := le d.safe.cfg 2 2
def configId (d : Dev) : Nat := le d.safe.cfg 4 4
def resetHoldNs (d : Dev) : Nat := le d.safe.cfg 8 1 * 1000000
def posMin (d : Dev) (a : AxisId) : Int := signed 64 (le d.safe.cfg (16 + 24 * a.val) 8)
def posMax (d : Dev) (a : AxisId) : Int := signed 64 (le d.safe.cfg (24 + 24 * a.val) 8)
def speedMax (d : Dev) (a : AxisId) : Nat := le d.safe.cfg (32 + 24 * a.val) 4
def rehomeSpeedMax (d : Dev) (a : AxisId) : Nat := le d.safe.cfg (36 + 24 * a.val) 4

/-- PERMIT (18 R466): no compute-die cause of the hardware AND is present. -/
def permit (d : Dev) : Bool :=
  !(d.safe.present.any fun c =>
    c.code == csForce || c.code == csProof || c.code == csLockstep || c.code == csWatchdog ||
    c.code == csMemory || c.code == csSelftest || c.code == csClockCompute || c.code == csSupply ||
    c.code == csThermal) && !conditionHolds d csDebugHalt

/-- Both dies have exchanged good frames for at least 1 ms (18 R470). -/
def framesGood (d : Dev) : Bool :=
  match d.safe.good, d.safe.goodUp with
  | some a, some b => decide (a + 1000000 ≤ d.tu.ns) && decide (b + 1000000 ≤ d.tu.ns)
  | _, _ => false

/-- Neither link path is up. -/
def noPath (d : Dev) : Bool := !d.safe.pathA && !d.safe.pathB

/-! The causes of R467 that are rows of their own. -/

/-- SAFE_IN has been low throughout its filter (18 R467). -/
def safeInDemand (d : Dev) : Dev := safeCause csSafeIn noAxis (modSafe (fun s => { s with safeIn := false }) d)

def execSafeInDemand (s : State) : Host.Outcome State Fault Refusal := .next (s.mapDev safeInDemand)

/-- SAFE_IN returns high: the cause clears, with an entry in the history (18 R470, R475). -/
def safeInRelease (d : Dev) : Dev := safeClear csSafeIn noAxis (modSafe (fun s => { s with safeIn := true }) d)

def execSafeInRelease (s : State) : Host.Outcome State Fault Refusal := .next (s.mapDev safeInRelease)

/-- No good frame for 99 consecutive slots of 1 us, whether their frames failed or never came (18 R467). -/
def heartbeatLoss (d : Dev) : Dev :=
  if d.safe.missed < 99 && decide (d.tu.ns < d.safe.goodNs + 99000) then d
  else safeCause csHeartbeat noAxis (modSafe (fun s => { s with good := none }) d)

def execHeartbeatLoss (s : State) : Host.Outcome State Fault Refusal := .next (s.mapDev heartbeatLoss)

/-- The check of every 1 ms finds the frames' configuration CRC different (18 R467). -/
def configMismatch (d : Dev) : Dev := if crcDiffers d then safeCause csMismatch noAxis d else d

def execConfigMismatch (s : State) : Host.Outcome State Fault Refusal := .next (s.mapDev configMismatch)

def execLockstep (s : State) : Host.Outcome State Fault Refusal :=
  .next (s.mapDev (safeCause csLockstep noAxis))

def execSiWatchdog (s : State) : Host.Outcome State Fault Refusal :=
  .next (s.mapDev (safeCause csWatchdog noAxis))

def execSiMemory (s : State) : Host.Outcome State Fault Refusal :=
  .next (s.mapDev (safeCause csMemory noAxis))

def execSiSelftest (s : State) : Host.Outcome State Fault Refusal :=
  .next (s.mapDev (safeCause csSelftest noAxis))

def execClockCompute (s : State) : Host.Outcome State Fault Refusal :=
  .next (s.mapDev (safeCause csClockCompute noAxis))

def execClockSkerry (s : State) : Host.Outcome State Fault Refusal :=
  .next (s.mapDev (safeCause csClockSkerry noAxis))

def execSupply (s : State) : Host.Outcome State Fault Refusal :=
  .next (s.mapDev (safeCause csSupply noAxis))

def execSkerryInternal (s : State) : Host.Outcome State Fault Refusal :=
  .next (s.mapDev (safeCause csSkerryInternal noAxis))

/-- A PWM or BRAKE pin of an axis, or STO_OUT, differs from its commanded level (18 R467). -/
def execOutputReadback (a : Option AxisId) (s : State) : Host.Outcome State Fault Refusal :=
  .next (s.mapDev (safeCause csReadback (match a with | some a => a.val | none => noAxis)))

end Sys2Proof.Machine
end

