-- ==== Sys2Proof/Machine/Motion.lean ====
section
/-!
DEFINITION. Machine/Motion.lean: the Skerry's axes: feedback, positions, index and drift, speed, faults,
exposure latches, PWM and brakes, the barrier link, and AXIS_CONFIG (17; limits of 18 R469).
-/
namespace Sys2Proof.Machine

/-- INCR, SINCOS and HALL count; BISS_C and SSI read (17 R439). -/
def axSerial (c : List Byte) : Bool := axMode c == 3 || axMode c == 4
def axCounts (c : List Byte) : Bool := axMode c == 1 || axMode c == 2 || axMode c == 5

def axParity (c : List Byte) : Bool := axFlag c 3

def axHandle (a : AxisId) : Nat := mkHandle 0x11 0 a.val

/-- Motion counters (17 R460). -/
def bumpMotion (i : Nat) (d : Dev) (n : Nat := 1) : Dev :=
  modSafe (fun s => { s with cnt := s.cnt.setIfInBounds i (min (s.cnt.getD i 0 + n) (2 ^ 64 - 1)) }) d

/-! Positions (17 R441, R444, R446, R451). -/

/-- 48-bit two's complement (17 R441). -/
def wrap48 (x : Int) : Int := signed 48 (unsigned 48 x)

/-- The speed at a sample of position p, from the samples before it (17 R446). -/
def speedAt (x : Axis) (p : Int) : Int :=
  let w := 2 ^ axSpdWin x.cfg
  if x.fresh < w then 0
  else match x.hist[w - 1]? with
    | none => 0
    | some s =>
      let v := Int.tdiv (wrap48 (p - s.p) * 2000000) w
      max (-(2 ^ 31 - 1)) (min (2 ^ 31 - 1) v)

/-- DIR with its hysteresis (17 R444): the new direction, the new extreme, and whether DIR changed. -/
def dirStep (x : Axis) (p : Int) : Bool × Int × Bool :=
  let ahead := wrap48 (p - x.ext)
  let along := if x.dir then -ahead else ahead
  if 0 ≤ along then (x.dir, p, false)
  else if (axHyst x.cfg : Int) + 1 ≤ -along then (!x.dir, p, true)
  else (x.dir, x.ext, false)

/-- The emulation output steps toward its target, at most five edges in 500 ns (17 R451). -/
def emuStep (x : Axis) (p : Int) : Int :=
  if axEmuOut x.cfg = 0xFF || !x.valid || axCpr x.cfg = 0 then x.emu
  else
    let target := Int.fdiv (p * (4 * axEmuLines x.cfg)) (axCpr x.cfg)
    if x.emu ≤ target then min target (x.emu + 5) else max target (x.emu - 5)

/-- A preset that waits applies at the first sample from its store on: the counter takes it, and the same difference applies
to the history and INDEX_POS, and so to the latches that wait, which read the history (17 R441). -/
def applyPreset (t : Nat) (p : Int) (x : Axis) : Int × Axis :=
  match x.preset with
  | none => (p, x)
  | some (v, at') =>
    if t < at' then (p, x)
    else
      let q := signed 48 v
      let sh (y : Int) : Int := wrap48 (y + (q - p))
      (q, { x with
        preset := none, rehome := false, idxPos := sh x.idxPos, ext := sh x.ext
        presets := t :: x.presets
        hist := x.hist.map fun s => { s with p := sh s.p } })

/-- One grid sample at instant t with the counter at p (17 R435, R441, R444, R446, R451). -/
def pushSample (t : Nat) (p : Int) (x : Axis) : Axis :=
  let (q, x) := applyPreset t p x
  let v := speedAt x q
  let (dir, ext, chg) := dirStep x q
  let s : Samp := { t, p := q, speed := v, valid := x.valid, rehome := x.rehome }
  { x with
    pos := q, dir, ext, dirChg := x.dirChg || chg, emu := emuStep x q
    hist := (s :: x.hist).take 1024, fresh := x.fresh + 1 }

/-- The limit checks of a monitored axis at its newest sample (18 R469); a cause that no longer holds
is cleared. -/
def limitCheck (a : AxisId) (d : Dev) : Dev :=
  if !monitored d a then d
  else match (axisOf d a).hist.head? with
    | none => d
    | some s =>
      let sp := s.speed.natAbs
      let fast := decide (speedMax d a < sp) || (s.rehome && decide (rehomeSpeedMax d a < sp))
      let out := !s.rehome && (decide (s.p < posMin d a) || decide (posMax d a < s.p))
      let d := if fast then safeCause csSpeed a.val d else safeClear csSpeed a.val d
      if out then safeCause csPosition a.val d else safeClear csPosition a.val d

/-- The direction changes of a sample are counted (17 R460). -/
def countDir (a : AxisId) (was : Bool) (d : Dev) : Dev :=
  if (axisOf d a).dir == was then d else bumpMotion (6 * a.val + 4) d

abbrev stNoFeedback : Nat := 0x0A00

/-- The AXIS_CONFIG commands that wait and that f takes complete: VALID succeeds, else AXIS_NO_FEEDBACK (17 R458, R459). -/
def finishIf (f : Nat → Bool) (a : AxisId) (d : Dev) : Dev :=
  let x := axisOf d a
  let d := modAxis a (fun x => { x with waits := x.waits.filter fun t => !f t }) d
  (x.waits.filter f).foldl (fun d t =>
    if x.valid then completeTag (some t) stSuccess 0 0 d
    else completeTag (some t) stNoFeedback x.cause 0 d) d

def finishWaits (a : AxisId) (d : Dev) : Dev := finishIf (fun _ => true) a d

/-- Saturating 16-bit ERR_CNT and the counter of input errors. -/
def inputErrors (a : AxisId) (n : Nat) (d : Dev) : Dev :=
  if n = 0 then d
  else bumpMotion (6 * a.val) (modAxis a (fun x => { x with errCnt := min (x.errCnt + n) 0xFFFF }) d) n

/-- The first measured position of a faultless axis makes it VALID (17 R456, R458). -/
def becomeValid (a : AxisId) (d : Dev) : Dev :=
  let x := axisOf d a
  if x.valid || x.fault then d
  else finishWaits a (modAxis a (fun x => { x with valid := true }) d)

/-! SINCOS (17 R440, R445). -/

/-- A saturated signed 16-bit value. -/
def sat16 (x : Int) : Int := max (-32768) (min 32767 x)

/-- The top n bits of the angle of (c, s) as a fraction of a turn: squaring a complex number doubles
its angle, so each squaring brings the next bit. -/
def angleBits : Nat → Int → Int → Nat → Nat
  | 0, _, _, acc => acc
  | n + 1, c, s, acc =>
    angleBits n (c * c - s * s) (2 * c * s) (2 * acc + b2n (decide (s < 0) || (s == 0 && decide (c < 0))))

/-- The fine position of a sample, 0-4095 (17 R440); at (0, 0) there is no angle and the value is free. -/
def sincosPhase (free : Nat) (s c : Int) : Nat :=
  if s = 0 && c = 0 then Config.phaseAtZero free % 4096 else angleBits 12 c s 0

/-- A2 of a sample (17 R445). -/
def ampSquared (s c : Int) : Nat := min 65535 ((s * s + c * c).toNat / 2 ^ 15)

/-- What a grid sample sees in SINCOS mode: the counts moved, none after a step above a quarter period. -/
def sincosStep (t free : Nat) (i : AxisIn) (x : Axis) : Int × Axis :=
  let s := sat16 (i.sinC - axSinOfs x.cfg)
  let c := sat16 (i.cosC - axCosOfs x.cfg)
  let a2 := ampSquared s c
  let low := decide (a2 < axAmpLo x.cfg) || decide (axAmpHi x.cfg < a2)
  let ph := sincosPhase free s c
  let mv : Int := match x.phase with
    | none => 0
    | some q => signed 12 ((ph + 4096 - q) % 4096)
  let bad := decide (1024 < mv.natAbs)
  (if bad then 0 else mv,
    { x with
      a2, ampBad := if low then x.ampBad + 1 else 0, phase := some ph, stepBad := bad
      badNs := if low || bad then t else x.badNs })

/-- What a grid sample sees in INCR and HALL modes. -/
def edgeStep (t : Nat) (i : AxisIn) (x : Axis) : Int × Axis :=
  if axMode x.cfg = 5 then
    let bad := (i.a && i.b && i.z) || (!i.a && !i.b && !i.z)
    (i.edges, { x with hallBad := if bad then x.hallBad + 1 else 0, badNs := if bad then t else x.badNs })
  else
    (i.edges, { x with
      illegal := (List.replicate i.illegal t ++ x.illegal).filter fun u => decide (t < u + 1000000)
      badNs := if i.illegal = 0 then x.badNs else t })

/-- Errors a sample counts: illegal transitions, or an invalid hall code. -/
def sampleErrors (i : AxisIn) (x : Axis) : Nat :=
  if axMode x.cfg = 1 then i.illegal else if axMode x.cfg = 5 then b2n (x.hallBad != 0) else 0

/-- Move the counter of an axis, or hold it in a fault (17 R441, R447): WRAP on a wrap. -/
def moveBy (mv : Int) (x : Axis) : Axis :=
  if x.fault then x
  else
    let n := x.pos + (if axInvert x.cfg then -mv else mv)
    { x with pos := wrap48 n, wrap := x.wrap || decide (wrap48 n ≠ n) }

/-- A, B and Z of an emulation output at a count (17 R451). DEDUCED (log 116): Z goes with A and B high, as the index
condition of R442 has it. DESIGN CHOICE (log 116): A leads B while the count rises. -/
def emuLevels (lines : Nat) (c : Int) : Bool × Bool × Bool :=
  let ph := c % 4
  (ph == 0 || ph == 3, ph == 0 || ph == 1, c % (4 * lines : Nat) == 0)

/-- The counts an emulation output steps through, one edge at a time. -/
def emuPath (was now : Int) : List Int :=
  (List.range (now - was).natAbs).map fun (k : Nat) => if was ≤ now then was + (k + 1) else was - (k + 1)

/-- The steps of an axis's emulation output are put out (17 R451). -/
def emuOut (a : AxisId) (was : Int) (d : Dev) : Dev :=
  let x := axisOf d a
  (emuPath was x.emu).foldl (fun d c =>
    let l := emuLevels (axEmuLines x.cfg) c
    emit (.emu (axEmuOut x.cfg) l.1 l.2.1 l.2.2) d) d

/-- A sample of an axis is written and checked. -/
def takeSample (a : AxisId) (t : Nat) (d : Dev) : Dev :=
  let x := axisOf d a
  limitCheck a (emuOut a x.emu (countDir a x.dir (modAxis a (fun x => pushSample t x.pos x) d)))

/-- AXIS_GRID_SAMPLE (17 R435): at a multiple of 500 ns not sampled yet, on an enabled axis that counts;
the samples of a serial axis come with its reads (17 R437). -/
def axisGridSample (a : AxisId) (i : AxisIn) (d : Dev) : Dev :=
  let x := axisOf d a
  let t := d.tu.ns / 500 * 500
  if !x.on || !axCounts x.cfg || (x.hist.head?.any fun s => decide (t ≤ s.t)) then d
  else
    let (mv, x) := if axMode x.cfg = 2 then sincosStep t d.free i x else edgeStep t i x
    let errs := sampleErrors i x
    let d := modAxis a (fun _ => moveBy mv x) { d with free := d.free + 1 }
    takeSample a t (becomeValid a (inputErrors a errs d))

def execAxisGridSample (a : AxisId) (x : AxisIn) (s : State) : Host.Outcome State Fault Refusal :=
  .next (s.mapDev (axisGridSample a x))

/-! Serial encoders (17 R439, R441). -/

/-- Gray to binary, n bits. -/
def unGray : Nat → Nat → Nat
  | 0, g => g
  | n + 1, g => unGray n (g ^^^ (g / 2 ^ (2 ^ n)))

/-- The position of a code (17 R439). -/
def encCode (c : List Byte) (code : Nat) : Nat :=
  let v := code % 2 ^ axEncBits c
  if axMode c = 4 && axGray c then unGray 5 v % 2 ^ axEncBits c else v

/-- The grid instants after one stamp up to another. -/
def gridBetween (s0 s1 : Nat) : List Nat :=
  (List.range (s1 / 500 - s0 / 500)).map fun k => (s0 / 500 + 1 + k) * 500

/-- The linear interpolation of two reads (17 R439); no rounding is stated, so it is free. -/
def interpAt (s0 s1 : Nat) (p0 p1 : Int) (g : Nat) : Int :=
  if s1 ≤ s0 then p1
  else
    let n := (p1 - p0) * (g - s0 : Int)
    let q := Int.fdiv n (s1 - s0 : Int)
    p0 + q + (if Int.fmod n (s1 - s0 : Int) != 0 && Config.interpUp g then 1 else 0)

/-- A read that passed its check: the first gives the position; later ones add the signed difference
modulo 2^ENC_BITS and give the grid samples between them. A fault holds the counter (17 R447). -/
def goodRead (a : AxisId) (code stamp : Nat) (d : Dev) : Dev :=
  let x := axisOf d a
  let d := modAxis a (fun x => { x with serBad := 0, noStart := 0, read := some (code, stamp) }) d
  match x.read with
  | none => becomeValid a (modAxis a (fun x => { x with pos := (code : Int), ext := (code : Int) }) d)
  | some (c0, s0) =>
    let bits := axEncBits x.cfg
    let raw := signed bits ((code + 2 ^ bits - c0) % 2 ^ bits)
    let mv := if axInvert x.cfg then -raw else raw
    let d := becomeValid a d
    if x.fault then
      (gridBetween s0 stamp).foldl (fun d g => takeSample a g d) (modAxis a (fun x => { x with gap := x.gap + mv }) d)
    else
      let at' (g : Nat) : Int := interpAt s0 stamp 0 mv g
      -- a preset that applies at a sample shifts what follows, so positions are taken from the start
      let d := ((gridBetween s0 stamp).foldl (fun (acc : Dev × Int) g =>
        let d := modAxis a (fun x => { moveBy 0 x with pos := wrap48 (x.pos + at' g - acc.2) }) acc.1
        (takeSample a g d, at' g)) (d, (0 : Int)))
      modAxis a (fun x =>
        let n := x.pos + (mv - d.2)
        { x with pos := wrap48 n, wrap := x.wrap || decide (wrap48 n ≠ n) }) d.1

/-- CRC-6 with polynomial 0x43 over the n low bits of v, from the top one, from 0 (17 R439; PRESUMED, log 117: the start value
of BiSS-C). -/
def crc6 : Nat → Nat → Nat → Nat
  | 0, _, c => c
  | n + 1, v, c =>
    let top := c / 32 != b2n (v.testBit n)
    crc6 n v ((if top then (2 * c) ^^^ 0x43 else 2 * c) % 64)

/-- The check bits of a read hold (17 R439): BiSS-C the inverted CRC-6 over the code, nE and nW, and no error (nE low reports
one, PRESUMED, log 117); SSI even parity where it is configured. -/
def readOk (c : List Byte) (r : EncRead) : Bool :=
  let v := r.code % 2 ^ axEncBits c
  if axMode c = 3 then r.nE && 63 - crc6 (axEncBits c + 2) (v * 4 + b2n r.nE * 2 + b2n r.nW) 0 == r.chk % 64
  else !axParity c || (popCount v + r.chk) % 2 == 0

/-- The shortest time from one read's first clock to the next's: (ENC_BITS + 14) clocks, and 20 us of idle line for SSI
(17 R439). -/
def readGapNs (c : List Byte) : Nat :=
  (axEncBits c + 14) * 10000 / axEncClk c + (if axMode c = 4 then 20000 else 0)

/-- The stamp of a read: its first clock edge and ENC_DELAY_NS (17 R439). -/
def readStamp (c : List Byte) (r : EncRead) : Nat := ((r.stampNs : Int) + axEncDelay c).toNat

/-- ENCODER_READ_DONE (17 R439). -/
def encoderReadDone (a : AxisId) (r : EncRead) (d : Dev) : Dev :=
  let x := axisOf d a
  if !x.on || !axSerial x.cfg || (x.read.any fun p => decide (readStamp x.cfg r < p.2 + readGapNs x.cfg)) then d
  else if !r.started then
    inputErrors a 1 (modAxis a (fun x => { x with noStart := x.noStart + 1, badNs := d.tu.ns }) d)
  else if !readOk x.cfg r then
    inputErrors a 1 (modAxis a (fun x => { x with serBad := x.serBad + 1, noStart := 0, badNs := d.tu.ns }) d)
  else goodRead a (encCode x.cfg r.code) (readStamp x.cfg r) d

def execEncoderReadDone (a : AxisId) (r : EncRead) (s : State) : Host.Outcome State Fault Refusal :=
  .next (s.mapDev (encoderReadDone a r))

/-! Index and drift (17 R442, R443). -/

/-- The remainder of a difference after the best whole revolution (17 R443). -/
def driftOf (free cpr : Nat) (diff : Int) : Int :=
  let e0 := diff
  let e1 := diff - cpr
  let e2 := diff + cpr
  let least := min e0.natAbs (min e1.natAbs e2.natAbs)
  let best := [e0, e1, e2].filter fun e => e.natAbs == least
  match best with
  | [e] => e
  | e :: e' :: _ => if Config.driftTie free then e else e'
  | [] => e0

/-- DRIFT_E, 32 bits signed (17 R456). -/
def driftReg (e : Int) : Nat :=
  if -(2 ^ 31) ≤ e && e < 2 ^ 31 then unsigned 32 e else (Config.driftOver e).toNat

/-- AXIS_INDEX: INDEX_POS and its instant, then the drift check (17 R442, R443; 18 R467 cause 0x43). The counter moves only
with its samples here, so the index copies that of the latest one (DESIGN CHOICE, log 118). -/
def axisIndex (a : AxisId) (t : Nat) (d : Dev) : Dev :=
  let x := axisOf d a
  if !x.on || !axIndexEn x.cfg || !(axMode x.cfg == 1 || axMode x.cfg == 2) then d
  else
    let d := bumpMotion (6 * a.val + 3) (modAxis a (fun x => { x with
      idxPos := x.pos, idxNs := t % 2 ^ 32, index := true, rehome := false, idxSeen := true }) d)
    if !x.idxSeen || axCpr x.cfg = 0 then d
    else
      let e := driftOf d.free (axCpr x.cfg) (wrap48 (x.pos - x.idxPos))
      let d := modAxis a (fun x => { x with driftE := driftReg e }) { d with free := d.free + 1 }
      if axDriftTol x.cfg < e.natAbs then
        let d := bumpMotion (6 * a.val + 1) (modAxis a (fun x => { x with
          drift := true, driftCnt := min (x.driftCnt + 1) 0xFFFF }) d)
        let d := raise evMotion 2 (axHandle a) (driftReg e) d
        if monitored d a then safeCause csDrift a.val d else d
      else d

def execAxisIndex (a : AxisId) (t : Nat) (s : State) : Host.Outcome State Fault Refusal :=
  .next (s.mapDev (axisIndex a t))

/-! Faults (17 R439, R447). -/

/-- The condition of a cause holds on an axis of this mode, as far as the samples show it (17 R439). -/
def faultShown (x : Axis) (cause : Nat) : Bool :=
  match axMode x.cfg, cause with
  | 1, 1 => true
  | 1, 2 => decide (16 ≤ x.illegal.length)
  | 2, 3 => x.ampBad != 0 && decide (axAmpCount x.cfg ≤ x.ampBad)
  | 2, 4 => x.stepBad
  | 3, 5 => decide (3 ≤ x.serBad)
  | 3, 6 => decide (1 ≤ x.noStart)
  | 4, 5 => decide (3 ≤ x.serBad)
  | 4, 6 => decide (3 ≤ x.noStart)
  | 5, 7 => decide (2 ≤ x.hallBad)
  | _, _ => false

/-- DETAIL of AXIS_FAULT (17 R461). -/
def faultDetail (x : Axis) (present : Bool) : Nat :=
  b2n present + x.cause % 16 * 16 + unsigned 48 x.pos * 2 ^ 16

/-- AXIS_FAULT (17 R447; 18 R467 cause 0x40). -/
def axisFault (a : AxisId) (cause : Nat) (d : Dev) : Dev :=
  let x := axisOf d a
  if !x.on || x.fault || !faultShown x cause then d
  else
    let d := modAxis a (fun x => { x with
      fault := true, cause, valid := false, faultEdge := true, faults := d.tu.ns :: x.faults
      badNs := d.tu.ns, gap := 0, idxSeen := false }) d
    let d := bumpMotion (6 * a.val + 2) d
    let d := raise evMotion 1 (axHandle a) (faultDetail (axisOf d a) true) d
    let d := finishWaits a d
    if monitored d a then safeCause csFeedback a.val d else d

def execAxisFault (a : AxisId) (cause : Nat) (s : State) : Host.Outcome State Fault Refusal :=
  .next (s.mapDev (axisFault a cause))

/-- AXIS_FAULT_CLEAR: the condition has been absent for 1 ms (17 R447). -/
def axisFaultClear (a : AxisId) (d : Dev) : Dev :=
  let x := axisOf d a
  if !x.on || !x.fault || d.tu.ns < x.badNs + 1000000 then d
  else
    let d := modAxis a (fun x => { x with
      fault := false, valid := true, idxSeen := false, fresh := 0
      rehome := x.rehome || axCounts x.cfg
      pos := wrap48 (x.pos + x.gap), wrap := x.wrap || decide (wrap48 (x.pos + x.gap) ≠ x.pos + x.gap), gap := 0, ampBad := 0, hallBad := 0, stepBad := false, illegal := [] }) d
    safeClear csFeedback a.val (raise evMotion 1 (axHandle a) (faultDetail (axisOf d a) false) d)

def execAxisFaultClear (a : AxisId) (s : State) : Host.Outcome State Fault Refusal :=
  .next (s.mapDev (axisFaultClear a))

/-! Exposure latches (17 R448-R450, 04 R122). -/

/-- The exposure centre of line L in time-unit ns, rounded down (04 R122). -/
def latchInstant (t : Nat) (m : Timing) (l : Nat) : Nat :=
  (2000 * t + 2000 * m.eo + 2 * l * m.ls + 1000 * m.ed) / 2000

/-- The three instants of a frame (04 R122). -/
def latchInstants (t : Nat) (m : Timing) (height : Nat) : List Nat :=
  [latchInstant t m 0, latchInstant t m (height / 2), latchInstant t m height]

/-- A frame is triggered: its axis record is begun (17 R450). -/
def axisTrigger (p : PortId) (num t : Nat) (m : Timing) (height : Nat) (d : Dev) : Dev :=
  let latches := (latchInstants t m height).map fun u => ({ st := 3, posQ := 0, speed := 0, t := u } : LatchRes)
  let ents := (List.finRange 8).filterMap fun a =>
    let x := axisOf d a
    if x.on && bitOf (axLatchPorts x.cfg) p.val then
      some ({ axis := a.val, mode := axMode x.cfg, flags := 0, tag := axTag x.cfg, latches } : AxEnt)
    else none
  { d with axrec := d.axrec ++ [{ port := p.val, num, ents }] }

/-- The axis record of a frame as a destination finalises it: zero bytes long when no axis is
configured (17 R450; 07 R220). -/
def axisRecord (d : Dev) (p num : Nat) : List Byte :=
  let r := d.axrec.reverse.find? fun r => r.port == p && r.num == num
  let ents := (r.map AxRec.ents).getD []
  if (r.bind AxRec.raw).isSome then (r.bind AxRec.raw).getD []
  else if ents.isEmpty && !(d.axes.toList.any fun x => x.on) then []
  else
    pack [(1, 1), (1, ents.length), (2, 0), (4, num), (1, p), (7, 0)] ++
    ents.flatMap fun a =>
      let st (j : Nat) : Nat := ((a.latches[j]?).map LatchRes.st).getD 3
      pack [(1, a.axis), (1, a.mode), (1, a.flags), (1, st 0 + st 1 * 4 + st 2 * 16), (4, a.tag)] ++
      a.latches.flatMap fun l =>
        toLE 8 (unsigned 64 (if l.st = 0 then l.posQ else 0)) ++
        toLE 4 (unsigned 32 (if l.st = 0 then l.speed else 0)) ++ toLE 4 (l.t % 2 ^ 32)

/-- Nearest integer, ties away from zero. -/
def roundAway (n : Int) (m : Nat) : Int :=
  if n < 0 then -(((2 * (-n) + m) / (2 * m : Int))) else (2 * n + m) / (2 * m : Int)

/-- A latch as the history resolves it (17 R449). -/
def latchResult (x : Axis) (t : Nat) : LatchRes :=
  let g0 := t / 500 * 500
  let h := x.hist.take 256
  let find (g : Nat) : Option Samp := h.find? fun s => s.t == g
  let oldest := (h.getLast?.map Samp.t).getD 0
  if g0 < oldest then { st := 2, posQ := 0, speed := 0, t }
  else match find g0, find (g0 + 500) with
    | some a, some b =>
      if a.valid && b.valid then
        { st := 0, posQ := roundAway (65536 * (a.p * 500 + wrap48 (b.p - a.p) * (t - g0 : Int))) 500
          speed := b.speed, t }
      else { st := 1, posQ := 0, speed := 0, t }
    | _, _ => { st := 1, posQ := 0, speed := 0, t }

/-- FLAGS of an entry, fixed at its last latch (17 R450). -/
def entFlags (x : Axis) (e : AxEnt) : Nat :=
  let t (j : Nat) : Nat := ((e.latches[j]?).map LatchRes.t).getD 0
  let between (l : List Nat) : Bool := l.any fun u => decide (t 0 ≤ u) && decide (u ≤ t 2)
  let re := (x.hist.find? fun s => decide (s.t ≤ t 2)).any Samp.rehome
  b2n (between x.faults) + b2n re * 2 + b2n (between x.presets) * 4

/-- Write a latch into its frame's record (17 R450). -/
def putLatch (a : AxisId) (q : LatchReq) (r : LatchRes) (d : Dev) : Dev :=
  let upd (e : AxEnt) : AxEnt :=
    if e.axis = a.val then
      let e := { e with latches := e.latches.set q.which.val r }
      if q.which.val = 2 then { e with flags := entFlags (axisOf d a) e } else e
    else e
  { d with axrec := d.axrec.map fun k =>
      if k.port = q.port.val && k.num = q.frame then { k with ents := k.ents.map upd } else k }

/-- The frame's record asks for this latch of the axis (17 R448, R450). -/
def latchAsked (d : Dev) (a : AxisId) (q : LatchReq) : Bool :=
  d.axrec.any fun k => k.port == q.port.val && k.num == q.frame &&
    k.ents.any fun e => e.axis == a.val && (e.latches[q.which.val]?).any fun l => l.t == q.t

/-- The instant may cross the link: from 20 us before it to 100 us after it (17 R448). -/
def latchCrosses (d : Dev) (q : LatchReq) : Bool := decide (q.t ≤ d.tu.ns + 20000) && decide (d.tu.ns ≤ q.t + 100000)

/-- A latch instant reaches the Skerry; with 24 open the oldest is resolved NOT_READY (17 R448). -/
def latchInstantRx (a : AxisId) (q : LatchReq) (d : Dev) : Dev :=
  let x := axisOf d a
  if !x.on || !latchAsked d a q || !latchCrosses d q || x.lats.contains q then d
  else match x.lats with
    | o :: rest =>
      if 24 ≤ x.lats.length then
        let d := bumpMotion (6 * a.val) (putLatch a o { st := 3, posQ := 0, speed := 0, t := o.t } d)
        modAxis a (fun x => { x with lats := rest ++ [q], latch := true }) d
      else modAxis a (fun x => { x with lats := x.lats ++ [q] }) d
    | [] => modAxis a (fun x => { x with lats := [q] }) d

def execLatchInstantRx (a : AxisId) (r : LatchReq) (s : State) : Host.Outcome State Fault Refusal :=
  .next (s.mapDev (latchInstantRx a r))

/-- The oldest open latch whose following grid sample is held resolves (17 R448, R449). -/
def latchResolve (a : AxisId) (d : Dev) : Dev :=
  let x := axisOf d a
  match x.hist.head? with
  | none => d
  | some newest =>
    match x.lats.find? (fun q => decide (q.t / 500 * 500 + 500 ≤ newest.t)) with
    | none => d
    | some q =>
      let d := putLatch a q (latchResult x q.t) d
      modAxis a (fun x => { x with lats := x.lats.erase q, latch := true }) d

def execLatchResolve (a : AxisId) (s : State) : Host.Outcome State Fault Refusal :=
  .next (s.mapDev (latchResolve a))

/-! POS_ registers with an effect of their own (17 R456). -/

def posAddr (a : AxisId) : Nat := 0x40010000 + 0x40 * a.val
def pwmAddr (a : AxisId) : Nat := 0x40020000 + 0x20 * a.val

/-- A load of POSITION: the latest grid sample, with STAMP and SPEED in the core's snapshot. -/
def posSnapshotLoad (c : CoreId) (a : AxisId) (d : Dev) : Dev :=
  if !coreRuns d c then d
  else
    let s := ((axisOf d a).hist.head?).getD { t := 0, p := 0, speed := 0, valid := false, rehome := false }
    coreLoad c (posAddr a) (unsigned 64 s.p)
      (modCore c (fun k => { k with snaps := k.snaps.set a { stamp := s.t % 2 ^ 32, speed := s.speed } }) d)

def execPosSnapshotLoad (c : CoreId) (a : AxisId) (s : State) : Host.Outcome State Fault Refusal :=
  .next (s.mapDev (posSnapshotLoad c a))

/-- A load of ERR_CNT and DRIFT_CNT returns and clears them. -/
def posErrCntRead (c : CoreId) (a : AxisId) (d : Dev) : Dev :=
  if !coreRuns d c then d
  else
    let x := axisOf d a
    coreLoad c (posAddr a + 0x2C) (x.errCnt + x.driftCnt * 2 ^ 16)
      (modAxis a (fun x => { x with errCnt := 0, driftCnt := 0 }) d)

def execPosErrCntRead (c : CoreId) (a : AxisId) (s : State) : Host.Outcome State Fault Refusal :=
  .next (s.mapDev (posErrCntRead c a))

/-- A store to a register of an axis: performed for its owner only (17 R456). -/
def ownerStore (c : CoreId) (a : AxisId) (addr : Nat) (f : Dev → Dev) (d : Dev) : Dev :=
  if !coreRuns d c then d
  else if axisOwner d a = c.val then f d
  else accessFault c true addr d

/-- A store to PRESET (17 R441); on a monitored axis outside the safe state it is a store fault (18 R469). -/
def posPresetWrite (c : CoreId) (a : AxisId) (v : Dword) (d : Dev) : Dev :=
  ownerStore c a (posAddr a + 0x30) (fun d =>
    if monitored d a && !d.safe.held then accessFault c true (posAddr a + 0x30) d
    else modAxis a (fun x => { x with preset := some (v.toNat % 2 ^ 48, d.tu.ns) }) d) d

def execPosPresetWrite (c : CoreId) (a : AxisId) (v : Dword) (s : State) :
    Host.Outcome State Fault Refusal :=
  .next (s.mapDev (posPresetWrite c a v))

/-! PWM and brakes (17 R452-R455). -/

/-- A store restarts the command timer while ARM or BRAKE_REL is 1 (17 R453). -/
def restartTimer (now : Nat) (x : Axis) : Axis := if x.arm || x.brk then { x with timer := now } else x

/-- A store to CMD (17 R452). -/
def pwmCmdWrite (c : CoreId) (a : AxisId) (v : Word) (d : Dev) : Dev :=
  ownerStore c a (pwmAddr a) (fun d =>
    let k := signed 16 (v.toNat % 2 ^ 16)
    modAxis a (fun x => restartTimer d.tu.ns { x with cmd := k, cmds := x.cmds ++ [(d.tu.ns, k)] }) d) d

def execPwmCmdWrite (c : CoreId) (a : AxisId) (v : Word) (s : State) : Host.Outcome State Fault Refusal :=
  .next (s.mapDev (pwmCmdWrite c a v))

/-- A store to the control register at offset 0x04 (17 R453-R455): ARM and BRAKE_REL stay 0 under INHIBIT (of BRAKE_REL
DEDUCED from R455, log 15), TIMEOUT is W1C, the timer restarts, and the outputs follow. -/
def pwmControlWrite (c : CoreId) (a : AxisId) (v : Word) (d : Dev) : Dev :=
  ownerStore c a (pwmAddr a + 4) (fun d =>
    let arm := v.getLsbD 0 && !d.safe.held
    settleAxis d a (modAxis a (fun x => restartTimer d.tu.ns { x with
      arm, brk := v.getLsbD 1 && !d.safe.held
      applied := if arm then x.applied else 0
      timeout := x.timeout && !v.getLsbD 11 }) d)) d

def execPwmArmWrite (c : CoreId) (a : AxisId) (v : Word) (s : State) : Host.Outcome State Fault Refusal :=
  .next (s.mapDev (pwmControlWrite c a v))

def execBrakeRelWrite (c : CoreId) (a : AxisId) (v : Word) (s : State) :
    Host.Outcome State Fault Refusal :=
  .next (s.mapDev (pwmControlWrite c a v))

/-- CMD clamped (17 R452). -/
def clampCmd (k : Int) : Int := max (-32767) (min 32767 k)

/-- The high time of a command, rounded to nearest (17 R452). -/
def pwmHigh (period : Nat) (k : Int) : Nat := (2 * period * (32768 + clampCmd k).toNat + 65536) / 131072

/-- The current period has ended, so that the next may start (17 R452). -/
def periodOver (d : Dev) (a : AxisId) : Bool :=
  (axisOf d a).perNs.all fun p => decide (p + axPeriodNs (axisOf d a).cfg ≤ d.tu.ns)

/-- The command timer of a channel with ARM or BRAKE_REL set has run out (17 R453). -/
def timedOut (d : Dev) (a : AxisId) : Bool :=
  let x := axisOf d a
  (x.arm || x.brk) && decide (x.timer + axTimeoutUs x.cfg * 1000 ≤ d.tu.ns)

/-- What an expired timer does at a period start (17 R453): the channel goes low, ARM and BRAKE_REL clear, so that the brake
engages, TIMEOUT is set and counted, and PWM_TIMEOUT tells the command last applied. -/
def timeOut (a : AxisId) (d : Dev) : Dev :=
  let x := axisOf d a
  let d := settleAxis d a (modAxis a (fun x => { x with arm := false, brk := false, timeout := true, applied := 0 }) d)
  raise evMotion 3 (axHandle a) (unsigned 16 x.applied) (bumpMotion (6 * a.val + 5) d)

/-- The latest store at least 2 us old comes into force with a period (17 R452). -/
def cmdAt (now : Nat) (x : Axis) : Int :=
  (((x.cmds.filter fun k => decide (k.1 + 2000 ≤ now)).getLast?).map (·.2)).getD x.cmdIn

/-- A period starts (17 R452): an expired command timer acts first; a channel that is not DRIVING holds its output low. -/
def pwmPeriodStart (a : AxisId) (d : Dev) : Dev :=
  if !(axisOf d a).on || !periodOver d a then d
  else
    let d := if timedOut d a then timeOut a d else d
    let x := axisOf d a
    let cmdIn := cmdAt d.tu.ns x
    let run := driving d a
    let d := modAxis a (fun x => { x with
      cmdIn, applied := if run then cmdIn else 0, perNs := some d.tu.ns
      cmds := x.cmds.filter fun k => !decide (k.1 + 2000 ≤ d.tu.ns) }) d
    emit (.pwm a.val (if run then pwmHigh (pwmTicks x.cfg) cmdIn else 0) (pwmTicks x.cfg)) d

def execPwmPeriodStart (a : AxisId) (s : State) : Host.Outcome State Fault Refusal :=
  .next (s.mapDev (pwmPeriodStart a))

/-- PWM_CMD_TIMEOUT: the timer has run out and a period starts (17 R453). -/
def pwmCmdTimeout (a : AxisId) (d : Dev) : Dev :=
  if timedOut d a && periodOver d a then timeOut a d else d

def execPwmCmdTimeout (a : AxisId) (s : State) : Host.Outcome State Fault Refusal :=
  .next (s.mapDev (pwmCmdTimeout a))

/-! The barrier link (17 R436, R438; 18 R466-R468). -/

/-- Count the copies of a slot's frame that fail their CRC, and a slot lost on both paths (17 R460). -/
def countSlot (a b : Bool) (d : Dev) : Dev :=
  let d := if a then d else bumpMotion 48 d
  let d := if b then d else bumpMotion 49 d
  if a || b then d else bumpMotion 50 d

/-- A link frame toward the Skerry (18 R466): good only with the next sequence number; a frame without
PERMIT forces the safe state. After 99 missed slots any sequence number is taken anew. -/
def skerryLinkFrame (f : LinkFrame) (d : Dev) : Dev :=
  let d := countSlot f.goodA f.goodB d
  let next := match d.safe.seq with
    | none => true
    | some n => f.seq % 256 == (n + 1) % 256
  if (f.goodA || f.goodB) && next then
    let d := modSafe (fun s => { s with
      seq := some (f.seq % 256), missed := 0, good := some (s.good.getD d.tu.ns), goodNs := d.tu.ns
      frameCrc := some f.cfgCrc }) d
    let d := if f.permit then d else safeEnter d.safe.last d.safe.lastAxis d
    clearByFrames d
  else
    modSafe (fun s => { s with
      missed := s.missed + 1, good := none, seq := if 99 ≤ s.missed + 1 then none else s.seq }) d

def execSkerryLinkFrame (f : LinkFrame) (s : State) : Host.Outcome State Fault Refusal :=
  .next (s.mapDev (skerryLinkFrame f))

/-- A link frame toward the compute die (17 R436). -/
def computeLinkFrame (a b : Bool) (d : Dev) : Dev :=
  let d := countSlot a b d
  modSafe (fun s => { s with goodUp := if a || b then some (s.goodUp.getD d.tu.ns) else none }) d

def execComputeLinkFrame (goodA goodB : Bool) (s : State) : Host.Outcome State Fault Refusal :=
  .next (s.mapDev (computeLinkFrame goodA goodB))

/-- A path goes down or comes up (18 R467, R474; 17 R461; 19 R483). -/
def linkPathChange (b up : Bool) (d : Dev) : Dev :=
  let was := noPath d
  if (if b then d.safe.pathB else d.safe.pathA) == up then d
  else
    let d := modSafe (fun s => if b then { s with pathB := up } else { s with pathA := up }) d
    let d := irqEdge 42 (raise evMotion 0x12 0 (b2n d.safe.pathA + b2n d.safe.pathB * 2) d)
    if was && up && d.safe.por then raise evMotion 4 0 0 d else d

def execLinkPathChange (pathB up : Bool) (s : State) : Host.Outcome State Fault Refusal :=
  .next (s.mapDev (linkPathChange pathB up))

/-- The Skerry restarts (17 R438; 18 R467, R471): every axis off, its configuration at the defaults,
the safe state entered with POWER_UP, and the causes of its own die gone. -/
def skerryPor (d : Dev) : Dev :=
  let d := settleAll d { d with axes := d.axes.map fun x => { ({} : Axis) with waits := x.waits } }
  let d := modSafe (fun s => { s with
    cfg := safeCfgDefault, por := true, seq := none, good := none, missed := 0
    present := s.present.filter fun c =>
      !(c.code == csSkerryInternal || c.code == csReadback || decide (0x40 ≤ c.code)) }) d
  safeCause csPowerUp noAxis (bumpMotion 51 d)

def execSkerryPor (s : State) : Host.Outcome State Fault Refusal := .next (s.mapDev skerryPor)

/-! AXIS_CONFIG (17 R457-R459). -/

/-- The serial read period in ns times ENC_CLK (17 R439): (ENC_BITS + 14) clocks, and 20 us of idle line
for SSI, within 50 us. -/
def readPeriodOk (c : List Byte) : Bool :=
  !axSerial c ||
  decide ((axEncBits c + 14) * 10000 + (if axMode c = 4 then 20000 * axEncClk c else 0) ≤ 50000 * axEncClk c)

/-- The ranges of the structure (17 R457, R458). -/
def axValid (c : List Byte) : Bool :=
  let m := axMode c
  decide (1 ≤ m) && decide (m ≤ 5) && decide (le c 1 1 ≤ 1) && decide (le c 2 1 < 64) &&
  decide (axLatchPorts c < 16) && decide (axSpdWin c ≤ 10) &&
  (if m = 2 then decide (1 ≤ axAmpCount c) && decide (axAmpCount c ≤ 32) && decide (axAmpLo c < axAmpHi c)
    else axAmpCount c == 0) &&
  (if m = 3 then decide (8 ≤ axEncBits c) && decide (axEncBits c ≤ 40)
    else if m = 4 then decide (8 ≤ axEncBits c) && decide (axEncBits c ≤ 32) else axEncBits c == 0) &&
  (if m = 3 then decide (1 ≤ axEncClk c) && decide (axEncClk c ≤ 100)
    else if m = 4 then decide (1 ≤ axEncClk c) && decide (axEncClk c ≤ 20) else axEncClk c == 0) &&
  (decide (axEmuOut c ≤ 3) || axEmuOut c == 0xFF) && le c 29 3 == 0 &&
  (if axEmuOut c = 0xFF then axEmuLines c == 0
    else decide (1 ≤ axEmuLines c) && decide (axEmuLines c ≤ 1048576) && axCpr c != 0) &&
  decide (10000 ≤ axPeriodNs c) && decide (axPeriodNs c ≤ 1000000) && axPeriodNs c % 10 == 0 &&
  decide (10 ≤ axTimeoutUs c) && decide (axTimeoutUs c ≤ 10000) && le c 42 2 == 0 && le c 48 16 == 0 &&
  readPeriodOk c

/-- The axis of a command's handle. -/
def axArg (e : Sqe) : AxisId := axisIdx (hIdx e.handle.toNat)

/-- Another axis drives an emulation output. -/
def emuTaken (d : Dev) (a : AxisId) (out : Nat) : Bool :=
  decide (out < 4) && (List.finRange 8).any fun b =>
    b != a && (axisOf d b).on && axEmuOut (axisOf d b).cfg == out

/-- The safety check of AXIS_CONFIG (17 R458). -/
def axInhibited (d : Dev) (a : AxisId) : Bool :=
  (axisOf d a).arm || (axisOf d a).brk || monitored d a

/-- Same configuration but for LATCH_PORTS. -/
def sameButPorts (a b : List Byte) : Bool := a.set 3 0 == b.set 3 0

/-- The axis restarts under R441, its registers at reset. -/
def axisRestart (a : AxisId) (cfg : List Byte) (d : Dev) : Dev :=
  modAxis a (fun x => { ({} : Axis) with
    on := true, cfg, rehome := axCounts cfg, waits := x.waits }) d

def specAxisConfigEnable : CmdSpec where
  op := .axisConfigEnable
  layout := [(32, 0, 1)]
  checks e := [(24, e.dataLen == 64)]
  data := structData 64
  inner e := innerCheck (axValid (fit 64 e.data))
  handle := .fixed 0x11 8

def axisConfigEnableBody (c : Outst) (d : Dev) : Ans :=
  let a := axArg c.e
  let cfg := fit 64 c.e.data
  let x := axisOf d a
  check (!noPath d && !emuTaken d a (axEmuOut cfg)) stConflict <|
  check (!axInhibited d a) stSafety <|
  if x.on && sameButPorts x.cfg cfg then
    let d := modAxis a (fun x => { x with cfg }) d
    if x.valid then okAns d
    else if x.fault then .done d stNoFeedback x.cause 0
    else .stay (modAxis a (fun x => { x with waits := x.waits ++ [c.tag] }) d) .stepped
  else .stay (modAxis a (fun x => { x with waits := x.waits ++ [c.tag] }) (axisRestart a cfg d)) .stepped

def execAxisConfigEnable (t : Nat) (s : State) : Host.Outcome State Fault Refusal :=
  .next (s.mapDev (hostRow specAxisConfigEnable t axisConfigEnableBody))

def specAxisConfigDisable : CmdSpec where
  op := .axisConfigDisable
  layout := [(32, 0, 1)]
  handle := .fixed 0x11 8

def axisConfigDisableBody (c : Outst) (d : Dev) : Ans :=
  let a := axArg c.e
  check (!noPath d) stConflict <|
  check (!axInhibited d a) stSafety <|
  okAns (modAxis a (fun x => { ({} : Axis) with waits := x.waits }) d)

def execAxisConfigDisable (t : Nat) (s : State) : Host.Outcome State Fault Refusal :=
  .next (s.mapDev (hostRow specAxisConfigDisable t axisConfigDisableBody))

/-- An AXIS_CONFIG was fetched at least 10 ms ago (17 R458). -/
def configLate (d : Dev) (t : Nat) : Bool := (findOutst d t).all fun c => decide (c.ns + 10000000 ≤ d.tu.ns)

/-- Not VALID 10 ms after fetch: AXIS_NO_FEEDBACK (17 R458). -/
def axisConfigTimeout (a : AxisId) (d : Dev) : Dev :=
  if (axisOf d a).valid then d else finishIf (configLate d) a d

def execAxisConfigTimeout (a : AxisId) (s : State) : Host.Outcome State Fault Refusal :=
  .next (s.mapDev (axisConfigTimeout a))

end Sys2Proof.Machine
end

