-- ==== Sys2Proof/Machine/F24.lean ====
section
/-!
DEFINITION. Machine/F24.lean: the F24 sample format and its one rounding (05 R141, R142), binary16 (07
R213), and the roundings the pixel chapters name. Values between are exact rationals.
-/
namespace Sys2Proof.Machine

/-- 2 to an integer power. -/
def pow2 (k : Int) : Rat := if k < 0 then 1 / ((2 ^ k.natAbs : Nat) : Rat) else ((2 ^ k.natAbs : Nat) : Rat)

/-- Absolute value. -/
def rabs (q : Rat) : Rat := if q < 0 then -q else q

/-- Rounding of a non-negative rational to nearest, ties to even. -/
def rndEven (q : Rat) : Nat :=
  let n := q.num.natAbs
  let d := q.den
  let k := n / d
  let r := n % d
  if 2 * r < d then k else if d < 2 * r then k + 1 else if k % 2 = 0 then k else k + 1

/-- Rounding to nearest, ties upward. -/
def rndUp (q : Rat) : Int := (q + 1 / 2).floor

/-- Rounding to nearest, ties away from zero. -/
def rndAway (q : Rat) : Int := if q < 0 then -((-q + 1 / 2).floor) else (q + 1 / 2).floor

/-- The value of an F24 code (05 R141). -/
def f24Val (c : Nat) : Rat :=
  let f := c % 65536
  let e := c / 65536 % 128
  let m : Rat := if e = 0 then ((f : Nat) : Rat) / 65536 * pow2 (-62)
    else pow2 ((e : Int) - 63) * (1 + ((f : Nat) : Rat) / 65536)
  if c / 2 ^ 23 % 2 = 1 then -m else m

/-- Largest E with 2^E at most a positive rational. -/
def ilog2 (q : Rat) : Int :=
  let e : Int := (Nat.log2 q.num.natAbs : Int) - (Nat.log2 q.den : Int)
  if q < pow2 e then e - 1 else e

/-- The F24 magnitude code of a non-negative value, saturating (05 R142). -/
def f24Mag (m : Rat) : Nat :=
  if m = 0 then 0
  else
    let e := ilog2 m
    let code := if e < -62 then rndEven (m * pow2 78)
      else (e + 63).toNat * 65536 + rndEven ((m * pow2 (-e) - 1) * 65536)
    min code (126 * 65536 + 65535)

/-- Round once to F24 (05 R142); a result of zero has sign 0. -/
def f24Round (q : Rat) : Nat :=
  let m := f24Mag (rabs q)
  if q < 0 && m != 0 then 2 ^ 23 + m else m

/-- A field that holds F24 in [23:0] with [31:24] at 0 and the exponent 127 never used (05 R141, R156). -/
def f24Ok (w : Nat) : Bool := decide (w < 2 ^ 24) && w / 65536 % 128 != 127

/-- Binary16 from a value: nearest, ties to even, magnitudes above 65,504 become 65,504 (07 R213). -/
def f16Round (q : Rat) : Nat :=
  let m := rabs q
  let mag :=
    if m = 0 then 0
    else if m > 65504 then 0x7BFF
    else
      let e := ilog2 m
      min (if e < -14 then rndEven (m * pow2 24)
        else (e + 15).toNat * 1024 + rndEven ((m * pow2 (-e) - 1) * 1024)) 0x7BFF
  if q < 0 then 0x8000 + mag else mag

/-- The value of a finite binary16 code (06 R191). -/
def f16Val (c : Nat) : Rat :=
  let f := c % 1024
  let e := c / 1024 % 32
  let m : Rat := if e = 0 then ((f : Nat) : Rat) * pow2 (-24)
    else pow2 ((e : Int) - 15) * (1 + ((f : Nat) : Rat) / 1024)
  if 0x8000 ≤ c then -m else m

/-- An infinite or NaN binary16 (06 R201). -/
def f16Bad (c : Nat) : Bool := c / 1024 % 32 == 31

/-- Clamp a rational. -/
def rclamp (q lo hi : Rat) : Rat := if q < lo then lo else if hi < q then hi else q

/-- Clamp an integer into a range of naturals. -/
def iclamp (x : Int) (lo hi : Nat) : Nat := if x < lo then lo else if (hi : Int) < x then hi else x.toNat

/-- A sum of rationals. -/
def rsum (l : List Rat) : Rat := l.foldl (· + ·) 0

/-- The F24 field of a structure at a byte offset. -/
def leF24 (l : List Byte) (off : Nat) : Rat := f24Val (le l off 4)

/-- A picture plane: rows of pixels. -/
abbrev Plane (α : Type) := Array (Array α)

def plane {α : Type} (w h : Nat) (f : Nat → Nat → α) : Plane α :=
  ((List.range h).map fun y => ((List.range w).map fun x => f x y).toArray).toArray

def px {α : Type} [Inhabited α] (p : Plane α) (x y : Nat) : α := (p.getD y #[]).getD x default

/-- A front-end sample: its F24 code and clip flag (05 R146). -/
structure Smp where
  code : Nat
  clip : Bool
deriving DecidableEq, Repr, Inhabited

def Smp.val (s : Smp) : Rat := f24Val s.code

/-- Fractional bits kept by the logarithms, powers and sines below, well past binary64 (06 R194, 07
R212). -/
def fracBits : Nat := 96

/-- Round a rational to a multiple of 2^-96, toward zero, to keep iterations small. -/
def trim (q : Rat) : Rat :=
  let n := q.num.natAbs * 2 ^ fracBits / q.den
  let r : Rat := ((n : Nat) : Rat) / ((2 ^ fracBits : Nat) : Rat)
  if q < 0 then -r else r

/-- log2 of a number in [1, 2), bit by bit: n bits (square; a result of 2 or more gives a 1). -/
def log2Bits : Nat → Rat → Rat → Rat
  | 0, _, _ => 0
  | n + 1, x, w =>
    let y := trim (x * x)
    if 2 ≤ y then w + log2Bits n (y / 2) (w / 2) else log2Bits n y (w / 2)

/-- log2 of a positive value, to about 80 bits. -/
def rlog2 (q : Rat) : Rat :=
  let e := ilog2 q
  (e : Rat) + log2Bits 80 (q * pow2 (-e)) (1 / 2)

/-- Square root of a non-negative value, to 96 fractional bits. -/
def rsqrt (q : Rat) : Rat :=
  let n := q.num.natAbs * 2 ^ (2 * fracBits) / q.den
  ((Nat.sqrt n : Nat) : Rat) / ((2 ^ fracBits : Nat) : Rat)

/-- 2 to a fraction in [0, 1): the product of the roots 2^(1/2), 2^(1/4), ... its bits select. -/
def exp2Bits : Nat → Rat → Rat → Rat → Rat
  | 0, _, _, acc => acc
  | n + 1, f, root, acc =>
    let f2 := f * 2
    if 1 ≤ f2 then exp2Bits n (f2 - 1) (rsqrt root) (trim (acc * root))
    else exp2Bits n f2 (rsqrt root) acc

/-- 2 to a rational power, to about 80 bits. -/
def rexp2 (q : Rat) : Rat :=
  let e := q.floor
  pow2 e * exp2Bits 80 (q - e) (rsqrt 2) 1

/-- A positive value to a rational power. -/
def rpow (x y : Rat) : Rat := rexp2 (y * rlog2 x)

/-- ln 2 to 40 decimal places. -/
def ln2 : Rat := 6931471805599453094172321214581765680755 / 10000000000000000000000000000000000000000

def rln (x : Rat) : Rat := rlog2 x * ln2

/-- pi to 40 decimal places. -/
def rpi : Rat := 31415926535897932384626433832795028841972 / 10000000000000000000000000000000000000000

/-- sin x for |x| at most 2 pi, from 40 terms of its series. -/
def sinTerms : Nat → Nat → Rat → Rat → Rat
  | 0, _, _, _ => 0
  | n + 1, k, t, x2 => t + sinTerms n (k + 2) (trim (-(t * x2) / (((k + 1) * (k + 2) : Nat) : Rat))) x2

def rsin (x : Rat) : Rat := sinTerms 40 1 (trim x) (trim (x * x))

/-- sinc(x) = sin(pi x) / (pi x) (07 R212). -/
def sinc (x : Rat) : Rat := if x = 0 then 1 else trim (rsin (rpi * x) / (rpi * x))

end Sys2Proof.Machine
end

