-- ==== Sys2Proof/Machine/FrontEnd.lean ====
section
/-!
DEFINITION. Machine/FrontEnd.lean: the raw front end's stages and the statistics of a frame (05
R147-R164), as functions of a frame, its geometry and the configuration in force.
-/
namespace Sys2Proof.Machine

/-! Fields of the ISLE_CONFIG structure (05 R156). -/

def cfaW (fe : List Byte) : Nat := le fe 0 1
def cfaH (fe : List Byte) : Nat := le fe 1 1
def filters (fe : List Byte) : Nat := le fe 2 1
/-- Bit i of STAGE_EN: 0 OB, 1 COLFPN, 2 STATIC_DEF, 3 DYN_DEF, 4 MERGE, 5 SHADING, 6 CROSSTALK. -/
def stageEn (fe : List Byte) (i : Nat) : Bool := bitOf (le fe 3 1) i
def clipCode (fe : List Byte) (s : Nat) : Nat := le fe (12 + 2 * s) 2
def blackOf (fe : List Byte) (s c : Nat) : Nat := le fe (16 + 12 * s + 2 * c) 2
def obMask (fe : List Byte) : Nat := le fe 48 1
def obShift (fe : List Byte) : Nat := le fe 49 1
def defectMax (fe : List Byte) : Nat := le fe 50 2
def shadeGx (fe : List Byte) : Nat := le fe 58 1
def shadeGy (fe : List Byte) : Nat := le fe 59 1
def zonesX (fe : List Byte) : Nat := le fe 92 1
def zonesY (fe : List Byte) : Nat := le fe 93 1

/-- CFA position of a sample (05 R155). -/
def cfaPos (fe : List Byte) (x y : Nat) : Nat := y % cfaH fe * cfaW fe + x % cfaW fe

/-- Filter of a sample (05 R147, R156 CFA_MAP). -/
def filterAt (fe : List Byte) (x y : Nat) : Nat :=
  bitsOf (le fe 4 8) (4 * (y % cfaH fe * 4 + x % cfaW fe)) 4

/-- A column in the optical-black ranges that OB_MASK names (05 R148, R162). -/
def obColumn (fe : List Byte) (x : Nat) : Bool :=
  let inR (first count : Nat) : Bool := decide (first ≤ x) && decide (x ≤ first + count)
  (bitOf (obMask fe) 0 && inR (le fe 40 2) (le fe 42 2)) ||
  (bitOf (obMask fe) 1 && inR (le fe 44 2) (le fe 46 2))

/-! Sample codes (04 R111, R124). -/

/-- The codes of a LINE payload (04 R111). -/
def unpackLine (bits n : Nat) (payload : List Byte) : List Nat :=
  let v := leNat payload
  (List.range n).map fun i => bitsOf v (i * bits) bits

/-- Codes packed as in a LINE payload, to whole 32-bit words (04 R110, R111). -/
def packLine (bits : Nat) (codes : List Nat) : List Byte :=
  let v := (codes.zipIdx).foldl (fun a (c, i) => a + c % 2 ^ bits * 2 ^ (i * bits)) 0
  toLE (divWords (codes.length * bits) * 4) v
where
  divWords (b : Nat) : Nat := (b + 31) / 32

/-- The payload of a received line. -/
def lineOf (f : Frm) (s y : Nat) : Option (List Byte) :=
  (f.lines.find? fun l => l.1 == s && l.2.1 == y).map fun l => l.2.2

/-- The codes of line y of a stream; a missing line is fill: the black level of each filter (04 R124). -/
def codesOf (f : Frm) (g : Geo) (fe : List Byte) (s y : Nat) : Bool × List Nat :=
  match lineOf f s y with
  | some p => (false, unpackLine g.bits (g.samples + 1) p)
  | none => (true, (List.range (g.samples + 1)).map fun x => blackOf fe s (filterAt fe x y))

/-! Stages 1 and 2 (05 R146-R148). -/

/-- Black level and column correction, in 1/16 code (05 R147). -/
def d16 (fe : List Byte) (cols : List Int) (s x y code : Nat) : Int :=
  16 * ((code : Int) - (blackOf fe s (filterAt fe x y) : Int)) -
    (if stageEn fe 1 then (cols[x]?).getD 0 else 0)

/-- The optical-black estimate of one filter after a line (05 R148). -/
def obUpdate (fe : List Byte) (y c : Nat) (row : List (Nat × Int)) (o : Int) : Int :=
  let l := (row.filter fun (x, _) => obColumn fe x && filterAt fe x y == c).map (·.2)
  if l.isEmpty then o
  else
    let m := Int.tdiv (l.foldl (· + ·) 0) (l.length : Int)
    o + (m - o) / (2 ^ obShift fe : Int)

/-- One line through stages 1 and 2, with the estimate before it: its samples and the estimate after. -/
def lineIn (g : Geo) (fe : List Byte) (cols : List Int) (s y : Nat) (fill : Bool) (codes : List Nat)
    (o : List Int) : Array Smp × List Int :=
  let row := (codes.zipIdx).map fun (code, x) => (x, d16 fe cols s x y code)
  let out := (row.zip codes).map fun ((x, v), code) =>
    let v := v - (if stageEn fe 0 then (o[filterAt fe x y]?).getD 0 else 0)
    ({ code := f24Round ((v : Rat) * pow2 (-((g.bits : Int) + 4)))
       clip := decide (clipCode fe s ≤ code) } : Smp)
  let o' := if fill then o else (o.zipIdx).map fun (v, c) => obUpdate fe y c row v
  (out.toArray, o')

/-- A stream through stages 1 and 2: lines in order, and the estimate after the last. -/
def streamIn (f : Frm) (g : Geo) (fe : List Byte) (cols : List Int) (s : Nat) (o : List Int) :
    Plane Smp × List Int :=
  let r := (List.range (g.height + 1)).foldl
    (fun (acc : List (Array Smp) × List Int) y =>
      let (fill, codes) := codesOf f g fe s y
      let (row, o) := lineIn g fe cols s y fill codes acc.2
      (row :: acc.1, o)) ([], o)
  (r.1.reverse.toArray, r.2)

/-! Stage 3: defects (05 R149-R152). -/

/-- A sample marked in the static map (05 R152). -/
def marked (defects : List Nat) (x y : Nat) : Bool :=
  defects.any fun w =>
    let dx := bitsOf w 0 15
    let dy := bitsOf w 15 14
    dx == x && (if bitsOf w 29 2 = 1 then decide (dy ≤ y) else dy == y)

/-- Insert into a list rising in value. -/
def insertSmp (s : Smp) : List Smp → List Smp
  | [] => [s]
  | t :: l => if s.val < t.val then s :: t :: l else t :: insertSmp s l

/-- The neighbour set of a sample (05 R149), in rising value. -/
def neighbours (p : Plane Smp) (g : Geo) (fe : List Byte) (defects : List Nat) (x y : Nat) : List Smp :=
  ((List.range 3).flatMap fun (j : Nat) => (List.range 9).filterMap fun (i : Nat) =>
    let yy := (y : Int) + (j : Int) - 1
    let xx := (x : Int) + (i : Int) - 4
    if yy < 0 || xx < 0 || yy > g.height || xx > g.samples || (j = 1 && i = 4) then none
    else
      let a := xx.toNat
      let b := yy.toNat
      if filterAt fe a b = filterAt fe x y && !marked defects a b then some (px p a b) else none)
    |>.foldl (fun l s => insertSmp s l) []

/-- The replacement of a defective sample (05 R151). DESIGN CHOICE (log 80): where several neighbours equal the median, the
clip flag is that of the one at the median place, equal values standing in scan order. -/
def replacement (n : List Smp) : Smp :=
  if 3 ≤ n.length then (n[(n.length - 1) / 2]?).getD default
  else if n.isEmpty then { code := 0, clip := false }
  else { code := f24Round (rsum (n.map Smp.val) / ((n.length : Nat) : Rat)), clip := n.any Smp.clip }

/-- Hot or cold against the neighbours (05 R150). -/
def dynDefect (fe : List Byte) (v : Rat) (n : List Smp) : Bool :=
  match n.getLast?, n.head? with
  | some mx, some mn =>
    decide (2 ≤ n.length) &&
    (decide (mx.val + leF24 fe 52 + mx.val * ((le fe 56 2 : Nat) : Rat) / 65536 < v) ||
     decide (v < mn.val - leF24 fe 52))
  | _, _ => false

/-- Stage 3 at a sample: what passes on, and 1 static or 2 dynamic where it was replaced. -/
def defectAt (p : Plane Smp) (g : Geo) (fe : List Byte) (defects : List Nat) (x y : Nat) : Smp × Nat :=
  let s := px p x y
  if stageEn fe 2 && marked defects x y then (replacement (neighbours p g fe defects x y), 1)
  else if stageEn fe 3 then
    let n := neighbours p g fe defects x y
    if dynDefect fe s.val n then (replacement n, 2) else (s, 0)
  else (s, 0)

/-! Stages 4 to 6 (05 R153-R155). -/

/-- Dual-gain merge of one sample (05 R153). -/
def mergeSmp (fe : List Byte) (h l : Smp) (hFill lFill : Bool) : Smp :=
  let ratio := leF24 fe 64
  if lFill && !hFill then h
  else if hFill && !lFill then { code := f24Round (ratio * l.val), clip := l.clip }
  else
    let w := if h.clip then 1 else rclamp ((h.val - leF24 fe 68) / (leF24 fe 72 - leF24 fe 68)) 0 1
    { code := f24Round ((1 - w) * h.val + w * ratio * l.val), clip := decide (0 < w) && l.clip }

/-- Interpolation place on an axis of a node grid: node index and fraction (05 R154). -/
def gridPlace (x cw n : Nat) : Nat × Rat :=
  let i := min (x / 2 ^ cw) (n - 2)
  (i, min (((x - i * 2 ^ cw : Nat) : Rat) / ((2 ^ cw : Nat) : Rat)) 1)

/-- Lens shading (05 R154). -/
def shade (p : Pipe) (s : Smp) (x y : Nat) : Smp :=
  let fe := p.fe
  let gx := shadeGx fe
  let gy := shadeGy fe
  let (i, fx) := gridPlace x (le fe 60 1) gx
  let (j, fy) := gridPlace y (le fe 61 1) gy
  let node (j i : Nat) : Rat :=
    (((p.shading[filterAt fe x y * (gx * gy) + j * gx + i]?).getD 0 : Nat) : Rat) / 4096
  let gain := (1 - fx) * (1 - fy) * node j i + fx * (1 - fy) * node j (i + 1) +
    (1 - fx) * fy * node (j + 1) i + fx * fy * node (j + 1) (i + 1)
  { s with code := f24Round (s.val * gain) }

/-- Crosstalk (05 R155): a position outside the frame takes the centre's value. -/
def crosstalk (p : Pipe) (g : Geo) (im : Plane Smp) (x y : Nat) : Smp :=
  let s := px im x y
  let base := cfaPos p.fe x y * 9
  let terms := (List.range 9).map fun i =>
    let xx := (x : Int) + (i % 3 : Nat) - 1
    let yy := (y : Int) + (i / 3 : Nat) - 1
    let v := if xx < 0 || yy < 0 || xx > g.samples || yy > g.height then s.val
      else (px im xx.toNat yy.toNat).val
    (((p.xtalk[base + i]?).getD 0 : Int) : Rat) / 16384 * v
  { s with code := f24Round (rsum terms) }

/-- What the front end makes of a frame. -/
structure FeOut where
  img     : Plane Smp
  ob      : List Int
  statics : Nat
  dyns    : Nat

/-- The front end on a frame (05 R143): its output, the optical-black estimate after it, and the
replaced samples of both streams. -/
def frontEnd (f : Frm) (g : Geo) (p : Pipe) (ob : List Int) : FeOut :=
  let fe := p.fe
  let w := g.samples + 1
  let h := g.height + 1
  let (a0, o0) := streamIn f g fe p.col0 0 (ob.take 6)
  let (a1, o1) := if g.streams = 2 then streamIn f g fe p.col1 1 (ob.drop 6) else (#[], ob.drop 6)
  let b0 := plane w h fun x y => defectAt a0 g fe p.defects x y
  let b1 := if g.streams = 2 then plane w h fun x y => defectAt a1 g fe p.defects x y else #[]
  let count (b : Plane (Smp × Nat)) (k : Nat) : Nat :=
    b.foldl (fun n r => r.foldl (fun n q => if q.2 = k then n + 1 else n) n) 0
  let c := plane w h fun x y =>
    if g.streams = 2 && stageEn fe 4 then
      mergeSmp fe (px b0 x y).1 (px b1 x y).1 (lineOf f 0 y).isNone (lineOf f 1 y).isNone
    else (px b0 x y).1
  let d := if stageEn fe 5 then plane w h fun x y => shade p (px c x y) x y else c
  let e := if stageEn fe 6 then plane w h fun x y => crosstalk p g d x y else d
  { img := e, ob := o0 ++ o1, statics := count b0 1 + count b1 1, dyns := count b0 2 + count b1 2 }

/-! Statistics (05 R162-R164). -/

/-- Histogram bin of a sample (05 R163). -/
def histBin (fe : List Byte) (code : Nat) : Nat :=
  let v := f24Val code
  let param := signed 8 (le fe 77 1)
  if v ≤ 0 then 0
  else if le fe 76 1 = 0 then iclamp (v * pow2 (10 + param)).floor 0 1023
  else
    let e := code / 65536 % 128
    if e = 0 then 0
    else iclamp (64 * ((e : Int) - 63 - param) + ((code % 65536 / 1024 : Nat) : Int)) 0 1023

/-- The zone of a sample, if it counts (05 R162). -/
def zoneOf (fe : List Byte) (x y : Nat) : Option (Nat × Nat) :=
  let x0 := le fe 84 2
  let y0 := le fe 86 2
  if x < x0 || y < y0 || obColumn fe x then none
  else
    let zx := (x - x0) / (le fe 88 2 + 1)
    let zy := (y - y0) / (le fe 90 2 + 1)
    if zx ≤ zonesX fe && zy ≤ zonesY fe then some (zx, zy) else none

/-- The samples of a zone inside the frame: column, line, sample. -/
def zoneSamples (fe : List Byte) (g : Geo) (im : Plane Smp) (zx zy : Nat) : List (Nat × Nat × Smp) :=
  let zw := le fe 88 2 + 1
  let zh := le fe 90 2 + 1
  (List.range zh).flatMap fun j => (List.range zw).filterMap fun i =>
    let x := le fe 84 2 + zx * zw + i
    let y := le fe 86 2 + zy * zh + j
    if x ≤ g.samples && y ≤ g.height && !obColumn fe x then some (x, y, px im x y) else none

/-- MEAN of a filter in a zone, rounded once (05 R164). -/
def zoneMean (fe : List Byte) (c : Nat) (l : List (Nat × Nat × Smp)) : Nat :=
  let vs := (l.filter fun (x, y, _) => filterAt fe x y == c).map fun (_, _, s) => s.val
  if vs.isEmpty then 0 else f24Round (rsum vs / ((vs.length : Nat) : Rat))

/-- CLIPPED of a filter in a zone. -/
def zoneClipped (fe : List Byte) (c : Nat) (l : List (Nat × Nat × Smp)) : Nat :=
  (l.filter fun (x, y, s) => filterAt fe x y == c && s.clip).length

/-- FOCUS of a zone (05 R164). -/
def zoneFocus (fe : List Byte) (l : List (Nat × Nat × Smp)) : Nat :=
  let ds := l.filterMap fun (x, y, s) =>
    if filterAt fe x y = le fe 78 1 then
      (l.find? fun (x', y', _) => x' == x + cfaW fe && y' == y).bind fun (_, _, s') =>
        let dv := rabs (s.val - s'.val)
        if leF24 fe 80 < dv then some dv else none
    else none
  if ds.isEmpty then 0 else f24Round (rsum ds / ((ds.length : Nat) : Rat))

/-- The 24,576-byte histogram block (05, Record layout). -/
def histBytes (fe : List Byte) (g : Geo) (im : Plane Smp) : List Byte :=
  let all := (List.range (g.height + 1)).flatMap fun y => (List.range (g.samples + 1)).filterMap fun x =>
    if (zoneOf fe x y).isSome then some (filterAt fe x y, histBin fe (px im x y).code) else none
  (List.range 6).flatMap fun c => (List.range 1024).flatMap fun b =>
    toLE 4 (min (all.filter fun q => q == (c, b)).length 0xFFFFFFFF)

/-- A 64-byte zone entry (05, Record layout). -/
def zoneBytes (fe : List Byte) (g : Geo) (im : Plane Smp) (zx zy : Nat) : List Byte :=
  let l := zoneSamples fe g im zx zy
  ((List.range 6).flatMap fun c =>
    if c < filters fe then pack [(4, zoneMean fe c l), (4, zoneClipped fe c l)] else zeros 8) ++
  pack [(4, zoneFocus fe l), (4, l.length), (8, 0)]

/-- Seconds and nanoseconds of a time-unit value in ns (01, Time). -/
def secOf (ns : Nat) : Nat := ns / 1000000000
def nsOf (ns : Nat) : Nat := ns % 1000000000

/-- Start of exposure of a frame: T + EO (04 R122). -/
def expStart (f : Frm) : Nat := f.t + f.tm.eo

/-- EXP_SEC, EXP_NS, NS32 of a frame, 16 bytes. -/
def expBytes (f : Frm) : List Byte :=
  pack [(8, secOf (expStart f) % 2 ^ 48), (4, nsOf (expStart f)), (4, expStart f % 2 ^ 32)]

/-- A statistics record (05, Record layout) with its sequence number. -/
def statsRecord (fin : FinFrm) (seq : Nat) : List Byte :=
  let fe := fin.pipe.fe
  let o := frontEnd fin.frm fin.geo fin.pipe fin.ob
  pack [(8, seq % 2 ^ 63), (4, fin.frm.num), (4, fin.frm.status)] ++ expBytes fin.frm ++
  pack [(1, fin.frm.port), (1, filters fe), (1, zonesX fe), (1, zonesY fe), (1, le fe 76 1),
    (1, le fe 77 1), (2, 0), (4, o.statics), (4, o.dyns)] ++
  ((List.range 6).flatMap fun c =>
    if c < filters fe then toLE 4 (unsigned 32 ((o.ob[c]?).getD 0)) else zeros 4) ++ zeros 56 ++
  histBytes fe fin.geo o.img ++
  ((List.range (zonesY fe + 1)).flatMap fun zy => (List.range (zonesX fe + 1)).flatMap fun zx =>
    zoneBytes fe fin.geo o.img zx zy)

/-- Record length and stride (05, Record layout). -/
def recordLen (fe : List Byte) : Nat := 24704 + 64 * (zonesX fe + 1) * (zonesY fe + 1)
def recordStride (fe : List Byte) : Nat := (recordLen fe + 4095) / 4096 * 4096

end Sys2Proof.Machine
end

