-- ==== Sys2Proof/Machine/Colour.lean ====
section
/-!
DEFINITION. Machine/Colour.lean: the demosaic and the Dalezil stages 1 to 6 (06 R175-R196), as
functions of the front end's output and the configuration in force.
-/
namespace Sys2Proof.Machine

/-! Demosaic (06 R175-R179). -/

/-- A window coordinate brought inside the frame by whole CFA periods, the nearest first (06 R175). -/
def wrapIn (v : Int) (period last : Nat) : Nat :=
  if v < 0 then (v + period * (((-v) + (period : Int) - 1) / period)).toNat
  else if v > last then (v - period * ((v - last + (period : Int) - 1) / period)).toNat
  else v.toNat

/-- The window sample at an offset from the output pixel. -/
def winAt (im : Plane Smp) (g : Geo) (fe : List Byte) (x y : Nat) (dx dy : Int) : Smp :=
  px im (wrapIn ((x : Int) + dx) (cfaW fe) g.samples) (wrapIn ((y : Int) + dy) (cfaH fe) g.height)

/-- Offsets of a 9 x 9 window in row-major order. -/
def winOffsets : List (Int × Int) :=
  (List.range 9).flatMap fun (j : Nat) => (List.range 9).map fun (i : Nat) => ((i : Int) - 4, (j : Int) - 4)

/-- The default kernel of a position and channel (06 R179): equal weights on the samples of filter c
at the smallest Chebyshev distance, the remainder on the first. -/
def defaultKernel (fe : List Byte) (p c : Nat) : List Int :=
  let py := p / cfaW fe
  let pxx := p % cfaW fe
  let is (o : Int × Int) : Bool :=
    filterAt fe (((pxx : Int) + o.1 + 4 * (cfaW fe : Int)).toNat) (((py : Int) + o.2 + 4 * (cfaH fe : Int)).toNat) == c
  let dist (o : Int × Int) : Nat := max o.1.natAbs o.2.natAbs
  let best := ((winOffsets.filter is).map dist).foldl min 5
  let hit (o : Int × Int) : Bool := is o && dist o == best
  let n := (winOffsets.filter hit).length
  let first := (winOffsets.zipIdx.find? fun q => hit q.1).map (·.2)
  winOffsets.zipIdx.map fun (o, i) =>
    if hit o then
      ((16384 / n : Nat) : Int) + (if first = some i then ((16384 % n : Nat) : Int) else 0)
    else 0

/-- The 81 coefficients of set s for a position and channel. -/
def kernelOf (p : Pipe) (s pos c : Nat) : List Int :=
  match p.kern[s]? with
  | none => defaultKernel p.fe pos c
  | some l => (l.drop ((pos * filters p.fe + c) * 81)).take 81

/-- R[s][c] (06 R176). -/
def kernelSum (p : Pipe) (g : Geo) (im : Plane Smp) (s c x y : Nat) : Rat :=
  rsum ((winOffsets.zip (kernelOf p s (cfaPos p.fe x y) c)).map fun (o, k) =>
    if k = 0 then 0 else ((k : Int) : Rat) / 16384 * (winAt im g p.fe x y o.1 o.2).val)

/-- Mean gradient along one axis over the window (06 R177). -/
def gradient (p : Pipe) (g : Geo) (im : Plane Smp) (horizontal : Bool) (x y : Nat) : Rat :=
  let step := if horizontal then cfaW p.fe else cfaH p.fe
  let ds := winOffsets.filterMap fun o =>
    let main := if horizontal then o.1 else o.2
    if main ≤ 4 - (step : Int) then
      let o' : Int × Int := if horizontal then (o.1 + (step : Int), o.2) else (o.1, o.2 + (step : Int))
      some (rabs ((winAt im g p.fe x y o.1 o.2).val - (winAt im g p.fe x y o'.1 o'.2).val))
    else none
  rsum ds / ((ds.length : Nat) : Rat)

/-- A pixel of several channels: F24 codes and clip flags. -/
structure Pix where
  v    : List Nat
  clip : List Bool
deriving DecidableEq, Repr, Inhabited

/-- Demosaic of one pixel (06 R176-R178). -/
def demosaicAt (p : Pipe) (g : Geo) (im : Plane Smp) (x y : Nat) : Pix :=
  let n := filters p.fe
  let pos := cfaPos p.fe x y
  let three := p.kern.length == 3
  let gh := if three then gradient p g im true x y else 0
  let gv := if three then gradient p g im false x y else 0
  let s : Rat :=
    if !three || gh + gv ≤ f24Val p.edgeCore then 0
    else min 1 (rabs (gv - gh) / (gh + gv) * ((p.edgeGain : Nat) : Rat) / 16)
  let out (c : Nat) : Nat :=
    let iso := kernelSum p g im 0 c x y
    if s = 0 then f24Round iso
    else f24Round ((1 - s) * iso + s * kernelSum p g im (if gh < gv then 1 else 2) c x y)
  let sets := if three then 3 else 1
  let flag (c : Nat) : Bool := (List.range sets).any fun k =>
    (winOffsets.zip (kernelOf p k pos c)).any fun (o, w) =>
      w != 0 && (winAt im g p.fe x y o.1 o.2).clip
  { v := (List.range n).map out, clip := (List.range n).map flag }

/-! Stages 1 to 4 (06 R181-R188). -/

/-- White balance and highlight treatment (06 R181). -/
def whiteBalance (pr : List Byte) (p : Pix) : List Nat :=
  let wb := p.v.zipIdx.map fun (v, c) => f24Val v * leF24 pr (4 + 4 * c)
  let clipped := ((wb.zip p.clip).filter (·.2)).map (·.1)
  match clipped with
  | m :: rest =>
    if le pr 0 1 = 1 then
      let m := rest.foldl max m
      wb.map fun v => f24Round (max v m)
    else wb.map f24Round
  | [] => wb.map f24Round

/-- Blend weight of a pixel (06 R183). -/
def blendWeight (grid : List Nat) (g : Geo) (x y : Nat) : Rat :=
  let u : Rat := ((x * 31 : Nat) : Rat) / ((g.samples : Nat) : Rat)
  let t : Rat := ((y * 17 : Nat) : Rat) / ((g.height : Nat) : Rat)
  let i := min u.floor.toNat 30
  let j := min t.floor.toNat 16
  let fx := u - ((i : Nat) : Rat)
  let fy := t - ((j : Nat) : Rat)
  let w (j i : Nat) : Rat := (((grid[j * 32 + i]?).getD 0 : Nat) : Rat)
  ((1 - fx) * (1 - fy) * w j i + fx * (1 - fy) * w j (i + 1) +
    (1 - fx) * fy * w (j + 1) i + fx * fy * w (j + 1) (i + 1)) / 32768

/-- Spectral matrices with the blend (06 R182). -/
def spectral (pr : List Byte) (w : Rat) (v : List Nat) : List Nat :=
  let side (mat ofs k : Nat) : Rat :=
    rsum (v.zipIdx.map fun (a, c) => leF24 pr (mat + 4 * (3 * c + k)) * f24Val a) + leF24 pr (ofs + 4 * k)
  (List.range 3).map fun k => f24Round ((1 - w) * side 28 100 k + w * side 112 184 k)

/-- Exposure (06 R186). -/
def exposure (pr : List Byte) (v : List Nat) : List Nat :=
  v.map fun a => f24Round (f24Val a * leF24 pr 196)

/-- The AP0 to AP1 matrix, row-major, as nearest F24 values (06 R187). -/
def ap0ToAp1 : List Rat :=
  [14514393161 / 10000000000, -2365107469 / 10000000000, -2149285693 / 10000000000,
   -765537734 / 10000000000, 11762296998 / 10000000000, -996759264 / 10000000000,
   83161484 / 10000000000, -60324498 / 10000000000, 9977163014 / 10000000000].map
    fun q => f24Val (f24Round q)

/-- Gamut compression of a channel (06 R188). -/
def gamut (pr : List Byte) (a : Rat) (k : Nat) (ch : Rat) : Rat :=
  if a = 0 then ch
  else
    let t := leF24 pr (200 + 4 * k)
    let l := leF24 pr (212 + 4 * k)
    let d := (a - ch) / rabs a
    if t < d then
      let s := (1 - t) * (l - t) / (l - 1)
      let d' := t + (d - t) / (1 + (d - t) / s)
      a - d' * rabs a
    else ch

/-- Conversion to AP1 and compression as one exact expression (06 R187, R188). -/
def toAp1 (pr : List Byte) (v : List Nat) : List Nat :=
  let ch := (List.range 3).map fun r =>
    rsum ((List.range 3).map fun c => ((ap0ToAp1[3 * r + c]?).getD 0) * f24Val ((v[c]?).getD 0))
  let a := match ch with
    | [] => 0
    | h :: t => t.foldl max h
  ch.zipIdx.map fun (x, k) => f24Round (if le pr 2 1 = 1 then gamut pr a k x else x)

/-! Stage 5: look slots (06 R189-R191). -/

/-- The pseudo-logarithm of an F24 code with e at least 1 (06 R190). -/
def pseudoLog (c : Nat) : Rat := ((c / 65536 % 128 : Nat) : Rat) - 63 + ((c % 65536 : Nat) : Rat) / 65536

/-- Creative matrix, input-major (06 R189). -/
def matrix3 (l : List Byte) (off : Nat) (v : List Nat) (ofs : Nat → Rat) : List Nat :=
  (List.range 3).map fun k =>
    f24Round (rsum (v.zipIdx.map fun (a, j) => leF24 l (off + 4 * (3 * j + k)) * f24Val a) + ofs k)

/-- The shaper on one channel (06 R190). -/
def shaper (l : List Byte) (c : Nat) : Nat :=
  let v := f24Val c
  let lmin := signed 8 (le l 40 1)
  let lmax := signed 8 (le l 41 1)
  let s (i : Nat) : Rat := ((le l (64 + 2 * i) 2 : Nat) : Rat) / 65535
  f24Round <|
    if v ≤ pow2 lmin then s 0 + (v - pow2 lmin) * leF24 l 44
    else if pow2 lmax ≤ v then s 4095 + (v - pow2 lmax) * leF24 l 48
    else
      let u := (pseudoLog c - (lmin : Rat)) * 4095 / (((lmax - lmin : Int)) : Rat)
      let i := min u.floor.toNat 4094
      s i + (u - ((i : Nat) : Rat)) * (s (i + 1) - s i)

/-- A LUT node's value of channel k (06 R191, R201). -/
def lutNode (l : List Byte) (n : List Nat) (k : Nat) : Rat :=
  let i := (n[0]?).getD 0 + 65 * ((n[1]?).getD 0) + 4225 * ((n[2]?).getD 0)
  f16Val (le l (8256 + 6 * i + 2 * k) 2)

/-- Axes by falling fraction, ties in the order R, G, B (06 R191). -/
def axisOrder (f : List Rat) : List (Nat × Rat) :=
  (f.zipIdx.map fun (q, i) => (i, q)).foldl (fun l a => insertAxis a l) []
where
  insertAxis (a : Nat × Rat) : List (Nat × Rat) → List (Nat × Rat)
    | [] => [a]
    | b :: l => if b.2 < a.2 then a :: b :: l else b :: insertAxis a l

/-- Tetrahedral interpolation (06 R191). -/
def lut (l : List Byte) (v : List Nat) : List Nat :=
  let co := v.map fun c => rclamp (f24Val c) 0 1 * 64
  let n := co.map fun q => min q.floor.toNat 63
  let f := (co.zip n).map fun (q, i) => q - ((i : Nat) : Rat)
  let ord := axisOrder f
  let up (axes : List Nat) : List Nat := n.zipIdx.map fun (i, a) => if axes.contains a then i + 1 else i
  let ax (i : Nat) : Nat := ((ord[i]?).map (·.1)).getD 0
  let ph (i : Nat) : Rat := ((ord[i]?).map (·.2)).getD 0
  (List.range 3).map fun k => f24Round <|
    (1 - ph 0) * lutNode l n k + (ph 0 - ph 1) * lutNode l (up [ax 0]) k +
    (ph 1 - ph 2) * lutNode l (up [ax 0, ax 1]) k + ph 2 * lutNode l (up [0, 1, 2]) k

/-- Stage 5 with a bank; an empty bank passes its input (06 R189). -/
def look (bank : List Byte) (v : List Nat) : List Nat :=
  let en := le bank 0 1
  let v := if bitOf en 0 then matrix3 bank 4 v (fun _ => 0) else v
  let v := if bitOf en 1 then v.map (shaper bank) else v
  if bitOf en 2 then lut bank v else v

/-! Stage 6: encoding matrix and curves (06 R193-R196). -/

/-- LMIN and LMAX of a curve's table (06 R195). -/
def curveRange : Nat → Int × Int
  | 1 => (-6, 4)
  | 2 => (-20, 4)
  | 3 => (-24, 0)
  | 4 => (-20, 4)
  | 5 => (-7, 16)
  | _ => (-7, 10)

/-- A decimal coefficient held as its nearest F24 value. -/
def f24Const (q : Rat) : Rat := f24Val (f24Round q)

/-- The formula of a curve's table segment at argument a (06 R195, R196). -/
def curveFormula (curve : Nat) (a : Rat) : Rat :=
  match curve with
  | 1 => 1099 / 1000 * rpow a (45 / 100) - 99 / 1000
  | 2 => rpow a (10 / 24)
  | 3 =>
    let y := rpow a (1593017578125 / 10000000000000)
    rpow ((8359375 / 10000000 + 188515625 / 10000000 * y) / (1 + 186875 / 10000 * y)) (7884375 / 100000)
  | 4 =>
    if a ≤ 1 / 12 then rsqrt (3 * a)
    else
      let ha : Rat := 17883277 / 100000000
      ha * rln (12 * a - (1 - 4 * ha)) + (1 / 2 - ha * rln (4 * ha))
  | 5 => (rlog2 a + 972 / 100) / (1752 / 100)
  | _ => 65 / 1000 * rlog2 a + 5768 / 10000

/-- Entry k of a curve's table (06 R194). -/
def curveEntry (curve k : Nat) : Rat :=
  let (lo, hi) := curveRange curve
  f24Val (f24Round (curveFormula curve
    (rexp2 ((lo : Rat) + ((k : Nat) : Rat) * (((hi - lo : Int)) : Rat) / 4096))))

/-- The table segment at an F24 argument (06 R194). -/
def curveTable (curve a : Nat) : Rat :=
  let (lo, hi) := curveRange curve
  let u := (pseudoLog a - (lo : Rat)) * 4096 / (((hi - lo : Int)) : Rat)
  let i := min u.floor.toNat 4095
  curveEntry curve i + (u - ((i : Nat) : Rat)) * (curveEntry curve (i + 1) - curveEntry curve i)

/-- An argument below 2^LMIN scales the first entry; above it the table applies (06 R195). -/
def curveLow (curve : Nat) (arg : Rat) : Rat :=
  let a := f24Round arg
  let lo := (curveRange curve).1
  if f24Val a < pow2 lo then curveEntry curve 0 * f24Val a * pow2 (-lo) else curveTable curve a

/-- The output curve of a value (06 R195), before its one rounding. -/
def curveOf (curve : Nat) (param x : Rat) : Rat :=
  match curve with
  | 0 => x
  | 1 => if x < f24Const (18 / 1000) then f24Const (45 / 10) * x else curveTable 1 (f24Round x)
  | 2 => if x < 0 then 0 else curveLow 2 x
  | 3 => if x < 0 then 0 else curveLow 3 (min (x * param / 10000) 1)
  | 4 => if x < 0 then 0 else curveLow 4 (x * param)
  | 5 =>
    if x ≤ f24Const (78125 / 10000000) then
      f24Const (105402377416545 / 10000000000000) * x + f24Const (729055341958355 / 10000000000000000)
    else curveTable 5 (f24Round x)
  | _ =>
    if x < 0 then f24Const (1200323 / 100000) * x + f24Const (1218 / 10000)
    else curveTable 6 (f24Round (x + 1 / 128))

/-- Stage 6 of a tap (06 R193). -/
def encode6 (t : List Byte) (v : List Nat) : List Nat :=
  (matrix3 t 4 v fun k => leF24 t (40 + 4 * k)).map fun l =>
    f24Round (curveOf (le t 0 1) (leF24 t 52) (f24Val l))

/-- Stages 1 to 4 on a demosaiced pixel with a blend weight. -/
def dalezil (pr : List Byte) (w : Rat) (p : Pix) : List Nat :=
  toAp1 pr (exposure pr (spectral pr w (whiteBalance pr p)))

/-- The picture a COLOUR tap receives: three F24 codes a pixel (06 R171). -/
def colourPlane (fin : FinFrm) (t : TapSnap) : Plane (List Nat) :=
  let im := (frontEnd fin.frm fin.geo fin.pipe fin.ob).img
  plane (fin.geo.samples + 1) (fin.geo.height + 1) fun x y =>
    encode6 t.tapOut (look t.look
      (dalezil fin.pipe.params (blendWeight fin.pipe.grid fin.geo x y)
        (demosaicAt fin.pipe fin.geo im x y)))

/-! The STATS blend grid (06 R184). -/

/-- The updated weight of a node from its zone (06 R184). -/
def nodeUpdate (fin : FinFrm) (im : Plane Smp) (w j i : Nat) : Nat :=
  let fe := fin.pipe.fe
  let pr := fin.pipe.params
  let col : Rat := ((i * fin.geo.samples : Nat) : Rat) / 31
  let line : Rat := ((j * fin.geo.height : Nat) : Rat) / 17
  let zx := iclamp ((col - ((le fe 84 2 : Nat) : Rat)) / ((le fe 88 2 + 1 : Nat) : Rat)).floor 0 (zonesX fe)
  let zy := iclamp ((line - ((le fe 86 2 : Nat) : Rat)) / ((le fe 90 2 + 1 : Nat) : Rat)).floor 0 (zonesY fe)
  let l := zoneSamples fe fin.geo im zx zy
  let num := le pr 224 1
  let den := le pr 225 1
  let mn := f24Val (zoneMean fe num l)
  let md := f24Val (zoneMean fe den l)
  if l.isEmpty || mn ≤ 0 || md ≤ 0 || l.length < 64 * (zoneClipped fe num l + zoneClipped fe den l) then w
  else
    let qa := leF24 pr 228
    let qb := leF24 pr 232
    let t16 := rndAway (rclamp ((mn / md - qa) / (qb - qa)) 0 1 * 32768)
    ((w : Int) + (t16 - (w : Int)) / (2 ^ le pr 226 1 : Int)).toNat

/-- The grid after a frame's update. -/
def gridUpdate (fin : FinFrm) (grid : List Nat) : List Nat :=
  let im := (frontEnd fin.frm fin.geo fin.pipe fin.ob).img
  grid.zipIdx.map fun (w, k) => nodeUpdate fin im w (k / 32) (k % 32)

/-! The known-answer test (11 R312, R313). -/

/-- The generator's n-th state (11 R312). -/
def katState (seed : Nat) : Nat → Nat
  | 0 => seed
  | n + 1 => (katState seed n * 1664525 + 1013904223) % 2 ^ 32

/-- The pattern frame of a port: 16 lines, every stream (11 R312). -/
def katFrame (port : Nat) (g : Geo) : Frm :=
  let code (s k : Nat) : Nat :=
    let seed := (0x2545F491 ^^^ (port * 256)) ^^^ (if s = 1 then 0xFFFF0000 else 0)
    katState seed k / 2 ^ (32 - g.bits)
  { (default : Frm) with
    port
    lines := (List.range g.streams).flatMap fun s => (List.range 16).map fun j =>
      (s, j, packLine g.bits ((List.range (g.samples + 1)).map fun i => code s (j * (g.samples + 1) + i))) }

/-- A structure whose stage 2 subtracts nothing: STAGE_EN without OB (05 R148). -/
def withoutOb (fe : List Byte) : List Byte :=
  fe.take 3 ++ [(fe[3]?).getD 0 &&& 0xFE] ++ fe.drop 4

/-- The expected known-answer CRC: stage 6 of the eight taps, with a blend weight of one half and
without the optical-black estimate (11 R312, R313). -/
def katExpected (port : Nat) (g : Geo) (p : Pipe) (tapOut : List (List Byte)) (banks : List (List Byte)) :
    Word :=
  let g := { g with height := 15 }
  let p := { p with fe := withoutOb p.fe }
  let im := (frontEnd (katFrame port g) g p (List.replicate 12 0)).img
  let base := plane (g.samples + 1) 16 fun x y =>
    dalezil p.params (1 / 2) (demosaicAt p g im x y)
  crc32c ((List.range 8).flatMap fun t => (List.range 16).flatMap fun y =>
    (List.range (g.samples + 1)).flatMap fun x =>
      (encode6 ((tapOut[t]?).getD []) (look ((banks[t]?).getD []) (px base x y))).flatMap fun c => toLE 3 c)

end Sys2Proof.Machine
end

