-- ==== Sys2Proof/Machine/TapPix.lean ====
section
/-!
DEFINITION. Machine/TapPix.lean: what a tap makes of a frame (07 R208-R216): crop, scaling,
Y'CbCr, subsampling, quantisation, packing, and frame decimation.
-/
namespace Sys2Proof.Machine

/-! Fields of the TAP_CONFIG structure (07 R218). -/

def tapSource (c : List Byte) : Nat := le c 0 1
def tapPort (c : List Byte) : Nat := le c 1 1
def tapFormat (c : List Byte) : Nat := le c 2 1
def tapFull (c : List Byte) : Bool := bitOf (le c 3 1) 0
def tapMatrix (c : List Byte) : Nat := bitsOf (le c 3 1) 1 2
def tapSiting (c : List Byte) : Bool := bitOf (le c 3 1) 3
def cropX (c : List Byte) : Nat := le c 4 2
def cropY (c : List Byte) : Nat := le c 6 2
def cropW (c : List Byte) : Nat := le c 8 2
def cropH (c : List Byte) : Nat := le c 10 2
def outW (c : List Byte) : Nat := le c 12 2
def outH (c : List Byte) : Nat := le c 14 2
def hTaps (c : List Byte) : Nat := le c 16 1
def vTaps (c : List Byte) : Nat := le c 17 1
def coefSrc (c : List Byte) : Nat := le c 18 1
def decK (c : List Byte) : Nat := le c 20 1 + 1
def decM (c : List Byte) : Nat := le c 21 1 + 1
def decAnchor (c : List Byte) : Nat := le c 24 4
def tapFps (c : List Byte) : Nat := le c 28 2

/-- Frame decimation by number (07 R216). -/
def decPass (k m anchor f : Nat) : Bool := decide (((f + 2 ^ 32 - anchor) % 2 ^ 32 % m) * k % m < k)

/-- Least distance of triggers that a tap passes, in ns (07 R216): the product with K x FPS_MAX. -/
def tapSpaced (c : List Byte) (last : Option Nat) (t : Nat) : Bool :=
  match last with
  | none => true
  | some l => decide (1000000000 * decM c ≤ (t - l + 40) * (decK c * tapFps c))

/-! Scaling (07 R211, R212). -/

/-- Weights of the built-in filter of n taps at phase k (07 R212), before rounding. -/
def lanczos (n k : Nat) : List Rat :=
  let ph : Rat := ((k : Nat) : Rat) / 64
  if n = 2 then [1 - ph, ph]
  else (List.range n).map fun (t : Nat) =>
    let dt : Rat := ((t : Nat) : Rat) - (((n / 2 : Nat) : Rat) - 1) - ph
    let x := 4 * dt / ((n : Nat) : Rat)
    if rabs x < 2 then sinc x * sinc (x / 2) else 0

/-- Built-in coefficients: rounded, the remainder on the largest, lowest tap first (07 R212). -/
def builtCoefs (n k : Nat) : List Int :=
  let w := lanczos n k
  let c := w.map fun q => rndAway (16384 * q / rsum w)
  let rest := 16384 - c.foldl (· + ·) 0
  let mx := match c with
    | [] => 0
    | h :: t => t.foldl max h
  let at' := (c.zipIdx.find? fun q => q.1 == mx).map (·.2)
  c.zipIdx.map fun (v, i) => if at' = some i then v + rest else v

/-- Coefficients of a tap's filter at a phase: built in, or loaded at offset 128 (07 R212, R218). -/
def coefs (c : List Byte) (vertical : Bool) (k : Nat) : List Int :=
  let n := if vertical then vTaps c else hTaps c
  if coefSrc c = 0 then builtCoefs n k
  else
    let base := 128 + (if vertical then 128 * hTaps c else 0) + k * n * 2
    (List.range n).map fun t => signed 16 (le c (base + 2 * t) 2)

/-- Centre and phase of an output index (07 R211). -/
def scalePlace (o crop out : Nat) : Int × Nat :=
  let p : Rat := ((((2 * o + 1) * (crop + 1) : Nat) : Rat) - ((out + 1 : Nat) : Rat)) / ((2 * (out + 1) : Nat) : Rat)
  let n0 := p.floor
  let k := (rndUp (64 * (p - (n0 : Rat)))).toNat
  if k = 64 then (n0 + 1, 0) else (n0, k)

/-- One filtered value, rounded once (07 R211). -/
def scaleAt (c : List Byte) (vertical : Bool) (o crop out : Nat) (v : Nat → Nat) : Nat :=
  let (n0, k) := scalePlace o crop out
  let cs := coefs c vertical k
  let half : Int := ((cs.length / 2 : Nat) : Int)
  f24Round (rsum (cs.zipIdx.map fun (w, t) =>
    ((w : Int) : Rat) / 16384 * f24Val (v (iclamp (n0 - half + 1 + (t : Int)) 0 crop))))

/-- The scaled picture of a COLOUR tap, F24 codes: vertical first, then horizontal (07 R210). -/
def scaled (c : List Byte) (src : Plane (List Nat)) : Plane (List Nat) :=
  let at' (p : Plane (List Nat)) (x y k : Nat) : Nat := ((px p x y)[k]?).getD 0
  let v := plane (cropW c + 1) (outH c + 1) fun x y => (List.range 3).map fun k =>
    scaleAt c true y (cropH c) (outH c) fun l => at' src (cropX c + x) (cropY c + l) k
  plane (outW c + 1) (outH c + 1) fun x y => (List.range 3).map fun k =>
    scaleAt c false x (cropW c) (outW c) fun l => at' v l y k

/-! Y'CbCr and quantisation (07 R214, R215). -/

def kr (m : Nat) : Rat := if m = 0 then 2126 / 10000 else 2627 / 10000
def kb (m : Nat) : Rat := if m = 0 then 722 / 10000 else 593 / 10000

/-- Y, Cb, Cr of an R, G, B pixel, each coefficient its nearest F24 value (07 R214). -/
def ycc (m : Nat) (p : List Nat) : List Nat :=
  let r := f24Val ((p[0]?).getD 0)
  let g := f24Val ((p[1]?).getD 0)
  let b := f24Val ((p[2]?).getD 0)
  let y := f24Const (kr m) * r + f24Const (1 - kr m - kb m) * g + f24Const (kb m) * b
  [f24Round y, f24Round ((b - y) * f24Const (1 / (2 * (1 - kb m)))),
   f24Round ((r - y) * f24Const (1 / (2 * (1 - kr m))))]

/-- Code of a component or a colour difference (07 R215). -/
def quantQ (full chroma : Bool) (n : Nat) (e : Rat) : Nat :=
  let s : Rat := ((2 ^ (n - 8) : Nat) : Rat)
  let top : Rat := ((2 ^ n - 1 : Nat) : Rat)
  match full, chroma with
  | false, false => iclamp (rndUp (s * (219 * e + 16))) (2 ^ (n - 8)) (2 ^ n - 2 ^ (n - 8) - 1)
  | false, true => iclamp (rndUp (s * (224 * e + 128))) (2 ^ (n - 8)) (2 ^ n - 2 ^ (n - 8) - 1)
  | true, false => iclamp (rndUp (top * e)) 0 (2 ^ n - 1)
  | true, true => iclamp (rndUp (top * e + ((2 ^ (n - 1) : Nat) : Rat))) 0 (2 ^ n - 1)

def quant (full chroma : Bool) (n code : Nat) : Nat := quantQ full chroma n (f24Val code)

/-- Horizontal chroma at an even column: (1, 2, 1) / 4, edges repeated (07 R214). -/
def chromaH (w : Nat) (p : Plane (List Nat)) (x y k : Nat) : Nat :=
  let v (x : Int) : Rat := f24Val (((px p (iclamp x 0 (w - 1)) y)[k]?).getD 0)
  f24Round ((v ((x : Int) - 1) + 2 * v x + v ((x : Int) + 1)) / 4)

/-- Vertical chroma of line pair j (07 R214). -/
def chromaV (c : List Byte) (h : Nat) (col : Nat → Nat) (j : Nat) : Nat :=
  let v (y : Int) : Rat := f24Val (col (iclamp y 0 (h - 1)))
  if tapSiting c then f24Round ((v (2 * (j : Int) - 1) + 2 * v (2 * (j : Int)) + v (2 * (j : Int) + 1)) / 4)
  else f24Round ((v (2 * (j : Int)) + v (2 * (j : Int) + 1)) / 2)

/-! Formats (07 R213). -/

/-- Whether a source may carry a format. -/
def formatOk (source fmt : Nat) : Bool :=
  match source with
  | 0 => [0x01, 0x02, 0x03, 0x04, 0x10, 0x11, 0x12, 0x13, 0x14].contains fmt
  | 1 => fmt == 0x20 || fmt == 0x21
  | 2 => fmt == 0x22
  | _ => false

/-- Bytes of one line of each plane, before the pitch is rounded, and the lines of each plane. -/
def planeShape (fmt w h bits streams : Nat) : List (Nat × Nat) :=
  match fmt with
  | 0x01 => [(8 * w, h)]
  | 0x02 => [(4 * w, h)]
  | 0x03 => [(3 * w, h)]
  | 0x04 => [(6 * w, h)]
  | 0x10 => [(w, h), (w, h / 2)]
  | 0x11 => [(2 * w, h), (2 * w, h / 2)]
  | 0x12 => [(w, h), (w, h)]
  | 0x13 => [(2 * w, h), (2 * w, h)]
  | 0x14 => [(2 * w, h), (2 * w, h), (2 * w, h)]
  | 0x20 => List.replicate streams ((w * bits + 7) / 8, h)
  | 0x21 => List.replicate streams (2 * w, h)
  | _ => [(2 * w, h)]

/-- A line pitch: rounded up to 256 bytes (07 R213). -/
def pitchOf (n : Nat) : Nat := (n + 255) / 256 * 256

/-- Bytes of all planes of a picture. -/
def planesBytes (shape : List (Nat × Nat)) : Nat :=
  shape.foldl (fun n (b, h) => n + pitchOf b * h) 0

/-- Slot stride of a host ring (07 R220). -/
def ringStride (shape : List (Nat × Nat)) : Nat := (4096 + planesBytes shape + 4095) / 4096 * 4096

/-- Rows of a plane laid out at the pitch. -/
def layRows (rowBytes : Nat) (rows : List (List Byte)) : List Byte :=
  rows.flatMap fun r => fit (pitchOf rowBytes) r

/-- Codes of one line of a RAW_PORT tap's stream, cropped. -/
def rawRow (fin : FinFrm) (c : List Byte) (s y : Nat) : List Nat :=
  (((codesOf fin.frm fin.geo fin.pipe.fe s (cropY c + y)).2).drop (cropX c)).take (cropW c + 1)

/-- The planes of a tap's picture (07 R213). -/
def tapPlanes (fin : FinFrm) (t : TapSnap) : List Byte :=
  let c := t.cfg
  let w := outW c + 1
  let h := outH c + 1
  let fmt := tapFormat c
  let shape := planeShape fmt w h fin.geo.bits fin.geo.streams
  let row (i : Nat) : Nat := ((shape[i]?).map (·.1)).getD 0
  match tapSource c with
  | 1 =>
    (List.range fin.geo.streams).flatMap fun s => layRows (row s) ((List.range h).map fun y =>
      if fmt = 0x20 then packLine fin.geo.bits (rawRow fin c s y)
      else (rawRow fin c s y).flatMap (toLE 2))
  | 2 =>
    let im := (frontEnd fin.frm fin.geo fin.pipe fin.ob).img
    layRows (row 0) ((List.range h).map fun y => (List.range w).flatMap fun x =>
      toLE 2 (f16Round (px im (cropX c + x) (cropY c + y)).val))
  | _ =>
    let p := scaled c (colourPlane fin t)
    let at' (p : Plane (List Nat)) (x y k : Nat) : Nat := ((px p x y)[k]?).getD 0
    let q (n x y k : Nat) : Nat := quant (tapFull c) false n (at' p x y k)
    let rows (f : Nat → List Byte) (n : Nat) : List (List Byte) := (List.range n).map f
    match fmt with
    | 0x01 => layRows (row 0) (rows (fun y => (List.range w).flatMap fun x =>
        ((List.range 3).flatMap fun k => toLE 2 (f16Round (f24Val (at' p x y k)))) ++ toLE 2 0x3C00) h)
    | 0x02 => layRows (row 0) (rows (fun y => (List.range w).flatMap fun x =>
        toLE 4 (q 10 x y 0 + q 10 x y 1 * 2 ^ 10 + q 10 x y 2 * 2 ^ 20 + 3 * 2 ^ 30)) h)
    | 0x03 => layRows (row 0) (rows (fun y => (List.range w).flatMap fun x =>
        (List.range 3).flatMap fun k => toLE 1 (q 8 x y k)) h)
    | 0x04 => layRows (row 0) (rows (fun y => (List.range w).flatMap fun x =>
        (List.range 3).flatMap fun k => toLE 2 (q 16 x y k)) h)
    | _ =>
      let yc := plane w h fun x y => ycc (tapMatrix c) (px p x y)
      let n := if fmt = 0x10 || fmt = 0x12 then 8 else 10
      let put (code : Nat) : List Byte := if n = 8 then toLE 1 code else toLE 2 (code * 64)
      let luma := layRows (row 0) (rows (fun y => (List.range w).flatMap fun x =>
        put (quant (tapFull c) false n (at' yc x y 0))) h)
      let qc (v : Nat) : List Byte := put (quant (tapFull c) true n v)
      if fmt = 0x14 then
        luma ++ layRows (row 1) (rows (fun y => (List.range w).flatMap fun x => qc (at' yc x y 1)) h) ++
          layRows (row 2) (rows (fun y => (List.range w).flatMap fun x => qc (at' yc x y 2)) h)
      else
        let half := plane (w / 2) h fun x y => [chromaH w yc (2 * x) y 1, chromaH w yc (2 * x) y 2]
        if fmt = 0x12 || fmt = 0x13 then
          luma ++ layRows (row 1) (rows (fun y => (List.range (w / 2)).flatMap fun x =>
            qc (at' half x y 0) ++ qc (at' half x y 1)) h)
        else
          luma ++ layRows (row 1) (rows (fun j => (List.range (w / 2)).flatMap fun x =>
            (List.range 2).flatMap fun k => qc (chromaV c h (fun y => at' half x y k) j)) (h / 2))

/-- The frame-start checks of a tap (07 R209): the window, the CFA alignment, and the planes taken. -/
def tapFits (c : List Byte) (bits streams : Nat) (g : Geo) (fe : List Byte) : Bool :=
  decide (cropX c + cropW c ≤ g.samples) && decide (cropY c + cropH c ≤ g.height) &&
  (tapSource c == 0 ||
    (cropX c % cfaW fe == 0 && (cropW c + 1) % cfaW fe == 0 && cropY c % cfaH fe == 0 &&
      (cropH c + 1) % cfaH fe == 0)) &&
  (tapSource c != 1 ||
    (decide (g.streams ≤ streams) &&
      decide (ringStride (planeShape (tapFormat c) (outW c + 1) (outH c + 1) g.bits g.streams) ≤
        ringStride (planeShape (tapFormat c) (outW c + 1) (outH c + 1) bits streams))))

end Sys2Proof.Machine
end

