-- ==== Sys2Proof/Machine/Offer.lean ====
section
/-!
DEFINITION. Machine/Offer.lean: handing an access unit, a frame record or a period from its source to the
recordings and flows that take it (13 R349, 14 R378-R382, 01 R15), and ending MEDIA_READ early (13 R359).
-/
namespace Sys2Proof.Machine

/-! Checks and segments (11 R303, R304). -/

/-- One byte step of a reflected CRC-64. -/
def crc64Byte (poly : Dword) (c : Dword) (b : Byte) : Dword :=
  let step (c : Dword) : Dword := if c.getLsbD 0 then (c >>> 1) ^^^ poly else c >>> 1
  step <| step <| step <| step <| step <| step <| step <| step (c ^^^ b.setWidth 64)

def crc64 (poly : Dword) (l : List Byte) : Dword :=
  l.foldl (crc64Byte poly) 0xFFFFFFFFFFFFFFFF ^^^ 0xFFFFFFFFFFFFFFFF

/-- CRC-64/XZ: 0x42F0_E1EB_A9EA_3693 reflected. -/
def crc64Xz (l : List Byte) : Dword := crc64 0xC96C5795D7870F42 l

/-- The 64-bit NVMe guard: 0xAD93_D235_94C9_3659 reflected. -/
def crc64Nvme (l : List Byte) : Dword := crc64 0x9A6C9329AC4BC9B5 l

/-- Lengths of the segments of n bytes, 65,536 each but the last. -/
def segsOf (n : Nat) : List Nat :=
  (List.range (divUp n 65536)).map fun i => min 65536 (n - 65536 * i)

/-- Bytes cut into pieces of given lengths. -/
def cutBytes : List Nat → List Byte → List (List Byte)
  | [], _ => []
  | n :: ns, l => l.take n :: cutBytes ns (l.drop n)

/-- Bytes cut into pieces of n, the last shorter. -/
def pieces (n : Nat) (l : List Byte) : List (List Byte) :=
  (List.range (divUp l.length n)).map fun i => (l.drop (n * i)).take n

/-! Fields of FLOW_OPEN (14 R379). -/

def flKind (c : List Byte) : Nat := le c 0 1
def flPorts (c : List Byte) : Nat := le c 1 1
def flSender (c : List Byte) : Nat := le c 2 1
def flVlan (c : List Byte) : Nat := le c 4 2
def flMtu (c : List Byte) : Nat := le c 6 2
def flPt (c : List Byte) : Nat := le c 22 1
def flPrio (c : List Byte) : Nat := le c 23 1
def flSsrc (c : List Byte) : Nat := le c 24 4
def flTro (c : List Byte) : Nat := le c 28 4
def flNum (c : List Byte) : Nat := le c 32 4
def flDen (c : List Byte) : Nat := le c 36 4

def modFlow (slot : Nat) (f : Flow → Flow) (d : Dev) : Dev := { d with flows := tabMod d.flows slot f }
def flowOf (d : Dev) (h : Nat) : Option (Nat × Flow) := d.flows.find? fun p => p.2.handle == h

def net (d : Dev) (n : NetId) : NetPort := d.nets[n]
def modNet (n : NetId) (f : NetPort → NetPort) (d : Dev) : Dev := { d with nets := d.nets.set n (f (net d n)) }

/-- Count in a network counter, numbered as 14 R389 numbers them. -/
def bumpNet (n : NetId) (i k : Nat) (d : Dev) : Dev :=
  modNet n (fun x => { x with cnt := x.cnt.setIfInBounds (i - 1) (min (x.cnt.getD (i - 1) 0 + k) (2 ^ 64 - 1)) }) d

def big (n v : Nat) : List Byte := (toLE n v).reverse

/-- RTP timestamp of an instant (14 R382). -/
def rtpStamp (ns rate : Nat) : Nat := ns * rate / 1000000000 % 2 ^ 32

/-- An RTP packet of a flow: the header of RFC 3550 and the payload. -/
def rtpPacket (c : List Byte) (seq ts : Nat) (marker : Bool) (payload : List Byte) : List Byte :=
  [0x80, BitVec.ofNat 8 (flPt c % 128 + b2n marker * 128)] ++ big 2 seq ++ big 4 ts ++ big 4 (flSsrc c) ++ payload

/-- The ports a flow names. -/
def portsOf (f : Flow) : List NetId := (List.finRange 2).filter fun n => bitOf (flPorts f.cfg) n.val

/-- A frame goes out of a port at once: media packets leave within their reservations, ahead of what waits (14 R366). -/
def netOut (n : NetId) (kind : Nat) (bytes : List Byte) (d : Dev) : Dev := emit (.net n.val kind bytes) (bumpNet n 2 1 d)

/-- The packets of a flow whose instant has come leave on each named port whose link is up (14 R378, R382). -/
def flowPump (slot : Nat) (d : Dev) : Dev :=
  match tabGet d.flows slot with
  | none => d
  | some f =>
    let go := f.tx.takeWhile fun x => decide (x.1 ≤ d.tu.ns)
    let live := (portsOf f).filter fun n => (net d n).up
    let d := go.foldl (fun d x => live.foldl (fun d n => netOut n 3 x.2 d) d) d
    modFlow slot (fun f => { f with
      tx := f.tx.drop go.length, sent := f.sent + (if live.isEmpty then 0 else go.length) }) d

/-- Every flow sends what is due. -/
def pumpFlows (d : Dev) : Dev := d.flows.foldl (fun d p => flowPump p.1 d) d

/-- Packets of one frame, access unit or period, spread evenly over a span from an instant (14 R378, R379, R382); a frame that
finds every named port's link down is discarded and counted (01 R15). -/
def sendPackets (slot num ts : Nat) (last : Bool) (payloads : List (List Byte)) (start span : Nat) (d : Dev) : Dev :=
  match tabGet d.flows slot with
  | none => d
  | some f =>
    let k := payloads.length
    let d := ((portsOf f).filter fun n => !(net d n).up).foldl (fun d n => bumpNet n 13 1 d) d
    let dead := (portsOf f).all fun n => !(net d n).up
    let pkts := payloads.zipIdx.map fun (p, i) =>
      (start + span * i / k, rtpPacket f.cfg ((f.seq + i) % 2 ^ 16) ts (last && i + 1 == k) p)
    let d := modFlow slot (fun f => { f with
      seq := (f.seq + k) % 2 ^ 32, busy := if dead then f.busy else start + span
      tx := if dead then f.tx else f.tx ++ pkts }) d
    if dead then raise evNetwork 4 f.handle (num % 2 ^ 32 + 2 * 2 ^ 32) d else flowPump slot d

/-- The time that packets take at a flow's reserved rate, in ns (14 R380, R382). -/
def reservedSpan (d : Dev) (f : Flow) (payloads : List (List Byte)) : Nat :=
  let wire := 86 + (if bitOf (flVlan f.cfg) 15 then 4 else 0)
  match d.evt.resv.find? fun r => r.owner == f.handle && r.cls == rcNet with
  | some r => divUp ((payloads.map fun p => p.length + wire).sum * 8000) (max 1 r.cur)
  | none => 0

/-- Payloads of a COMPRESSED flow: RFC 7798 or the AV1 format, or Holm Raw with its 8-byte header (14 R381). -/
def unitPayloads (c : List Byte) (codec total off : Nat) (bytes : List Byte) : List (List Byte) :=
  match codec with
  | 2 => (pieces (max 1 (flMtu c)) bytes).zipIdx.map fun (p, i) =>
      big 4 (off + max 1 (flMtu c) * i) ++ big 4 total ++ p
  | k => Config.rtpPayloads (k == 1) (flMtu c) bytes

def specFlowClose : CmdSpec where
  op := .flowClose
  layout := [(32, 0, 8)]
  checks e := [(32, decide (fld e 32 1 ≤ 1))]
  handle := .body

/-- A FLOW_CLOSE of a flow has been fetched: it takes nothing completed after that (14 R384). -/
def flowShut (d : Dev) (h : Nat) : Bool :=
  d.host.outst.any fun c => c.op == .flowClose && c.e.handle.toNat == h && (specCheck specFlowClose c).isNone

/-- The flows of a kind with a source that still take what it completes. -/
def flowsOf (d : Dev) (h kind : Nat) : List (Nat × Flow) :=
  d.flows.filter fun p => p.2.src == h && flKind p.2.cfg == kind && p.2.closing.isEmpty && !flowShut d p.2.handle

/-- A COMPRESSED flow of the session has no port whose link is up. -/
def flowsDrop (d : Dev) (h : Nat) : Bool :=
  (flowsOf d h 1).any fun p => !((List.finRange 2).any fun n => bitOf (flPorts p.2.cfg) n.val && (net d n).up)

/-- An access unit, or a row of a DIRECT one, leaves on the COMPRESSED flows of its source, paced at the reserved rate (14
R382). -/
def offerCompressed (h codec num pts : Nat) (last : Bool) (bytes : List Byte) (d : Dev) : Dev :=
  (flowsOf d h 1).foldl (fun d p =>
    let payloads := unitPayloads p.2.cfg codec bytes.length 0 bytes
    sendPackets p.1 num (rtpStamp pts 90000) last payloads (max d.tu.ns p.2.busy) (reservedSpan d p.2 payloads) d) d

/-- A frame record waits on the ANC flows of its source (14 R381, R382). -/
def offerMeta (h : Nat) (u : AuOut) (d : Dev) : Dev :=
  (flowsOf d h 4).foldl (fun d p => modFlow p.1 (fun f => { f with ready := f.ready ++ [(d.tu.ns, u)] }) d) d

/-- A source's unit waits for the recordings that take it (13 R349). -/
def offerRec (h : Nat) (u : AuOut) (d : Dev) : Dev :=
  { d with recs := d.recs.map fun (k, s) =>
    let take := (List.range s.srcs.length).filter fun i => (s.srcs[i]?).any fun x => x.handle == h
    (k, if s.closing || s.state = 2 then s
      else { s with ready := s.ready ++ take.map fun i => (i, { u with at' := d.tu.ns }) }) }

/-- The frame record of the metadata, with an axis record (08 R244). -/
def metaRecord (f : Frm) (axis : List Byte) (sweepStart key : Bool) : List Byte :=
  [0x46, 0x56, 0x4D, 0x44] ++
  pack [(1, 1), (1, b2n (!axis.isEmpty) + b2n sweepStart * 2 + b2n key * 4), (1, f.port), (1, 0), (4, f.num), (4, f.status)] ++
  expBytes f ++ pack [(2, axis.length), (14, 0)] ++ axis

/-- The frame record of a frame for an ANC flow: with its axis record (14 R381). -/
def offerFrameMeta (h : Nat) (f : Frm) (sweepStart key : Bool) (d : Dev) : Dev :=
  offerMeta h
    { num := f.num, status := f.status, pts := expStart f, rap := key, damaged := false
      bytes := metaRecord f ((axisRecord d f.port f.num).take 3840) sweepStart key, segs := [] } d

/-! MEDIA_READ (13 R359). -/

/-- EXT_RESULT of a MEDIA_READ. -/
def readExt (r : MediaRead) (early : Bool) : Nat :=
  r.moved % 2 ^ 32 + r.failed.getD 0xFFFFFFFF % 2 ^ 32 * 2 ^ 32 + b2n early * 2 ^ 64

/-- A MEDIA_READ completes. -/
def readEnd (r : MediaRead) (st : Nat) (early : Bool) (d : Dev) : Dev :=
  completeTag (some r.cmd) st (r.count % 2 ^ 32 + r.lost % 2 ^ 32 * 2 ^ 32) (readExt r early)
    { d with reads := d.reads.filter fun x => x.cmd != r.cmd }

/-- A read stops early: after the item in delivery, or at its next 4 KiB boundary (13 R359). -/
def stopRead (r : MediaRead) (d : Dev) : Dev :=
  if r.items || r.moved % 4096 = 0 then readEnd r stSuccess true d
  else { d with reads := d.reads.map fun x => if x.cmd = r.cmd then { x with stop := true } else x }

/-- Reads stop early. -/
def stopReads (which : MediaRead → Bool) (d : Dev) : Dev := (d.reads.filter which).foldl (fun d r => stopRead r d) d

end Sys2Proof.Machine
end

