-- ==== Sys2Proof/Machine/Isle.lean ====
section
/-!
DEFINITION. Machine/Isle.lean: an Isle's frames: shadow copies and when they become active, statistics
subscriptions and records, taps and their rings, the known-answer test, and the commands that load all
of these (05, 06, 07, 11).
-/
namespace Sys2Proof.Machine

def ctxOf (d : Dev) (i : IsleId) (p : PortId) : IsleCtx := (isle d i).ctx[p]
def modCtx (i : IsleId) (p : PortId) (f : IsleCtx → IsleCtx) (d : Dev) : Dev :=
  modIsle i (fun k => { k with ctx := k.ctx.set p (f k.ctx[p]) }) d
def modPipe (i : IsleId) (p : PortId) (f : Pipe → Pipe) (d : Dev) : Dev :=
  modCtx i p (fun c => { c with pipe := f c.pipe }) d
def tapOf (d : Dev) (i : IsleId) (t : TapId) : Tap := (isle d i).taps[t]
def modTap (i : IsleId) (t : TapId) (f : Tap → Tap) (d : Dev) : Dev :=
  modIsle i (fun k => { k with taps := k.taps.set t (f k.taps[t]) }) d

/-- A tap by a number below 8. -/
def tapIdx (n : Nat) : TapId := ⟨n % 8, Nat.mod_lt _ (by decide)⟩
/-- Handles (02 R52). -/
def isleHandle (i : IsleId) : Nat := mkHandle 4 0 i.val
def tapHandle (i : IsleId) (t : TapId) : Nat := mkHandle 5 0 (8 * i.val + t.val)
/-- Owner of a statistics subscription's reservations. -/
def statOwner (i : IsleId) (p : PortId) : Nat := 0x04000200 + 4 * i.val + p.val

/-- The port's geometry (04 R117). -/
def geoOf (k : Port) : Geo := { bits := k.bits, streams := k.streams, samples := k.samples, height := k.height }

/-! Shadow copies (05 R158-R161). -/

/-- A geometry change of ISLE_CONFIG (05 R158). -/
def geometryChange (old new : List Byte) : Bool :=
  le old 0 1 != le new 0 1 || le old 1 1 != le new 1 1 || le old 2 1 != le new 2 1 ||
  le old 50 2 != le new 50 2 || le old 58 1 != le new 58 1 || le old 59 1 != le new 59 1

/-- A new structure; a geometry change resets tables, kernels, PARAMS and the grid (05 R158, 06 R203). -/
def installFe (fe : List Byte) (p : Pipe) : Pipe :=
  if geometryChange p.fe fe then
    { fe
      shading := List.replicate (filters fe * shadeGx fe * shadeGy fe) 4096
      xtalk := xtalkDefault (cfaW fe * cfaH fe) }
  else { p with fe }

/-- Signed 16-bit words of a table. -/
def words16 (l : List Byte) : List Nat :=
  (List.range (l.length / 2)).map fun i => le l (2 * i) 2

/-- A new structure leaves the tap's host ring as it is: its fields are the same (07 R221). -/
def ringKept (old : Tap) (cfg : List Byte) : Bool :=
  old.ring.isSome && le cfg 32 8 != 0 && (old.cfg.drop 32).take 14 == (cfg.drop 32).take 14

/-- A tap's host ring under a new structure: none, kept with its numbering while its fields are the
same, or new (07 R220, R221). -/
def newRing (old : Tap) (cfg : List Byte) (bits streams : Nat) : Option HRing :=
  if le cfg 32 8 = 0 then none
  else
    let stride := ringStride (planeShape (tapFormat cfg) (outW cfg + 1) (outH cfg + 1) bits streams)
    let kept := if ringKept old cfg then old.ring else none
    some { slots := le cfg 42 2, vector := le cfg 44 2, stride, seq := (kept.map HRing.seq).getD 0, prio := le cfg 30 1
           wrote := (kept.map HRing.wrote).getD [] }

/-! Writing a host ring (05 R167, 07 R220). -/

/-- Slot of a sequence number in a ring of slots + 1 (05 R167). -/
def ringSlot (slots seq : Nat) : Nat := (seq - 1) % (slots + 1)

/-- The first write of a record: SEQ with BUSY = 1 and the number the slot held before, 0 for a slot not yet written (05
R167; the 0 is a DESIGN CHOICE, log 82). -/
def ringBusy (owner slots seq : Nat) (wrote : List (Nat × Nat)) : Out :=
  .ringPart owner (ringSlot slots seq) 0 (toLE 8 ((tabGet wrote (ringSlot slots seq)).getD 0 % 2 ^ 63 + 2 ^ 63))

/-- The 4,096-byte header of a ring slot (07 R220). -/
def ringHeader (i : IsleId) (t : TapId) (tf : TapFin) (axis : List Byte) (seq : Nat) : List Byte :=
  let c := tf.snap.cfg
  let g := tf.fin.geo
  let shape := planeShape (tapFormat c) (outW c + 1) (outH c + 1) g.bits g.streams
  let pitch (k : Nat) : Nat := ((shape[k]?).map fun s => pitchOf s.1).getD 0
  let ofs (k : Nat) : Nat := if k < shape.length then 4096 + planesBytes (shape.take k) else 0
  pack [(8, seq % 2 ^ 63), (4, tf.fin.frm.num), (4, tf.fin.frm.status)] ++ expBytes tf.fin.frm ++
  pack [(1, tf.fin.frm.port), (1, tapFormat c), (1, 8 * i.val + t.val), (1, 0), (2, outW c), (2, outH c),
    (4, pitch 0), (4, pitch 1), (4, pitch 2), (4, ofs 1), (4, ofs 2), (196, 0)] ++
  fit 3840 axis

/-- A frame that a tap's ring drops: counted, with its sequence number used (07 R220). -/
def tapDropped (i : IsleId) (t : TapId) (num seq : Nat) (d : Dev) : Dev :=
  raise evPipeline 0x10 (tapHandle i t) (num + seq % 2 ^ 31 * 2 ^ 32)
    (modTap i t (fun k => { k with dropped := k.dropped + 1 }) d)

/-- TAP_RING_FRAME_DONE (07 R220): rows, then the header, then the message; where delivery has stopped since the frame
began, the frame is discarded with its sequence number used (02 R562). -/
def tapRingFrameDone (i : IsleId) (t : TapId) (d : Dev) : Dev :=
  let tp := tapOf d i t
  match tp.ring, tp.out with
  | some r, some (seq, tf) =>
    if deliversFrom tf.fin.ep d then
      let slot := ringSlot r.slots seq
      let d := modTap i t (fun k => { k with
        out := none, ring := some { r with wrote := tabSet r.wrote slot seq } }) d
      notify r.vector (emit (.ring (tapHandle i t) slot seq
        (ringHeader i t tf (axisRecord d tf.fin.frm.port tf.fin.frm.num) seq ++ tapPlanes tf.fin tf.snap)) d)
    else tapDropped i t tf.fin.frm.num seq (modTap i t (fun k => { k with out := none }) d)
  | _, _ => d

def execTapRingFrameDone (i : IsleId) (tap : TapId) (s : State) : Host.Outcome State Fault Refusal :=
  .next (s.mapDev (tapRingFrameDone i tap))

/-- A tap's ring ends: the frame in writing is finished into it, and a frame in process no longer goes there. -/
def ringLeaves (i : IsleId) (t : TapId) (d : Dev) : Dev :=
  let d := tapRingFrameDone i t d
  modIsle i (fun k => { k with ctx := k.ctx.map fun (c : IsleCtx) => { c with
    run := c.run.map fun r => { r with
      taps := r.taps.zipIdx.map fun (s, u) => if u = t.val then s.map fun x => { x with slot := none } else s } } }) d

/-! Attachments (07 R217). -/

/-- A tap by its handle. -/
def tapByHandle (h : Nat) : Option (IsleId × TapId) :=
  if hType h = 5 && hIdx h < 32 then some (isleOf (hIdx h / 8), tapIdx (hIdx h)) else none

/-- Attach an object to a tap. -/
def attach (h kind obj : Nat) (d : Dev) : Dev :=
  match tapByHandle h with
  | some (i, t) => modTap i t (fun k => { k with att := k.att ++ [(kind, obj)] }) d
  | none => d

/-- Detach an object from every tap. -/
def detach (obj : Nat) (d : Dev) : Dev :=
  (List.finRange 4).foldl (fun d i => (List.finRange 8).foldl (fun d t =>
    if (tapOf d i t).att.any fun a => a.2 == obj then
      modTap i t (fun k => { k with
        att := k.att.filter fun a => a.2 != obj, queue := k.queue.filter fun q => q.1 != obj }) d
    else d) d) d

/-- Detach an object from one tap. -/
def detachFrom (h obj : Nat) (d : Dev) : Dev :=
  match tapByHandle h with
  | some (i, t) => modTap i t (fun k => { k with
      att := k.att.filter fun a => a.2 != obj, queue := k.queue.filter fun q => q.1 != obj }) d
  | none => d

/-- Attachments of a tap, the host ring and those of pending ENC_RECONFIG commands included. -/
def attCount (d : Dev) (i : IsleId) (t : TapId) : Nat :=
  (tapOf d i t).att.length + (if (tapOf d i t).ring.isSome then 1 else 0) +
  ((isle d i).shadows.filter fun sh =>
    sh.kind == 10 && bitOf (le sh.bytes 0 2) 9 && tapByHandle (le sh.bytes 28 4) == some (i, t)).length

/-- EXT_RESULT of a ninth attachment (07 R217). -/
def ninthExt (i : IsleId) : Nat := resExt rcTap i.val 1 0

/-- The oldest frame a tap has handed to an object. -/
def tapFrameFor (d : Dev) (h obj : Nat) : Option TapFin :=
  match tapByHandle h with
  | some (i, t) => ((tapOf d i t).queue.find? fun q => q.1 == obj).map (·.2)
  | none => none

/-- Take the oldest frame a tap has handed to an object. -/
def takeTapFrame (h obj : Nat) (d : Dev) : Dev :=
  match tapByHandle h with
  | some (i, t) => modTap i t (fun k => { k with queue := dropFirst k.queue }) d
  | none => d
where
  dropFirst : List (Nat × TapFin) → List (Nat × TapFin)
    | [] => []
    | q :: l => if q.1 = obj then l else q :: dropFirst l

/-- An ENC_RECONFIG takes effect from frame n, 2^32 for at once; a new tap is attached beside the old one (08 R250). -/
def encActivate (slot n : Nat) (bytes : List Byte) (d : Dev) : Dev :=
  match tabGet d.enc slot with
  | none => d
  | some s =>
    let d := takeResv s.handle d
    let fresh := bitOf (le bytes 0 2) 9
    let d := if fresh then
        attach (le bytes 28 4) 1 s.handle (match s.newTap with
          | some x => detachFrom x.1 s.handle d
          | none => d)
      else d
    { d with enc := tabMod d.enc slot fun s => { s with
      newTap := if fresh then some (le bytes 28 4, n) else s.newTap, later := s.later ++ [(n, bytes)] } }

/-- Make a shadow copy the active one, from frame n (05 R160). -/
def applyShadow (i : IsleId) (n : Nat) (sh : Shadow) (d : Dev) : Dev :=
  let p := portOf sh.idx
  let t := tapIdx sh.idx
  match sh.kind with
  | 1 =>
    takeResv (ctxOwner i.val p.val)
      (modCtx i p (fun c => { c with
        pipe := installFe sh.bytes c.pipe, ob := List.replicate 12 0, katReady := c.katNext }) d)
  | 2 =>
    let set (q : Pipe) : Pipe :=
      match sh.sub with
      | 1 => { q with col0 := (words16 sh.bytes).map (signed 16) }
      | 2 => { q with col1 := (words16 sh.bytes).map (signed 16) }
      | 3 => { q with defects := (List.range (sh.bytes.length / 4)).map fun j => le sh.bytes (4 * j) 4 }
      | 4 => { q with shading := words16 sh.bytes }
      | _ => { q with xtalk := (words16 sh.bytes).map (signed 16) }
    modCtx i p (fun c => { c with pipe := set c.pipe, katReady := c.katNext }) d
  | 3 =>
    let sets := le sh.bytes 0 1
    let all := (words16 (sh.bytes.drop 6)).map (signed 16)
    let n := all.length / max sets 1
    modCtx i p (fun c => { c with
      pipe := { c.pipe with
        kern := (List.range sets).map fun s => (all.drop (s * n)).take n
        edgeGain := le sh.bytes 1 1, edgeCore := le sh.bytes 2 4 }
      katReady := c.katNext }) d
  | 4 => modCtx i p (fun c => { c with
      pipe := { c.pipe with params := sh.bytes }, katReady := c.katNext
      gridOf := if le sh.bytes 1 1 = 0 then none else c.gridOf }) d
  | 5 => modCtx i p (fun c => { c with
      pipe := { c.pipe with grid := words16 sh.bytes }, gridOf := none }) d
  | 6 => modIsle i (fun k => { k with tapOut := k.tapOut.set t sh.bytes }) d
  | 7 =>
    let swap := le sh.bytes 0 1
    modIsle i (fun k => { k with
      looks := Vector.ofFn fun (s : Fin 4) =>
        if bitOf swap s.val then { active := k.looks[s].inactive, inactive := k.looks[s].active }
        else k.looks[s]
      route := Vector.ofFn fun (u : Fin 8) =>
        let r := le sh.bytes (1 + u.val) 1
        if r = 0xFF then k.route[u] else r }) d
  | 8 =>
    let bits := le sh.bytes 0 1
    let streams := le sh.bytes 1 1
    let cfg := sh.bytes.drop 2
    let d := if ringKept (tapOf d i t) cfg then d else ringLeaves i t d
    takeResv (tapHandle i t) (modTap i t (fun k => { k with
      on := true, cfg, bits, streams, ring := newRing k cfg bits streams }) d)
  | 10 => encActivate sh.idx n sh.bytes d
  | _ =>
    returnResv (tapHandle i t) (modTap i t (fun k => { k with
      on := false, ring := none, out := none, queue := [] }) (ringLeaves i t d))

/-- Shadows whose command the known-answer test answers for (11 R310). -/
def katKind (k : Nat) : Bool := k == 1 || k == 2 || k == 3 || k == 4 || k == 6 || k == 7

/-- A shadow becomes active with frame n whose trigger is t (05 R160). -/
def shadowDue (sh : Shadow) (p : PortId) (n t : Nat) : Bool :=
  sh.port == p.val && (if sh.apply = 0xFFFFFFFF then decide (sh.minT ≤ t) else fnFrom sh.apply n)

/-- Complete a shadow command; DEFERRED is 0 (05 R160). -/
def finishShadow (sh : Shadow) (num : Nat) (d : Dev) : Dev :=
  if sh.deferred then d else completeTag (some sh.cmd) stSuccess num 0 d

/-- The copies that become active with a frame, in fetch order, and the Isle with them (05 R160). -/
def applyDue (i : IsleId) (p : PortId) (n t : Nat) (d : Dev) : List Shadow × Dev :=
  let due := (isle d i).shadows.filter fun sh => shadowDue sh p n t
  let d := modIsle i (fun k => { k with shadows := k.shadows.filter fun sh => !shadowDue sh p n t }) d
  (due, due.foldl (fun d sh => applyShadow i n sh d) d)

/-- The command of a copy that a frame has made active completes; one under the known-answer test waits for that frame's
test where it still runs, and reports its failure (11 R310). -/
def answerShadow (i : IsleId) (p : PortId) (n : Nat) (d : Dev) (sh : Shadow) : Dev :=
  if katKind sh.kind && !sh.deferred then
    let c := ctxOf d i p
    if c.katRun then
      modCtx i p (fun c => { c with katWait := c.katWait ++ [(sh.cmd, n)] }) (setPhase sh.cmd .stepped d)
    else if c.katDone = some (n, false) then completeTag (some sh.cmd) stIntegritySelftest n 0 d
    else finishShadow sh n d
  else finishShadow sh n d

/-- Activate every due shadow of a frame (05 R160). -/
def activateShadows (i : IsleId) (p : PortId) (n t : Nat) (d : Dev) : Dev :=
  let (due, d) := applyDue i p n t d
  due.foldl (answerShadow i p n) d

/-- A frame of the port is with its Isle or waits for it. -/
def isleBusy (d : Dev) (p : PortId) : Bool :=
  !(port d p).area.isEmpty || (List.finRange 4).any fun i => (ctxOf d i p).run.isSome

/-- Once a port's capture has ended and the last frame of its run has left the Isle, what still counts on it becomes active
(05 R160). DESIGN CHOICE (log 83): the command's RESULT is then 0xFFFF_FFFF with DEFERRED 0, as where no frame counts. -/
def flushShadows (p : PortId) (d : Dev) : Dev :=
  if counting d p || isleBusy d p then d
  else (List.finRange 4).foldl (fun d i =>
    let due := (isle d i).shadows.filter fun sh => sh.port == p.val
    let d := modIsle i (fun k => { k with shadows := k.shadows.filter fun sh => sh.port != p.val }) d
    due.foldl (fun d sh => finishShadow sh 0xFFFFFFFF (applyShadow i (2 ^ 32) sh d)) d) d

/-- An ENC_FORCE applies to a frame (08 R251). -/
def forceTakes (f : EncForce) (num t : Nat) : Bool :=
  if f.apply = 0xFFFFFFFF then decide (f.minT ≤ t) else fnFrom f.apply num

/-- A trigger of a port has been sent: the first that counts for a pending copy, or for an ENC_FORCE, is its frame (05 R160,
08 R251). -/
def markShadows (p : PortId) (n t : Nat) (d : Dev) : Dev :=
  let d := (List.finRange 4).foldl (fun d i => modIsle i (fun k => { k with
    shadows := k.shadows.map fun sh =>
      if sh.hit.isNone && shadowDue sh p n t then { sh with hit := some n } else sh }) d) d
  let onPort (s : EncSes) : Bool := (tapByHandle s.tap).any fun x => tapPort (tapOf d x.1 x.2).cfg == p.val
  { d with enc := d.enc.map fun (k, s) => (k,
    if onPort s then { s with force := s.force.map fun f =>
      if f.hit.isNone && forceTakes f n t then { f with hit := some n } else f } else s) }

/-- A shadow of a kind, index and table is pending (05 R161). -/
def pendingShadow (k : Isle) (kind idx sub : Nat) : Bool :=
  k.shadows.any fun sh => sh.kind == kind && sh.idx == idx && sh.sub == sub

/-- Run a shadow command that has passed its checks: at once where the counted port is not capturing,
else pending until its frame; APPLY_FRAME 0xFFFF_FFFF counts 100 us from its fetch (05 R160). -/
def shadowCmd (c : Outst) (i : IsleId) (kind idx sub port apply : Nat) (bytes : List Byte) (d : Dev) :
    Ans :=
  let sh : Shadow := { kind, idx, sub, port, apply, minT := c.ns + 100000, cmd := c.tag, bytes, deferred := false }
  let d := if katKind kind then
      (List.finRange 4).foldl (fun d p =>
        if kind ≤ 4 && p.val != idx then d else modCtx i p (fun c => { c with katNext := false }) d) d
    else d
  if counting d (portOf port) then
    .stay (modIsle i (fun k => { k with shadows := k.shadows ++ [sh] }) d) .waiting
  else okAns (applyShadow i (2 ^ 32) sh d) (res := 0xFFFFFFFF)

/-- 90 ms after fetch a pending shadow command completes with DEFERRED = 1, and RESULT names the first frame triggered that
counts for it (05 R160, 06 R204). -/
def shadowDefer (t : Nat) (d : Dev) : Dev :=
  (List.finRange 4).foldl (fun d i =>
    match (isle d i).shadows.find? (fun sh => sh.cmd == t && !sh.deferred), findOutst d t with
    | some sh, some c =>
      if d.tu.ns < c.ns + 90000000 then d
      else completeTag (some t) stSuccess (sh.hit.getD 0xFFFFFFFF + 2 ^ 32) 0 (modIsle i (fun k => { k with
        shadows := k.shadows.map fun s => if s.cmd = t then { s with deferred := true } else s }) d)
    | _, _ => d) d

/-- A STATS_SUBSCRIBE with ENABLE = 0 that waits is gone: the subscription stays (02 R56, 05 R166). -/
def discardStats (t : Nat) (d : Dev) : Dev :=
  { d with isles := d.isles.map fun (k : Isle) => { k with ctx := k.ctx.map fun (c : IsleCtx) => { c with
      sub := c.sub.map fun b => if b.closing = some t then { b with closing := none } else b } } }

/-- Discard the pending shadow of an abandoned command (01 R24, 05 R161). -/
def discardShadow (t : Nat) (d : Dev) : Dev :=
  (List.finRange 4).foldl (fun d i =>
    match (isle d i).shadows.find? (fun sh => sh.cmd == t && !sh.deferred) with
    | none => d
    | some sh =>
      let d := modIsle i (fun k => { k with shadows := k.shadows.filter fun s => s.cmd != t }) d
      if sh.kind = 1 then excessResv (ctxOwner i.val sh.idx) d
      else if sh.kind = 10 then excessResv (((tabGet d.enc sh.idx).map EncSes.handle).getD 0) d
      else if sh.kind = 8 || sh.kind = 9 then excessResv (tapHandle i (tapIdx sh.idx)) d
      else d) d

/-! Frames through an Isle (05 R160, 06 R174, 07 R209, R216). -/

/-- The look bank a tap is routed to. -/
def bankOf (k : Isle) (t : TapId) : List Byte :=
  match k.looks[k.route[t]]? with
  | some s => s.active
  | none => []

/-- A frame that a tap passes takes the next sequence number of its host ring and, unless the ring's previous frame is still in
writing or nothing is delivered, its slot, SEQ first (07 R220, 05 R167, 02 R562). -/
def ringTake (i : IsleId) (t : TapId) (n : Nat) (d : Dev) : Dev × Option Nat :=
  match (tapOf d i t).ring with
  | none => (d, none)
  | some r =>
    let seq := r.seq + 1
    let busy := (tapOf d i t).out.isSome
    let d := modTap i t (fun k => { k with ring := some { r with seq } }) d
    if busy || !delivering d then (tapDropped i t n seq d, none)
    else (emit (ringBusy (tapHandle i t) r.slots seq r.wrote) d, some seq)

/-- A tap's decision on a frame at its start: pass with a snapshot, or drop (07 R209, R216). -/
def tapStart (i : IsleId) (p : PortId) (n t : Nat) (g : Geo) (d : Dev) (k : TapId) :
    Dev × Option TapSnap :=
  let tp := tapOf d i k
  if !tp.on || tapPort tp.cfg != p.val || !decPass (decK tp.cfg) (decM tp.cfg) (decAnchor tp.cfg) n then
    (d, none)
  else if !tapSpaced tp.cfg tp.lastT t then (modTap i k (fun x => { x with skipped := x.skipped + 1 }) d, none)
  else
    let d := modTap i k (fun x => { x with lastT := some t }) d
    if tapFits tp.cfg tp.bits tp.streams g (ctxOf d i p).pipe.fe then
      let snap : TapSnap := { cfg := tp.cfg, tapOut := (isle d i).tapOut[k], look := bankOf (isle d i) k }
      let (d, slot) := ringTake i k n d
      (d, some { snap with slot })
    else
      (raise evPipeline 0x11 (tapHandle i k) n (modTap i k (fun x => { x with geom := x.geom + 1 }) d), none)

/-- An Isle begins to process frame n of a port: shadows, then the taps' checks (05 R160, 07 R209). A frame that a decode
session plays counts for shadows by this instant (05 R160). -/
def frameStart (i : IsleId) (p : PortId) (n t : Nat) (d : Dev) : Dev :=
  let d := activateShadows i p n (if (port d p).play.isSome then d.tu.ns else t) d
  let (d, snaps) := (List.finRange 8).foldl
    (fun (acc : Dev × List (Option TapSnap)) k =>
      let (d, s) := tapStart i p n t (geoOf (port acc.1 p)) acc.1 k
      (d, acc.2 ++ [s])) (d, [])
  modCtx i p (fun c => { c with run := some { num := n, pipe := c.pipe, taps := snaps, ep := d.pcie.epoch } }) d

/-- The lowest slot of a source ring that holds no frame. -/
def freeSource (d : Dev) (obj : Nat) : Nat :=
  let held := d.isles.toList.flatMap fun (k : Isle) => k.taps.toList.flatMap fun (t : Tap) =>
    (t.queue.filter fun q => q.1 == obj).map fun q => q.2.slot
  ((List.range (held.length + 1)).find? fun n => !held.contains n).getD 0

/-- Planes of a tap's frame, as its rings hold them (07 R213). -/
def tapShape (tf : TapFin) : List (Nat × Nat) :=
  planeShape (tapFormat tf.snap.cfg) (outW tf.snap.cfg + 1) (outH tf.snap.cfg + 1) tf.fin.geo.bits tf.fin.geo.streams

/-- Bytes that an attachment's ring in HBM takes for a frame: the source ring of a BUFFERED encode session, or the planes for a
flow or a BUFFERED head (07 R217, 08 R233, 14 R380, 15 R397); 0 where it has no buffer. -/
def attBytes (d : Dev) (a : Nat × Nat) (tf : TapFin) : Nat :=
  if (hbmBuffer d a.2).isNone || a.1 = 4 then 0
  else if a.1 = 1 then ((d.enc.find? fun p => p.2.handle == a.2).map fun p => p.2.srcBytes).getD 0
  else planesBytes (tapShape tf)

/-- The slot of a tap's frame that a head shows or has selected. -/
def vidSlot : Option HeadVid → Option Nat
  | some (.tap tf) => some tf.slot
  | _ => none

/-- The slot of a BUFFERED head's ring that holds neither the frame on screen nor the newest complete frame (15 R397). -/
def headSlot (d : Dev) (k : Tap) (obj : Nat) : Nat :=
  let x := (d.heads[hIdx obj]?).getD {}
  let mine := k.queue.filter fun q => q.1 == obj
  let newest := match mine.getLast? with
    | some q => some q.2.slot
    | none => vidSlot x.sel
  ((List.range 3).find? fun s => vidSlot x.vid != some s && newest != some s).getD 0

/-- A complete frame whose slot of a head's ring is written again is never shown (15 R397, R408). -/
def overwrite (i : IsleId) (k : TapId) (obj slot : Nat) (d : Dev) : Dev :=
  let lost (q : Nat × TapFin) : Bool := q.1 == obj && q.2.slot == slot
  let n := (tapOf d i k).queue.countP lost
  let d := modTap i k (fun x => { x with queue := x.queue.filter fun q => !lost q }) d
  { d with heads := d.heads.mapIdx fun j (h : Head) =>
      if j = hIdx obj then { h with cnt := h.cnt.setIfInBounds 2 (min (h.cnt.getD 2 0 + n) (2 ^ 64 - 1)) } else h }

/-- A tap hands a frame to an attachment: for a BUFFERED one it has written it into the ring. -/
def handTo (i : IsleId) (k : TapId) (tf : TapFin) (d : Dev) (a : Nat × Nat) : Dev :=
  let n := attBytes d a tf
  let slot := if a.1 = 2 then headSlot d (tapOf d i k) a.2 else if a.1 = 3 then freeSource d a.2 % 3 else freeSource d a.2
  let tf := if n = 0 then tf else { tf with slot }
  let d := if n != 0 && a.1 = 2 then overwrite i k a.2 slot d else d
  let d := match hbmBuffer d a.2, n with
    | none, _ | _, 0 => d
    | some b, n => hbmWrite { handle := tapHandle i k, cls := b2n (a.1 != 1), frame := tf.fin.frm.num } (slotAt b n tf.slot) n d
  modTap i k (fun x => { x with queue := x.queue ++ [(a.2, tf)] }) d

/-- Hand a processed frame to a tap's ring and attachments (07 R217, R220). -/
def tapFinish (i : IsleId) (k : TapId) (fin : FinFrm) (snap : TapSnap) (d : Dev) : Dev :=
  let tf : TapFin := { fin, snap, at' := d.tu.ns }
  let d := (tapOf d i k).att.foldl (handTo i k tf) d
  let d := offerFrameMeta (tapHandle i k) fin.frm false false d
  match snap.slot with
  | none => d
  | some seq => modTap i k (fun x => { x with out := some (seq, tf) }) d

/-! Statistics records (05 R165-R167). -/

/-- A frame is recorded (05 R167): its position and the spacing of triggers. -/
def statsTakes (b : StatSub) (t : Nat) : Bool :=
  b.pos % (b.decim + 1) == 0 &&
  (match b.lastT with
    | none => true
    | some l => decide (1000000000 * (b.decim + 1) ≤ (t - l + 40) * b.fpsMax))

/-- A record is dropped: counted, with its sequence number used (05 R167). -/
def statsDropped (i : IsleId) (p : PortId) (num seq : Nat) (d : Dev) : Dev :=
  raise evPipeline 1 (isleHandle i) (num + seq % 2 ^ 31 * 2 ^ 32)
    (modCtx i p (fun x => { x with dropped := x.dropped + 1 }) d)

/-- A processed frame's record is ready (05 R167): numbered, and begun in its slot with SEQ; while the previous record is
still being written, past the stride, or where delivery has stopped since the frame began, it is discarded. -/
def statsReady (i : IsleId) (p : PortId) (fin : FinFrm) (d : Dev) : Dev :=
  let c := ctxOf d i p
  match c.sub with
  | none => d
  | some b =>
    if statsTakes b fin.frm.t then
      let seq := b.seq + 1
      let d := modCtx i p (fun x => { x with
        sub := some { b with seq, pos := b.pos + 1, lastT := some fin.frm.t } }) d
      if c.fin.isSome || !deliversFrom fin.ep d || decide (b.stride < recordLen fin.pipe.fe) then
        statsDropped i p fin.frm.num seq d
      else emit (ringBusy (statOwner i p) b.slots seq b.wrote) (modCtx i p (fun x => { x with fin := some (seq, fin) }) d)
    else modCtx i p (fun x => { x with
      sub := some { b with pos := b.pos + 1 }, skipped := x.skipped + 1 }) d

/-- A subscription ends, and an ENABLE = 0 that waits for it completes with a status (05 R166, R170). -/
def statsEnd (i : IsleId) (p : PortId) (st : Nat) (d : Dev) : Dev :=
  match (ctxOf d i p).sub with
  | none => d
  | some b =>
    let d := returnResv (statOwner i p) (modCtx i p (fun x => { x with sub := none, fin := none }) d)
    completeTag b.closing st (if st = stSuccess then b.seq % 2 ^ 63 else 0) 0 d

/-- STATS_RECORD (05 R167): the record in writing is whole, SEQ last, then the message; an ENABLE = 0 that waited for it
completes (R166). -/
def statsRecordRow (i : IsleId) (p : PortId) (d : Dev) : Dev :=
  let c := ctxOf d i p
  match c.fin, c.sub with
  | some (seq, fin), some b =>
    let slot := ringSlot b.slots seq
    let d := modCtx i p (fun x => { x with fin := none }) d
    let d :=
      if deliversFrom fin.ep d then
        notify b.vector (emit (.ring (statOwner i p) slot seq (statsRecord fin seq))
          (modCtx i p (fun x => { x with sub := some { b with wrote := tabSet b.wrote slot seq } }) d))
      else statsDropped i p fin.frm.num seq d
    if b.closing.isSome then statsEnd i p stSuccess d else d
  | _, _ => d

def execStatsRecord (i : IsleId) (p : PortId) (s : State) : Host.Outcome State Fault Refusal :=
  .next (s.mapDev (statsRecordRow i p))

/-- The optical-black estimate after a frame (05 R148). -/
def obAfter (f : Frm) (g : Geo) (p : Pipe) (ob : List Int) : List Int :=
  (streamIn f g p.fe p.col0 0 (ob.take 6)).2 ++
  (if g.streams = 2 then (streamIn f g p.fe p.col1 1 (ob.drop 6)).2 else ob.drop 6)

/-- The last line of a frame has left the Isle: statistics, grid update and taps take it. -/
def frameFinish (i : IsleId) (p : PortId) (f : Frm) (d : Dev) : Dev :=
  let c := ctxOf d i p
  match c.run with
  | none => d
  | some r =>
    let fin : FinFrm := { frm := f, geo := geoOf (port d p), pipe := r.pipe, ob := c.ob, ep := r.ep }
    let d := modCtx i p (fun c => { c with
      run := none
      ob := obAfter f fin.geo r.pipe c.ob
      gridOf := if le c.pipe.params 1 1 = 1 && le r.pipe.params 1 1 = 1 && !bitOf f.status 0 then some fin else none }) d
    let d := statsReady i p fin d
    flushShadows p ((List.finRange 8).foldl (fun d k =>
      match (r.taps[k.val]?).join with
      | some s => tapFinish i k fin s d
      | none => d) d)

/-- A port takes the geometry of a frame that a decode session plays (10 R283). -/
def takeGeo (f : Frm) (k : Port) : Port :=
  match f.geo with
  | some g => { k with bits := g.bits, streams := g.streams, samples := g.samples, height := g.height }
  | none => k

/-- ISLE_FRAME_START (05 R160): the frame is the oldest closed one that waits, else the open frame of an
in-line port; a through-memory frame takes the Isle's one context for such work (04 R135). -/
def isleFrameStart (i : IsleId) (p : PortId) (d : Dev) : Dev :=
  let k := port d p
  if !(k.enabled || k.play.isSome) || k.isle != i.val || !isleAvail d i.val then d
  else if k.memory then
    match (isle d i).tm, (isle d i).wait.head?, k.area with
    | none, some w, f :: _ =>
      if w = p.val then
        modIsle i (fun x => { x with tm := some { port := p.val, num := f.num, rows := 0 }, wait := x.wait.drop 1 })
          (frameStart i p f.num f.t (modPort p (fun k => takeGeo f k) d))
      else d
    | _, _, _ => d
  else match k.area with
    | f :: rest => frameFinish i p f (frameStart i p f.num f.t (modPort p (fun x => { x with area := rest }) d))
    | [] =>
      match k.cur with
      | some f =>
        if ((ctxOf d i p).run.map RunSnap.num) = some f.num then d else frameStart i p f.num f.t d
      | none => d

def execIsleFrameStart (i : IsleId) (p : PortId) (s : State) : Host.Outcome State Fault Refusal :=
  .next (s.mapDev (isleFrameStart i p))

/-- A closed frame reaches an in-line Isle: finished where it was started, else it waits for its start. -/
def handInLine (p : PortId) (f : Frm) (d : Dev) : Dev :=
  let i := isleOf (port d p).isle
  if ((ctxOf d i p).run.map RunSnap.num) = some f.num then frameFinish i p f d
  else modPort p (fun k => { k with area := k.area ++ [f] }) d

/-! Known-answer test (11 R312-R315). -/

/-- A test is skipped: counted, and KAT_STARVED once after 16 in a row (11 R314). -/
def katSkip (i : IsleId) (p : PortId) (noWindow : Bool) (d : Dev) : Dev :=
  let d := bumpInteg (14 + 5 * i.val + (if noWindow then 2 else 3)) d
  let d := modCtx i p (fun c => { c with katRun := false, katSkips := c.katSkips + 1 }) d
  if 16 ≤ (ctxOf d i p).katSkips && !(ctxOf d i p).katStarved then
    let d := bumpInteg (14 + 5 * i.val + 4) (modCtx i p (fun c => { c with katStarved := true }) d)
    raise evIntegrity 6 (isleHandle i) (p.val + (if noWindow then 1 else 2) * 2 ^ 8) d
  else d

/-- The frame that follows a pattern run now, with its trigger, where no frame is in process: the oldest that waits, the open
one, the oldest triggered, or the next to be triggered (11 R314). -/
def nextFrame (d : Dev) (p : PortId) : Option (Nat × Nat) :=
  let k := port d p
  match k.area.head?, (if k.memory then none else k.cur), k.await.head? with
  | some f, _, _ => some (f.num, f.t)
  | _, some f, _ => some (f.num, f.t)
  | _, _, some a => some (a.num, a.t)
  | _, _, _ =>
    match groupOf d p with
    | some g => if (grp d g).run && !(grp d g).ended then (nextTrig (grp d g)).map fun t => ((grp d g).next, t) else none
    | none => none

/-- The device as it stands for the frame under test: in process, or the one that follows with the copies due at it (11
R312). -/
def katDev (d : Dev) (i : IsleId) (p : PortId) : Dev :=
  match (ctxOf d i p).run, nextFrame d p with
  | none, some (n, t) => (applyDue i p n t d).2
  | _, _ => d

/-- At a frame's close the port starts the pattern for the next one where the window allows (11 R314). -/
def katStart (i : IsleId) (p : PortId) (windowOk : Bool) (d : Dev) : Dev :=
  if !isleAvail d i.val then d
  else if !windowOk then katSkip i p true d
  else if !(ctxOf (katDev d i p) i p).katReady then katSkip i p false d
  else modCtx i p (fun c => { c with katRun := true }) d

/-- The firmware has computed the expected value (11 R313). -/
def katExpectedReady (i : IsleId) (p : PortId) (d : Dev) : Dev :=
  modCtx i p (fun c => { c with katReady := true, katNext := true }) d

def execKatExpectedReady (i : IsleId) (p : PortId) (s : State) : Host.Outcome State Fault Refusal :=
  .next (s.mapDev (katExpectedReady i p))

/-- The value expected of the configuration in force for the frame under test (11 R312, R313). -/
def katWant (d : Dev) (i : IsleId) (p : PortId) : Word :=
  let d := katDev d i p
  let k := isle d i
  let c := ctxOf d i p
  katExpected p.val (geoOf (port d p)) ((c.run.map RunSnap.pipe).getD c.pipe) k.tapOut.toList
    ((List.finRange 8).map (bankOf k))

/-- The comparison of a pattern that ran (11 R313): pass or SELFTEST_FAIL, and the commands that took
effect at its frame complete. -/
def katCompare (i : IsleId) (p : PortId) (crc : Word) (d : Dev) : Dev :=
  let c := ctxOf d i p
  if !c.katRun then d
  else
    let pass := crc == katWant d i p
    let num := ((c.run.map RunSnap.num).orElse fun _ => (nextFrame d p).map (·.1)).getD 0
    let d := modCtx i p (fun c => { c with
      katDone := some (num, pass), katRun := false, katSkips := 0, katStarved := false, katWait := [] }) d
    let d := bumpInteg (14 + 5 * i.val + (if pass then 0 else 1)) d
    let d := if pass then d else raise evIntegrity 5 (isleHandle i) (num + p.val * 2 ^ 32) d
    c.katWait.foldl (fun d (t, n) =>
      completeTag (some t) (if pass then stSuccess else stIntegritySelftest) n 0 d) d

def execKatCompare (i : IsleId) (p : PortId) (crc : Word) (s : State) : Host.Outcome State Fault Refusal :=
  .next (s.mapDev (katCompare i p crc))

/-! ISLE_CONFIG and FE_TABLE_LOAD (05 R156-R161). -/

/-- All reserved bytes of a structure are 0. -/
def zeroAt (l : List Byte) (off n : Nat) : Bool := ((l.drop off).take n).all (· == 0)

/-- The ranges of ISLE_CONFIG's structure (05 R156, R157). -/
def feValid (l : List Byte) : Bool :=
  let w := cfaW l
  let h := cfaH l
  let n := filters l
  let used (r c : Nat) : Bool := decide (r < h) && decide (c < w)
  let nib (r c : Nat) : Nat := bitsOf (le l 4 8) (4 * (r * 4 + c)) 4
  let cells := (List.range 4).flatMap fun r => (List.range 4).map fun c => (r, c)
  decide (2 ≤ w) && decide (w ≤ 4) && decide (2 ≤ h) && decide (h ≤ 4) &&
  decide (3 ≤ n) && decide (n ≤ 6) && decide (le l 3 1 < 128) &&
  cells.all (fun (r, c) => if used r c then decide (nib r c < n) else nib r c == 0) &&
  (List.range n).all (fun f => cells.any fun (r, c) => used r c && nib r c == f) &&
  decide (obMask l ≤ 3) && decide (obShift l ≤ 10) &&
  f24Ok (le l 52 4) && decide (le l 52 4 < 2 ^ 23) &&
  decide (3 ≤ shadeGx l) && decide (shadeGx l ≤ 129) && decide (3 ≤ shadeGy l) && decide (shadeGy l ≤ 65) &&
  decide (4 ≤ le l 60 1) && decide (le l 60 1 ≤ 10) && decide (4 ≤ le l 61 1) && decide (le l 61 1 ≤ 10) &&
  zeroAt l 62 2 && f24Ok (le l 64 4) && decide (1 ≤ leF24 l 64) && f24Ok (le l 68 4) &&
  f24Ok (le l 72 4) && decide (leF24 l 68 < leF24 l 72) && decide (le l 76 1 ≤ 1) &&
  (if le l 76 1 = 0 then decide (-4 ≤ signed 8 (le l 77 1)) && decide (signed 8 (le l 77 1) ≤ 6)
    else decide (-48 ≤ signed 8 (le l 77 1)) && decide (signed 8 (le l 77 1) ≤ 47)) &&
  decide (le l 78 1 < n) && zeroAt l 79 1 && f24Ok (le l 80 4) &&
  (le l 88 2 + 1) % w == 0 && (le l 90 2 + 1) % h == 0 &&
  decide (zonesX l ≤ 127) && decide (zonesY l ≤ 71) && zeroAt l 94 34

/-- Lagoon of a context in KiB (05 R158). -/
def ctxLagoon (fe : List Byte) : Nat :=
  divUp (262144 + 8 * (defectMax fe + 1) + 4 * filters fe * shadeGx fe * shadeGy fe + 576 + 4096) 1024

def specIsleConfig : CmdSpec where
  op := .isleConfig
  layout := [(32, 0, 8), (36, 0, 32)]
  checks e := [(32, decide (fld e 32 1 < 4))]
  data := structData 128
  handle := .fixed 4 4
  inner e := innerCheck (feValid (fit 128 e.data))

/-- The Isle of a command's handle. -/
def isleArg (e : Sqe) : IsleId := isleOf (hIdx e.handle.toNat)

/-- A geometry change of a context is pending (05 R158). -/
def geometryPending (d : Dev) (i : IsleId) (p : PortId) : Bool :=
  (isle d i).shadows.any fun sh =>
    sh.kind == 1 && sh.idx == p.val && geometryChange (ctxOf d i p).pipe.fe sh.bytes

/-- A load that a geometry change excludes is pending (05 R158). -/
def loadPending (d : Dev) (i : IsleId) (p : PortId) : Bool :=
  (isle d i).shadows.any fun sh => sh.idx == p.val && decide (2 ≤ sh.kind) && decide (sh.kind ≤ 5)

/-- The APPLY_FRAME checks of a shadow command, whose field stands at a byte of the entry (05 R161). DESIGN CHOICE (log 84):
R22 does not place FRAME_PASSED; it is checked with the 80 ms limit, as a field check on the configuration of the named object
(step 2), before STATE_CONFLICT. -/
def checkApply (c : Outst) (d : Dev) (p : PortId) (byte : Nat) (k : Ans) : Ans :=
  match applyCheck d c.ns p (fld c.e byte 4) with
  | some st => .fail st byte 0
  | none => k


def isleConfigBody (c : Outst) (d : Dev) : Ans :=
  let i := isleArg c.e
  let p := portOf (fld c.e 32 1)
  let fe := fit 128 c.e.data
  let geom := geometryChange (ctxOf d i p).pipe.fe fe
  checkApply c d p 36 <|
  check (isleAvail d i.val && !pendingShadow (isle d i) 1 p.val 0 &&
    !(geom && (capturing d p || loadPending d i p))) stConflict <|
  withAdmission (ctxOwner i.val p.val) false (counting d p) [(rcLagoon, unitAll, ctxLagoon fe)] d fun d =>
    shadowCmd c i 1 p.val 0 p.val (fld c.e 36 4) fe d

def execIsleConfig (t : Nat) (s : State) : Host.Outcome State Fault Refusal :=
  .next (s.mapDev (hostRow specIsleConfig t isleConfigBody))

/-- Entry size of an FE table. -/
def tableEntry (table : Nat) : Nat := if table = 2 then 4 else 2

/-- Entry count that a table takes under a structure (05 R159). -/
def tableCountOk (fe : List Byte) (table n : Nat) : Bool :=
  match table with
  | 1 => decide (1 ≤ n) && decide (n ≤ 32768)
  | 2 => decide (1 ≤ n) && decide (n ≤ defectMax fe + 1)
  | 3 => n == filters fe * shadeGx fe * shadeGy fe
  | _ => n == cfaW fe * cfaH fe * 9

/-- Order of map entries: by Y, then X (05 R152). -/
def defectKey (w : Nat) : Nat := bitsOf w 15 14 * 2 ^ 15 + bitsOf w 0 15

/-- Index of the first entry of a defect map that breaks R152. -/
def firstBadDefect (l : List Nat) : Option Nat :=
  (l.zipIdx.find? fun (w, i) =>
    bitOf w 31 || decide (2 ≤ bitsOf w 29 2) ||
    (match i with
      | 0 => false
      | j + 1 => decide (defectKey w ≤ defectKey ((l[j]?).getD 0))) ||
    (bitsOf w 29 2 == 1 && decide (256 < ((l.take (i + 1)).filter fun v => bitsOf v 29 2 == 1).length))).map
    (·.2)

def specFeTableLoad : CmdSpec where
  op := .feTableLoad
  layout := [(32, 0, 24), (36, 0, 64)]
  checks e :=
    [(32, decide (fld e 32 1 < 4)), (33, decide (1 ≤ fld e 33 1) && decide (fld e 33 1 ≤ 4)),
     (34, if fld e 33 1 = 1 then decide (fld e 34 1 ≤ 1) else fld e 34 1 == 0),
     (24, e.dataLen.toNat == (fld e 40 4 + 1) * tableEntry (fld e 33 1))]
  data := someData
  handle := .fixed 4 4

/-- Sub-object number of a table: COLFPN counts per stream (05 R161). -/
def tableSub (table stream : Nat) : Nat := if table = 1 then 1 + stream else table + 1

def feTableLoadBody (c : Outst) (d : Dev) : Ans :=
  let i := isleArg c.e
  let p := portOf (fld c.e 32 1)
  let table := fld c.e 33 1
  let n := fld c.e 40 4 + 1
  let bytes := fit (n * tableEntry table) c.e.data
  let sub := tableSub table (fld c.e 34 1)
  check (tableCountOk (ctxOf d i p).pipe.fe table n) stInvalidField <|
  match (if table = 2 then firstBadDefect ((List.range n).map fun j => le bytes (4 * j) 4) else none) with
  | some k => .fail stInvalidField 0xFF k
  | none =>
    checkApply c d p 36 <|
    check (isleAvail d i.val && !pendingShadow (isle d i) 2 p.val sub && !geometryPending d i p) stConflict <|
    shadowCmd c i 2 p.val sub p.val (fld c.e 36 4) bytes d

def execFeTableLoad (t : Nat) (s : State) : Host.Outcome State Fault Refusal :=
  .next (s.mapDev (hostRow specFeTableLoad t feTableLoadBody))

/-! Statistics subscriptions (05 R165-R168). -/

def specStatsSubscribeStart : CmdSpec where
  op := .statsSubscribeStart
  layout := [(32, 0, 80)]
  checks e :=
    [(32, decide (fld e 32 1 < 4)), (33, fld e 33 1 == 1),
     (34, decide (1 ≤ fld e 34 2) && decide (fld e 34 2 ≤ 255)), (36, decide (fld e 36 2 ≤ 2047)),
     (40, decide (1 ≤ fld e 40 2) && decide (fld e 40 2 ≤ 1000))]
  data := someData
  handle := .fixed 4 4
  admits := true

def statsSubscribeStartBody (c : Outst) (d : Dev) : Ans :=
  let i := isleArg c.e
  let p := portOf (fld c.e 32 1)
  let stride := recordStride (ctxOf d i p).pipe.fe
  let rate := divUp (stride * fld c.e 40 2) ((fld c.e 38 1 + 1) * 1000000)
  check (decide ((fld c.e 34 2 + 1) * stride ≤ c.e.dataLen.toNat)) stInvalidField <|
  check (isleAvail d i.val && (ctxOf d i p).sub.isNone) stConflict <|
  withAdmission (statOwner i p) true false [(rcHbmBw, unitAll, rate), (rcHost, 0, rate)] d fun d =>
    let sub : StatSub :=
      { slots := fld c.e 34 2, vector := fld c.e 36 2, decim := fld c.e 38 1, prio := fld c.e 39 1
        fpsMax := fld c.e 40 2, stride, seq := 0, pos := 0, lastT := none }
    okAns (modCtx i p (fun x => { x with sub := some sub }) d)
      (res := isleHandle i)

def execStatsSubscribeStart (t : Nat) (s : State) : Host.Outcome State Fault Refusal :=
  .next (s.mapDev (hostRow specStatsSubscribeStart t statsSubscribeStartBody))

def specStatsSubscribeStop : CmdSpec where
  op := .statsSubscribeStop
  layout := [(32, 0, 80)]
  checks e := [(32, decide (fld e 32 1 < 4))]
  data := noData
  handle := .fixed 4 4

/-- ENABLE = 0 (05 R166): it waits for the record in progress. -/
def statsSubscribeStopBody (c : Outst) (d : Dev) : Ans :=
  let i := isleArg c.e
  let p := portOf (fld c.e 32 1)
  match (ctxOf d i p).sub with
  | none => .fail stConflict 0xFF 0
  | some b =>
    check b.closing.isNone stConflict <|
    if (ctxOf d i p).fin.isSome then
      .stay (modCtx i p (fun x => { x with sub := some { b with closing := some c.tag } }) d) .waiting
    else okAns (statsEnd i p stSuccess d) (res := b.seq % 2 ^ 63)

def execStatsSubscribeStop (t : Nat) (s : State) : Host.Outcome State Fault Refusal :=
  .next (s.mapDev (hostRow specStatsSubscribeStop t statsSubscribeStopBody))

/-- Line 0 of the frame in process has not come to the Isle. -/
def beforeLine0 (d : Dev) (i : IsleId) (p : PortId) : Bool :=
  if (port d p).memory then (isle d i).tm.any fun r => r.port == p.val && r.rows == 0
  else (port d p).cur.any fun f => f.next0 == 0

/-- BLEND_GRID_UPDATE (06 R184): 4,096 PCLK after a frame has left the front end; it holds for every frame whose line 0
reaches stage 2 later. -/
def blendGridUpdate (i : IsleId) (p : PortId) (d : Dev) : Dev :=
  match (ctxOf d i p).gridOf with
  | none => d
  | some fin =>
    let new (q : Pipe) : Pipe := { q with grid := gridUpdate fin q.grid }
    let early := beforeLine0 d i p
    modCtx i p (fun c => { c with
      gridOf := none, pipe := new c.pipe
      run := c.run.map fun r => if early then { r with pipe := new r.pipe } else r }) d

def execBlendGridUpdate (i : IsleId) (p : PortId) (s : State) : Host.Outcome State Fault Refusal :=
  .next (s.mapDev (blendGridUpdate i p))

/-! Colour loads (06 R180, R198-R205). -/

def specCfaKernelLoad : CmdSpec where
  op := .cfaKernelLoad
  layout := [(32, 0, 24), (36, 0, 64)]
  checks e :=
    [(32, decide (fld e 32 1 < 4)), (33, fld e 33 1 == 1 || fld e 33 1 == 3),
     (40, f24Ok (fld e 40 4) && decide (fld e 40 4 < 2 ^ 23))]
  data := someData
  handle := .fixed 4 4

def cfaKernelLoadBody (c : Outst) (d : Dev) : Ans :=
  let i := isleArg c.e
  let p := portOf (fld c.e 32 1)
  let fe := (ctxOf d i p).pipe.fe
  let len := fld c.e 33 1 * cfaW fe * cfaH fe * filters fe * 162
  let bytes := pack [(1, fld c.e 33 1), (1, fld c.e 34 1), (4, fld c.e 40 4)] ++ fit len c.e.data
  check (c.e.dataLen.toNat == len) stInvalidField <|
  checkApply c d p 36 <|
  check (isleAvail d i.val && !pendingShadow (isle d i) 3 p.val 0 && !geometryPending d i p) stConflict <|
  shadowCmd c i 3 p.val 0 p.val (fld c.e 36 4) bytes d

def execCfaKernelLoad (t : Nat) (s : State) : Host.Outcome State Fault Refusal :=
  .next (s.mapDev (hostRow specCfaKernelLoad t cfaKernelLoadBody))

/-- F24 fields at consecutive places of a structure. -/
def f24Fields (l : List Byte) (off n : Nat) : Bool := (List.range n).all fun k => f24Ok (le l (off + 4 * k) 4)

/-- The ranges of PARAMS under a context's FILTERS (06 R199). -/
def paramsValid (nf : Nat) (l : List Byte) : Bool :=
  decide (le l 0 1 ≤ 1) && decide (le l 1 1 ≤ 1) && decide (le l 2 1 ≤ 1) && zeroAt l 3 1 &&
  f24Fields l 4 55 && zeroAt l 227 1 && f24Fields l 228 2 && zeroAt l 236 20 &&
  (List.range nf).all (fun c => decide (0 ≤ leF24 l (4 + 4 * c))) && decide (0 < leF24 l 196) &&
  (List.range 3).all (fun k => decide (0 ≤ leF24 l (200 + 4 * k)) && decide (leF24 l (200 + 4 * k) < 1) &&
    decide (1 < leF24 l (212 + 4 * k))) &&
  decide (le l 224 1 < nf) && decide (le l 225 1 < nf) && le l 224 1 != le l 225 1 &&
  decide (le l 226 1 ≤ 8) && decide (0 < leF24 l 228) && decide (0 < leF24 l 232) &&
  le l 228 4 != le l 232 4

def colourLayout : List (Nat × Nat × Nat) := [(32, 0, 24), (36, 0, 32)]

def specColourLoadParams : CmdSpec where
  op := .colourLoadParams
  layout := colourLayout
  checks e := [(33, decide (fld e 33 1 < 4)), (34, fld e 34 1 == 0), (24, e.dataLen.toNat == 256)]
  data := someData
  handle := .fixed 4 4

def colourLoadParamsBody (c : Outst) (d : Dev) : Ans :=
  let i := isleArg c.e
  let p := portOf (fld c.e 33 1)
  let l := fit 256 c.e.data
  check (paramsValid (filters (ctxOf d i p).pipe.fe) l) stInvalidField <|
  checkApply c d p 36 <|
  check (isleAvail d i.val && !pendingShadow (isle d i) 4 p.val 0 && !geometryPending d i p) stConflict <|
  shadowCmd c i 4 p.val 0 p.val (fld c.e 36 4) l d

def execColourLoadParams (t : Nat) (s : State) : Host.Outcome State Fault Refusal :=
  .next (s.mapDev (hostRow specColourLoadParams t colourLoadParamsBody))

def specColourLoadBlendGrid : CmdSpec where
  op := .colourLoadBlendGrid
  layout := colourLayout
  checks e := [(33, decide (fld e 33 1 < 4)), (34, fld e 34 1 == 0), (24, e.dataLen.toNat == 1152)]
  data := someData
  handle := .fixed 4 4

def colourLoadBlendGridBody (c : Outst) (d : Dev) : Ans :=
  let i := isleArg c.e
  let p := portOf (fld c.e 33 1)
  let l := fit 1152 c.e.data
  check ((words16 l).all (· ≤ 32768)) stInvalidField <|
  checkApply c d p 36 <|
  check (isleAvail d i.val && !pendingShadow (isle d i) 5 p.val 0 && !geometryPending d i p) stConflict <|
  shadowCmd c i 5 p.val 0 p.val (fld c.e 36 4) l d

def execColourLoadBlendGrid (t : Nat) (s : State) : Host.Outcome State Fault Refusal :=
  .next (s.mapDev (hostRow specColourLoadBlendGrid t colourLoadBlendGridBody))

def specColourLoadTapOutput : CmdSpec where
  op := .colourLoadTapOutput
  layout := colourLayout
  checks e := [(33, decide (fld e 33 1 < 8)), (34, decide (fld e 34 1 < 4)), (24, e.dataLen.toNat == 64)]
  data := someData
  handle := .fixed 4 4

/-- The ranges of TAP_OUTPUT (06 R195, R200). -/
def tapOutputValid (l : List Byte) : Bool :=
  let curve := le l 0 1
  let param := leF24 l 52
  decide (curve ≤ 6) && zeroAt l 1 3 && f24Fields l 4 13 && zeroAt l 56 8 &&
  (if curve = 3 then decide (0 < param) && decide (param ≤ 10000)
    else if curve = 4 then decide (0 < param) else le l 52 4 == 0)

def colourLoadTapOutputBody (c : Outst) (d : Dev) : Ans :=
  let i := isleArg c.e
  let t := fld c.e 33 1
  let p := portOf (fld c.e 34 1)
  let l := fit 64 c.e.data
  check (tapOutputValid l) stInvalidField <|
  checkApply c d p 36 <|
  check (isleAvail d i.val && !pendingShadow (isle d i) 6 t 0) stConflict <|
  shadowCmd c i 6 t 0 p.val (fld c.e 36 4) l d

def execColourLoadTapOutput (t : Nat) (s : State) : Host.Outcome State Fault Refusal :=
  .next (s.mapDev (hostRow specColourLoadTapOutput t colourLoadTapOutputBody))

/-- Byte offset of the first infinite or NaN value of a LUT (06 R201). -/
def firstBadLut (l : List Byte) : Option Nat :=
  ((List.range ((l.length - 8256) / 2)).find? fun k => f16Bad (le l (8256 + 2 * k) 2)).map
    fun k => 8256 + 2 * k

/-- The ranges of a LOOK object (06 R201). -/
def lookValid (l : List Byte) : Bool :=
  decide (le l 0 1 < 8) && zeroAt l 1 3 && f24Fields l 4 9 && zeroAt l 42 2 && f24Fields l 44 2 &&
  zeroAt l 52 12 && decide (-24 ≤ signed 8 (le l 40 1)) && decide (signed 8 (le l 40 1) ≤ 15) &&
  decide (signed 8 (le l 40 1) < signed 8 (le l 41 1)) && decide (signed 8 (le l 41 1) ≤ 16)

def specColourLoadLook : CmdSpec where
  op := .colourLoadLook
  layout := colourLayout
  checks e :=
    [(33, decide (fld e 33 1 < 4)), (34, fld e 34 1 == 0), (36, fld e 36 4 == 0),
     (24, e.dataLen.toNat == 1656006 || e.dataLen.toNat == 8256)]
  data := someData
  handle := .fixed 4 4

/-- A LOOK load writes the slot's inactive bank at once (06 R202). -/
def colourLoadLookBody (c : Outst) (d : Dev) : Ans :=
  let i := isleArg c.e
  let k := fld c.e 33 1
  let l := fit c.e.dataLen.toNat c.e.data
  check (lookValid l && (!bitOf (le l 0 1) 2 || c.e.dataLen.toNat == 1656006)) stInvalidField <|
  match firstBadLut l with
  | some off => .fail stInvalidField 0xFF off
  | none =>
    check (isleAvail d i.val &&
      !((isle d i).shadows.any fun sh => sh.kind == 7 && bitOf (le sh.bytes 0 1) k)) stConflict <|
    okAns (modIsle i (fun x => { x with
      looks := Vector.ofFn fun (s : Fin 4) =>
        if s.val = k then { x.looks[s] with inactive := l } else x.looks[s] }) d)

/-- A LOOK load abandoned, or lost in progress, leaves the slot's inactive bank empty (06 R202, R207). An outstanding one
counts as in progress (DEDUCED, log 85). -/
def emptyLook (c : Outst) (d : Dev) : Dev :=
  if c.op = .colourLoadLook && (specCheck specColourLoadLook c).isNone then
    modIsle (isleArg c.e) (fun x => { x with
      looks := Vector.ofFn fun (s : Fin 4) =>
        if s.val = fld c.e 33 1 then { x.looks[s] with inactive := [] } else x.looks[s] }) d
  else d

def execColourLoadLook (t : Nat) (s : State) : Host.Outcome State Fault Refusal :=
  .next (s.mapDev (hostRow specColourLoadLook t colourLoadLookBody))

def specLookSelect : CmdSpec where
  op := .lookSelect
  layout := [(32, 0, 16), (36, 0, 96)]
  checks e :=
    [(32, decide (fld e 32 1 < 4)), (33, decide (fld e 33 1 < 16))] ++
    (List.range 8).map fun t => (40 + t, decide (fld e (40 + t) 1 ≤ 4) || fld e (40 + t) 1 == 0xFF)
  handle := .fixed 4 4

/-- LOOK_SELECT (06 R204, R205). -/
def lookSelectBody (c : Outst) (d : Dev) : Ans :=
  let i := isleArg c.e
  let p := portOf (fld c.e 32 1)
  checkApply c d p 36 <|
  check (isleAvail d i.val && !((isle d i).shadows.any fun sh => sh.kind == 7)) stConflict <|
  shadowCmd c i 7 0 0 p.val (fld c.e 36 4) (toLE 1 (fld c.e 33 1) ++ toLE 8 (fld c.e 40 8)) d

def execLookSelect (t : Nat) (s : State) : Host.Outcome State Fault Refusal :=
  .next (s.mapDev (hostRow specLookSelect t lookSelectBody))

/-! TAP_CONFIG and host rings (07 R218-R223). -/

/-- Output rate of a tap in pixels per second times M: the pixels, FPS_MAX and K (07 R219). -/
def tapRate (l : List Byte) (streams : Nat) : Nat :=
  divUp ((outW l + 1) * (outH l + 1) * tapFps l * decK l * (if tapSource l = 1 then streams else 1))
    (decM l * 1000000)

/-- The ranges of TAP_CONFIG's structure (07 R209-R218). -/
def tapValid (l : List Byte) : Bool :=
  let s := tapSource l
  let f := tapFormat l
  decide (s ≤ 2) && decide (tapPort l < 4) && formatOk s f && decide (le l 3 1 < 16) &&
  decide (tapMatrix l ≤ 1) && zeroAt l 19 1 && zeroAt l 22 2 && zeroAt l 31 1 && zeroAt l 46 82 &&
  decide (coefSrc l ≤ 1) && decide (decM l ≤ 64) && decide (decK l ≤ decM l) &&
  decide (1 ≤ tapFps l) && decide (tapFps l ≤ 1000) &&
  le l 32 8 % 16 == 0 && decide (1 ≤ le l 42 2) && decide (le l 42 2 ≤ 255) && decide (le l 44 2 ≤ 2047) &&
  (if s = 0 then
    [2, 4, 8, 12, 16].contains (hTaps l) && [2, 4, 6, 8, 12].contains (vTaps l) &&
    decide (outW l ≤ cropW l) && decide (outH l ≤ cropH l) &&
    decide (cropW l + 1 ≤ 16 * (outW l + 1)) && decide (cropH l + 1 ≤ 16 * (outH l + 1)) &&
    (!([0x10, 0x11, 0x12, 0x13].contains f) || (outW l + 1) % 2 == 0) &&
    (!([0x10, 0x11].contains f) || (outH l + 1) % 2 == 0)
  else
    hTaps l == 0 && vTaps l == 0 && coefSrc l == 0 && le l 3 1 == 0 &&
    outW l == cropW l && outH l == cropH l)

def specTapConfigEnable : CmdSpec where
  op := .tapConfigEnable
  layout := [(32, 0, 32), (36, 0, 1)]
  data := structData 128
  handle := .fixed 5 32
  admits := true
  inner e :=
    let l := fit e.dataLen.toNat e.data
    innerCheck (tapValid l && e.dataLen.toNat == 128 + 128 * (hTaps l + vTaps l) * coefSrc l)

def tapArg (e : Sqe) : IsleId × TapId := (isleOf (hIdx e.handle.toNat / 8), tapIdx (hIdx e.handle.toNat))

/-- Fields that must not change while an attachment exists (07 R221). -/
def tapFixedPart (l : List Byte) : List Byte :=
  l.take 4 ++ (l.drop 12).take 4 ++ (l.drop 20).take 2 ++ (l.drop 24).take 6

/-- A host ring would be the tap's ninth attachment (07 R217). -/
def ninthRing (tp : Tap) (l : List Byte) : Bool := le l 32 8 != 0 && decide (8 ≤ tp.att.length)

/-- The tap's part of the table of 07 R219. -/
def tapWants (i : IsleId) (l : List Byte) (bits streams : Nat) : List (Nat × Nat × Nat) :=
  let lagoon := if tapSource l = 0 then divUp (9 * (cropW l + 1) * vTaps l + 65536) 1024 else 64
  let stride := ringStride (planeShape (tapFormat l) (outW l + 1) (outH l + 1) bits streams)
  [(rcTap, i.val, tapRate l streams), (rcLagoon, unitAll, lagoon),
   (rcHost, 0, if le l 32 8 = 0 then 0 else divUp (stride * tapFps l * decK l) (decM l * 1000000))]

def tapConfigEnableBody (c : Outst) (d : Dev) : Ans :=
  let (i, t) := tapArg c.e
  let full := fit c.e.dataLen.toNat c.e.data
  let l := full
  let p := portOf (tapPort l)
  let src := port d p
  let bits := if src.enabled then src.bits else 16
  let streams := if src.enabled then src.streams else 2
  let fe := (ctxOf d i p).pipe.fe
  let tp := tapOf d i t
  let stride := ringStride (planeShape (tapFormat l) (outW l + 1) (outH l + 1) bits streams)
  check (decide (tapRate l streams ≤ 32000)) stInvalidField <|
  check (tapSource l == 0 || (cropX l % cfaW fe == 0 && (cropW l + 1) % cfaW fe == 0 &&
    cropY l % cfaH fe == 0 && (cropH l + 1) % cfaH fe == 0)) stInvalidField <|
  check (le l 32 8 == 0 || decide ((le l 42 2 + 1) * stride ≤ c.e.ringBytes)) stLength <|
  checkApply c d p 32 <|
  check (isleAvail d i.val && !((isle d i).shadows.any fun sh => (sh.kind == 8 || sh.kind == 9) && sh.idx == t.val) &&
    (tp.att.isEmpty || tapFixedPart tp.cfg == tapFixedPart l)) stConflict <|
  if ninthRing tp l then .fail stExhausted 0xFF (ninthExt i) else
  withAdmission (tapHandle i t) true (counting d p) (tapWants i l bits streams) d fun d =>
    shadowCmd c i 8 t.val 0 p.val (fld c.e 32 4) ([BitVec.ofNat 8 bits, BitVec.ofNat 8 streams] ++ l) d

def execTapConfigEnable (t : Nat) (s : State) : Host.Outcome State Fault Refusal :=
  .next (s.mapDev (hostRow specTapConfigEnable t tapConfigEnableBody))

def specTapConfigDisable : CmdSpec where
  op := .tapConfigDisable
  layout := [(32, 0, 32), (36, 0, 1)]
  handle := .fixed 5 32

def tapConfigDisableBody (c : Outst) (d : Dev) : Ans :=
  let (i, t) := tapArg c.e
  let p := portOf (tapPort (tapOf d i t).cfg)
  checkApply c d p 32 <|
  check (isleAvail d i.val && !((isle d i).shadows.any fun sh => (sh.kind == 8 || sh.kind == 9) && sh.idx == t.val) &&
    (tapOf d i t).att.isEmpty) stConflict <|
  shadowCmd c i 9 t.val 0 p.val (fld c.e 32 4) [] d

def execTapConfigDisable (t : Nat) (s : State) : Host.Outcome State Fault Refusal :=
  .next (s.mapDev (hostRow specTapConfigDisable t tapConfigDisableBody))

end Sys2Proof.Machine
end

