-- ==== Sys2Proof/Machine/Chain.lean ====
section
/-!
DEFINITION. Machine/Chain.lean: the integrity chain of raw frames: line checks beside stored lines, raw tiles
with their checks and taint bits, and what their readers make of a mismatch (11 R303-R307, R310, R311, R315).
-/
namespace Sys2Proof.Machine

/-- Bytes of a line at the buffer pitch, and of a frame in HBM (04 R129). -/
def linePitch (k : Port) : Nat := divUp ((k.samples + 1) * k.bits) 2048 * 256
def frameBytes (k : Port) : Nat := linePitch k * ((k.height + 1) * k.streams + k.emb) + 16384

/-! Line checks (11 R303, R305, R307). -/

/-- The lines whose stored bytes no longer match the check beside them, as stream and index. -/
def badLines (f : Frm) : List (Nat × Nat) :=
  ((f.lines.zip f.checks).filter fun (l, c) => crc32c l.2.2 != c).map fun (l, _) => (l.1, l.2.1)

/-- The units that take each line of a port's frames and verify its check: 1 the in-line Isle, 2 the raw-tile writer, 3 an
in-line Holm Raw engine (11 R303, R307). -/
def lineTakers (d : Dev) (p : PortId) : List Nat :=
  let k := port d p
  (if k.memory then [] else [1]) ++
  (if k.memory || k.raw.isSome || k.fetch.any (fun w => w.own && w.num.isSome) then [2] else []) ++
  (if d.holm.any fun x => x.2.port == p.val && !x.2.memory then [3] else [])

/-- A frame's lines at their consumers (11 R307, R311, R315): every mismatch counts, LINE_CHECK says so once, and an in-line
Isle marks LINK_ERR. The event's consumer is the first of those that took the line (DEDUCED, log 88). -/
def verifyLines (p : PortId) (f : Frm) (d : Dev) : Dev × Frm :=
  match badLines f, lineTakers d p with
  | [], _ => (d, f)
  | _, [] => (d, f)
  | bad, who :: others =>
    let n := bad.length * (others.length + 1)
    let d := (List.range n).foldl (fun d _ => bumpInteg (4 + p.val) d) d
    let d := raise evIntegrity 2 (mkHandle 2 0 p.val) (f.num + min n 0xFFFF * 2 ^ 32 + who * 2 ^ 48) d
    (d, if who = 1 then { f with status := f.status ||| 8 } else f)

/-! Raw tiles (11 R305). -/

/-- Raw tiles of a stream. -/
def tilesOf (k : Port) : Nat := divUp (k.height + 1) 16

/-- Index of the raw tile of a line: by stream, then tile. -/
def tileOf (k : Port) (s y : Nat) : Nat := s * tilesOf k + y / 16

/-- Raw tiles of a frame: its streams' and, where it has embedded lines, one further. -/
def tileCount (k : Port) : Nat := k.streams * tilesOf k + b2n (k.emb != 0)

/-- A line as it stands in HBM: at the buffer pitch, zero padding included. -/
def rawLine (k : Port) (f : Frm) (s y : Nat) : List Byte :=
  fit (linePitch k) (match lineOf f s y with
    | some l => l
    | none => packLine k.bits (codesOf f (geoOf k) f.fe s y).2)

/-- Where the tile with an index lies in a frame: offset and bytes. -/
def tileSpan (k : Port) (t : Nat) : Nat × Nat :=
  if t < k.streams * tilesOf k then
    let s := t / tilesOf k
    let y := 16 * (t % tilesOf k)
    (16384 + linePitch k * (s * (k.height + 1) + y), linePitch k * min 16 (k.height + 1 - y))
  else (16384 + linePitch k * (k.streams * (k.height + 1)), linePitch k * k.emb)

/-- The bytes of a tile. -/
def tileBytesOf (k : Port) (f : Frm) (t : Nat) : List Byte :=
  if t < k.streams * tilesOf k then
    let s := t / tilesOf k
    let y := 16 * (t % tilesOf k)
    (List.range (min 16 (k.height + 1 - y))).flatMap fun i => rawLine k f s (y + i)
  else (List.range k.emb).flatMap fun i => fit (linePitch k) ((f.emb[i]?).getD [])

/-- The raw-tile writer's part: the check of every tile, and the taint bit of each tile with a line whose check failed (11
R305-R307). -/
def sealTiles (k : Port) (f : Frm) : Frm :=
  { f with
    tiles := (List.range (tileCount k)).map fun t => crc32c (tileBytesOf k f t)
    taint := (List.range (tileCount k)).filter fun t => (badLines f).any fun x => tileOf k x.1 x.2 == t }

/-- Bytes 4,096 up of the frame header: the taint bitmap of 512 bytes, and from offset 8,176 the checks (11 R305). -/
def chainHeader (f : Frm) : List Byte :=
  ((List.range 512).map fun i => BitVec.ofNat 8
    (((List.range 8).map fun j => b2n (f.taint.contains (8 * i + j)) * 2 ^ j).foldl (· + ·) 0)) ++
  zeros (8176 - 4096 - 512) ++ f.tiles.flatMap fun c => toLE 4 c.toNat

/-! Where frames stand in HBM (04 R129, R135, R137; 12 R323). -/

/-- MiB of a member's raw buffer and of its 4-frame area. -/
def rawMib (d : Dev) (p : PortId) : Nat :=
  match (port d p).raw with
  | some r => divUp ((r.slots + 1) * frameBytes (port d p)) (2 ^ 20)
  | none => 0
def areaMib (d : Dev) (p : PortId) : Nat := if (port d p).memory then divUp (4 * frameBytes (port d p)) (2 ^ 20) else 0

/-- Where a member's buffers begin in its group's: after those of the members before it, each with its room for skew. -/
def memberOffset (d : Dev) (g : GroupId) (p : PortId) : Nat :=
  (((members d g).filter fun q => q.val < p.val).map fun q => (rawMib d q + areaMib d q + 2) * 2 ^ 20).foldl (· + ·) 0

/-- Device address of a slot of a member's raw buffer, or of its 4-frame area. -/
def frameAddr (d : Dev) (p : PortId) (area : Bool) (slot : Nat) : Option Nat :=
  match groupOf d p with
  | none => none
  | some g => (hbmBuffer d (groupHandle g)).map fun b =>
      slotAt (b + memberOffset d g p + (if area then (rawMib d p + 1) * 2 ^ 20 else 0)) (frameBytes (port d p)) slot

/-- The lowest slot that no frame of a list takes. -/
def freeSlotOf (l : List Frm) : Nat :=
  ((List.range (l.length + 1)).find? fun i => !(l.any fun f => f.slot == i)).getD 0

/-- The port writes a frame into HBM, RT0. -/
def writeFrame (p : PortId) (addr : Option Nat) (f : Frm) (d : Dev) : Dev :=
  match addr with
  | some a => hbmWrite { handle := mkHandle 2 0 p.val, cls := 0, frame := f.num } a (frameBytes (port d p)) d
  | none => d

/-! Reading raw tiles (11 R307, R310, 12 R327). -/

/-- What a reader finds in a frame's tiles: the device after it, the tiles that fail their check or carry the taint, and
the frame as read, its lost sectors zero. -/
structure TileRead where
  dev  : Dev
  bad  : List Nat
  frm  : Frm
  /-- a sector came back as poison -/
  lost : Bool
  /-- where: tile, and byte of the tile -/
  holes : List (Nat × Nat) := []

/-- A frame with the lost bytes of a tile zero: o of each lost sector counts from the tile's first byte. -/
def zeroTile (k : Port) (t : Nat) (lost : List Nat) (f : Frm) : Frm :=
  let cut (i : Nat) (l : List Byte) : List Byte :=
    zeroLost ((lost.filter fun o => decide (linePitch k * i ≤ o)).map (· - linePitch k * i)) l
  if lost.isEmpty then f
  else if t < k.streams * tilesOf k then
    let s := t / tilesOf k
    let y := 16 * (t % tilesOf k)
    { f with lines := (f.lines.filter fun x => tileOf k x.1 x.2.1 != t) ++
        (List.range (min 16 (k.height + 1 - y))).map fun i => (s, y + i, cut i (rawLine k f s (y + i))) }
  else { f with emb := f.emb.zipIdx.map fun (l, i) => cut i l }

/-- Read one tile of a frame at an address. -/
def readTile (u : MemUser) (k : Port) (addr : Option Nat) (r : TileRead) (t : Nat) : TileRead :=
  let span := tileSpan k t
  let got := match addr with
    | some a => hbmRead u (a + span.1) span.2 r.dev
    | none => (r.dev, [])
  let lost := got.2.map fun sec => 32 * sec - (addr.getD 0 + span.1)
  let f := zeroTile k t lost r.frm
  let fails := !lost.isEmpty && r.frm.tiles[t]? != some (crc32c (tileBytesOf k f t))
  { dev := got.1, frm := f, lost := r.lost || !lost.isEmpty, holes := r.holes ++ lost.map fun o => (t, o)
    bad := if fails || f.taint.contains t then r.bad ++ [t] else r.bad }

/-- Read tiles of a frame: those that fail or are tainted count, and RAW_TILE names the first, once for a frame (11 R307,
R311, R315). -/
def readTiles (u : MemUser) (handle : Nat) (k : Port) (addr : Option Nat) (f : Frm) (l : List Nat) (d : Dev) : TileRead :=
  let r := l.foldl (readTile u k addr) { dev := d, bad := [], frm := f, lost := false }
  let d := r.bad.foldl (fun d _ => bumpInteg 8 d) r.dev
  match r.bad with
  | [] => { r with dev := d }
  | t :: _ =>
    { r with
      dev := if f.told then d else raise evIntegrity 3 handle (f.num + t * 2 ^ 32) d
      frm := { r.frm with told := true } }

/-! Units at their destinations (11 R307, R308, R311, R315). -/

/-- STREAM_CHECK of a session's frame, once: kind 1 segment, 2 TILE_CHECK, 3 HDR_CHECK, 4 plane; reader 1 recording, 2 flow, 3
host ring, 4 head; n checks failed, after transmission began or not. -/
def streamCheck (h num kind reader : Nat) (began : Bool) (n : Nat) (d : Dev) : Dev :=
  if n = 0 then d
  else
    let counter := if kind = 1 then 10 else if kind = 4 then 11 else 9
    let d := (List.range n).foldl (fun d _ => bumpInteg counter d) d
    if d.hbm.streamTold.contains (h, num) then d
    else raise evIntegrity 4 h (num + kind * 2 ^ 32 + reader * 2 ^ 36 + b2n began * 2 ^ 40)
      (modHbm (fun x => { x with streamTold := (h, num) :: x.streamTold.filter fun y => y.1 != h }) d)

/-- The segments whose bytes no longer match the check beside them. -/
def badSegs (segs : List Nat) (checks : List Dword) (bytes : List Byte) : Nat :=
  ((cutBytes segs bytes).zip checks).countP fun (b, c) => crc64Xz b != c

/-- The last four bytes of a part of a Holm Raw unit are the CRC-32C of those before them (09 R258, R260). -/
def holmCheckOk (l : List Byte) : Bool := le l (l.length - 4) 4 == (crc32c (l.take (l.length - 4))).toNat

/-- The tiles of a Holm Raw unit that fail TILE_CHECK, and whether its header fails HDR_CHECK; the index has no check. -/
def badHolm (segs : List Nat) (bytes : List Byte) : Nat × Bool :=
  let parts := cutBytes segs bytes
  ((parts.drop 2).countP fun l => !holmCheckOk l, (parts.take 1).any fun l => !holmCheckOk l)

/-- The flows and the host ring of a source, those that take its units, tell a mismatch in what they read: n segments or tiles
of a kind, and for Holm Raw the header (11 R307, R308, R315). -/
def readerChecks (h num kind n : Nat) (hdr flows ring : Bool) (d : Dev) : Dev :=
  let tell (reader : Nat) (began : Bool) (d : Dev) : Dev :=
    streamCheck h num 3 reader began (b2n hdr) (streamCheck h num kind reader began n d)
  let d := if flows then tell 2 true d else d
  if ring then tell 3 false d else d

/-- Checks of 16 lines each of a picture's planes (11 R303). -/
def planeChecks (shape : List (Nat × Nat)) (bytes : List Byte) : List Word :=
  shape.zipIdx.flatMap fun ((b, h), i) =>
    let at' := planesBytes (shape.take i)
    (List.range (divUp h 16)).map fun k =>
      crc32c ((bytes.drop (at' + 16 * k * pitchOf b)).take (min 16 (h - 16 * k) * pitchOf b))

/-- A consumer of a ring of pictures reads one from its device address: the bytes of lost sectors are zero, and each plane check
that no longer matches counts and raises STREAM_CHECK, after transmission began (11 R303, R308, R311, R315, 12 R327); with the
bytes sent as zero. A plane belongs to no session: HANDLE is the reader's (DESIGN CHOICE, log 113). -/
def readRing (h reader num addr : Nat) (shape : List (Nat × Nat)) (bytes : List Byte) (d : Dev) : Dev × List Byte × Nat :=
  if addr = 0 then (d, bytes, 0)
  else
    let (d, lost) := hbmRead { handle := h, cls := 0, frame := num } addr bytes.length d
    if lost.isEmpty then (d, bytes, 0)
    else
      let got := zeroLost (lost.map fun sec => 32 * sec - addr) bytes
      let n := ((planeChecks shape bytes).zip (planeChecks shape got)).countP fun (a, b) => a != b
      (streamCheck h num 4 reader true n d, got, 32 * lost.length)

/-- The same of a frame that a tap has put into the ring of an attachment. -/
def readTapRing (h reader : Nat) (tf : TapFin) (d : Dev) : Dev × List Byte × Nat :=
  let addr := match hbmBuffer d h with
    | some b => slotAt b (planesBytes (tapShape tf)) tf.slot
    | none => 0
  readRing h reader tf.fin.frm.num addr (tapShape tf) (tapPlanes tf.fin tf.snap) d

/-- A destination reads a unit out of its source's buffer: the bytes, those of lost sectors zero, and whether any were lost. -/
def readUnit (u : MemUser) (addr : Nat) (bytes : List Byte) (d : Dev) : Dev × List Byte × Bool :=
  if addr = 0 then (d, bytes, false)
  else
    let (d, lost) := hbmRead u addr bytes.length d
    (d, zeroLost (lost.map fun sec => 32 * sec - addr) bytes, !lost.isEmpty)

end Sys2Proof.Machine
end

