-- ==== Sys2Proof/Machine/Holm.lean ====
section
/-!
DEFINITION. Machine/Holm.lean: Holm Raw: the bitstream of an access unit, the sessions, and the commands
that open and close them (09).
-/
namespace Sys2Proof.Machine

/-! The coder (09 R260-R265). -/

/-- D of R263. -/
def holmD : List Nat := [0, 1, 2, 3, 4, 6, 8, 12, 16, 24, 32, 48, 64, 96, 128, 192]

/-- The step of a quantiser index (09 R263). -/
def holmStep (bits qi : Nat) : Nat := (holmD[qi % 16]?).getD 0 * 2 ^ bits / 4096

/-- QI of a quality parameter (09 R265). -/
def qualityQi (q : Nat) : Nat := ([0, 1, 2, 4, 6, 8, 10, 12][q]?).getD 0

/-- n bits of a number, most significant first. -/
def bitsMsb (n v : Nat) : List Bool := (List.range n).map fun i => bitOf v (n - 1 - i)

/-- Bytes from bits, most significant first, filled with zero bits (09 R257). -/
def packMsb : List Bool → List Byte
  | b7 :: b6 :: b5 :: b4 :: b3 :: b2 :: b1 :: b0 :: l =>
    BitVec.ofNat 8 (b2n b7 * 128 + b2n b6 * 64 + b2n b5 * 32 + b2n b4 * 16 + b2n b3 * 8 + b2n b2 * 4 +
      b2n b1 * 2 + b2n b0) :: packMsb l
  | [] => []
  | l => [BitVec.ofNat 8 ((l.zipIdx.map fun (b, i) => b2n b * 2 ^ (7 - i)).foldl (· + ·) 0)]

/-- The quantised residual (09 R263). -/
def holmQ (delta : Nat) (e : Int) : Int :=
  if delta = 0 then e
  else
    let m : Int := (e.natAbs + delta) / (2 * delta + 1)
    if e < 0 then -m else m

/-- The residual code of q (09 R263). -/
def residualCode (k : Nat) (q : Int) : List Bool :=
  let m := if 0 ≤ q then 2 * q.toNat else 2 * (-q).toNat - 1
  let u := m / 2 ^ k
  if u < 24 then List.replicate u true ++ [false] ++ bitsMsb k m
  else List.replicate 24 true ++ bitsMsb 17 m

/-- A tile as it is coded: its size, its codes, and the codes reconstructed so far, row by row. -/
structure Tile where
  w    : Nat
  h    : Nat
  bits : Nat
  cw   : Nat
  ch   : Nat
  v    : Nat → Nat → Nat

/-- A reconstructed sample of a tile. -/
def recAt (t : Tile) (rec : Array Int) (x y : Nat) : Int := rec.getD (y * t.w + x) 0

/-- The prediction of a sample (09 R262). -/
def holmPred (t : Tile) (rec : Array Int) (x y : Nat) : Int :=
  let ea := decide (t.cw ≤ x)
  let eb := decide (t.ch ≤ y)
  let a := recAt t rec (x - t.cw) y
  let b := recAt t rec x (y - t.ch)
  let c := recAt t rec (x - t.cw) (y - t.ch)
  if ea && eb then
    if max a b ≤ c then min a b else if c ≤ min a b then max a b else a + b - c
  else if ea then a
  else if eb then b
  else 2 ^ (t.bits - 1)

/-- The samples of block (bx, by), in coding order (09 R261). -/
def blockSamples (t : Tile) (bx bj : Nat) : List (Nat × Nat) :=
  ((List.range 8).flatMap fun j => (List.range 32).map fun i => (32 * bx + i, 8 * bj + j)).filter
    fun (x, y) => decide (x < t.w) && decide (y < t.h)

/-- One block coded in a mode: its bits and the reconstruction (09 R263). -/
def codeBlock (t : Tile) (bx bj : Nat) (c : HolmChoice) (rec : Array Int) : List Bool × Array Int :=
  let head : List Bool := match c.mode with
    | 0 => [false, false] ++ bitsMsb 4 c.qi ++ bitsMsb 4 c.k
    | 2 => [true, false]
    | _ => [false, true]
  let delta := holmStep t.bits c.qi
  let r := (blockSamples t bx bj).foldl
    (fun (acc : List (List Bool) × Array Int) (x, y) =>
      let p := holmPred t acc.2 x y
      let v : Int := t.v x y
      match c.mode with
      | 0 =>
        let q := holmQ delta (v - p)
        let rv := max 0 (min (2 ^ t.bits - 1) (p + q * (2 * delta + 1)))
        (residualCode c.k q :: acc.1, acc.2.setIfInBounds (y * t.w + x) rv)
      | 2 => (bitsMsb t.bits (t.v x y) :: acc.1, acc.2.setIfInBounds (y * t.w + x) v)
      | _ => (acc.1, acc.2.setIfInBounds (y * t.w + x) p)) ([], rec)
  (head ++ r.1.reverse.flatten, r.2)

/-- Every sample of a block lies within a bound of its reconstruction. -/
def blockWithin (t : Tile) (bx bj bound : Nat) (rec : Array Int) : Bool :=
  (blockSamples t bx bj).all fun (x, y) => decide ((recAt t rec x y - t.v x y).natAbs ≤ bound)

/-- A choice in range: reserved MODE 3 is not used. -/
def cleanChoice (c : HolmChoice) : HolmChoice :=
  { mode := if c.mode = 0 then 0 else if c.mode = 2 then 2 else 1, qi := c.qi % 16, k := c.k % 16 }

/-- What quality mode makes of the engine's choice (09 R265): the bound holds, and RAW replaces a longer
CODED. -/
def qualityBlock (t : Tile) (bx bj q : Nat) (c : HolmChoice) (rec : Array Int) : HolmChoice :=
  let bound := holmStep t.bits (qualityQi q)
  let c := if c.mode = 1 && !blockWithin t bx bj bound (codeBlock t bx bj c rec).2 then
      { c with mode := 0, qi := qualityQi q }
    else if c.mode = 0 && bound < holmStep t.bits c.qi then { c with qi := qualityQi q } else c
  let n := (blockSamples t bx bj).length
  if c.mode = 0 && 2 + n * t.bits < (codeBlock t bx bj c rec).1.length then { c with mode := 2 } else c

/-- What a tile came to: bits, reconstruction, RAW blocks and blocks forced FLAT (09 R274). -/
structure TileOut where
  bits : List (List Bool)
  img  : Array Int
  used : Nat
  raw  : Nat
  tail : Nat

/-- The blocks of a tile with the engine's choices; a choice of none is a block the engine did not
finish, FLAT (09 R264, R265, R275). -/
def codeTile (t : Tile) (ratio : Bool) (param : Nat) (choice : Nat → Nat → Option HolmChoice) : TileOut :=
  let bw := divUp t.w 32
  let nB := bw * divUp t.h 8
  let budget := max (t.w * t.h * t.bits * 4 / max param 1) (2 * nB)
  let flat : HolmChoice := { mode := 1, qi := 0, k := 0 }
  (List.range nB).foldl
    (fun o k =>
      let bx := k % bw
      let bj := k / bw
      let c := match choice bx bj with
        | none => flat
        | some c => if ratio then cleanChoice c else qualityBlock t bx bj param (cleanChoice c) o.img
      let (b, r) := codeBlock t bx bj c o.img
      let room := budget - o.used - 2 * (nB - 1 - k)
      if ratio && decide (room < b.length) then
        let (b, r) := codeBlock t bx bj flat o.img
        { o with bits := b :: o.bits, img := r, used := o.used + b.length, tail := o.tail + 1 }
      else
        { o with bits := b :: o.bits, img := r, used := o.used + b.length, raw := o.raw + b2n (c.mode == 2) })
    { bits := [], img := Array.replicate (t.w * t.h) 0, used := 0, raw := 0, tail := 0 }

/-! Fields of HOLM_OPEN (09 R270). -/

def hoRatio (c : List Byte) : Bool := le c 0 1 == 0
def hoParam (c : List Byte) : Nat := le c 1 1
def hoStreams (c : List Byte) : Nat := le c 2 1
def hoAxis (c : List Byte) : Bool := bitOf (le c 3 1) 0
def hoEmb (c : List Byte) : Bool := bitOf (le c 3 1) 1
def hoCfaW (c : List Byte) : Nat := le c 4 1
def hoCfaH (c : List Byte) : Nat := le c 5 1
def hoFps (c : List Byte) : Nat := le c 8 2
def hoRing (c : List Byte) : Bool := le c 16 8 != 0
def hoSlots (c : List Byte) : Nat := le c 26 2
def hoSlotBytes (c : List Byte) : Nat := le c 28 4
def hoVector (c : List Byte) : Nat := le c 32 2

/-- The coded streams, lower first. -/
def hoList (c : List Byte) : List Nat := (List.range 2).filter fun s => bitOf (hoStreams c) s

def tilesX (g : Geo) : Nat := divUp (g.samples + 1) 1024
def tilesY (g : Geo) : Nat := divUp (g.height + 1) 256
/-- Width and height of a tile (09 R260). -/
def tileW (g : Geo) (tx : Nat) : Nat := min (1024 * tx + 1023) g.samples + 1 - 1024 * tx
def tileH (g : Geo) (ty : Nat) : Nat := min (256 * ty + 255) g.height + 1 - 256 * ty

/-- Block rows of a frame. -/
def blockRows (g : Geo) : Nat := divUp (g.height + 1) 8

/-- Blocks of a block row over the tile columns and coded streams. -/
def rowBlocks (g : Geo) (streams : List Nat) : Nat :=
  ((List.range (tilesX g)).map fun i => divUp (tileW g i) 32 * streams.length).foldl (· + ·) 0

/-- Where the choices of a tile's blocks start in the list of a block row: tile columns in order, in
each the coded streams in order, in each its blocks. -/
def rowOffset (g : Geo) (streams : List Nat) (tx si : Nat) : Nat :=
  ((List.range tx).map fun i => divUp (tileW g i) 32 * streams.length).foldl (· + ·) 0 + si * divUp (tileW g tx) 32

/-- The engine's choice for a block; none where it did not finish it, or a memory error touched it (09 R275). -/
def workChoice (w : HolmWork) (g : Geo) (streams : List Nat) (tx ty s si bx bj : Nat) : Option HolmChoice :=
  if w.holes.contains (s, 32 * ty + bj, 32 * tx + bx) then none
  else (w.rows[32 * ty + bj]?).bind fun row => row.choices[rowOffset g streams tx si + bx]?

/-- The frame's header has DAMAGED set: a fault, a memory error, or a line whose check failed at the engine's input (09 R275,
11 R307). -/
def holmDamaged (memory : Bool) (f : Frm) (w : HolmWork) : Bool :=
  w.fault != 0 || w.mem || (!memory && !(badLines f).isEmpty)

/-- One tile with its header, payload and check (09 R260). -/
def tileBytes (s tx ty w h : Nat) (payload : List Byte) : List Byte :=
  let t := [0x48, 0x54] ++ pack [(1, s), (1, tx), (1, ty), (1, 0), (2, w - 1), (2, h - 1), (2, 0), (4, payload.length)] ++ payload
  t ++ toLE 4 (crc32c t).toNat

/-- A multiple of a unit at or above a length. -/
def padTo (u : Nat) (l : List Byte) : List Byte := fit (divUp l.length u * u) l

/-- The tiles of a frame in index order, with the counts of RAW and forced blocks (09 R259). -/
def holmTiles (c : List Byte) (g : Geo) (f : Frm) (w : HolmWork) : List (List Byte) × Nat × Nat :=
  let streams := hoList c
  let places := (List.range (tilesY g)).flatMap fun ty => (List.range (tilesX g)).flatMap fun tx =>
    streams.zipIdx.map fun (s, si) => (ty, tx, s, si)
  places.foldl
    (fun (acc : List (List Byte) × Nat × Nat) (ty, tx, s, si) =>
      let rows := (List.range (tileH g ty)).toArray.map fun y =>
        (((codesOf f g f.fe s (256 * ty + y)).2.drop (1024 * tx)).take (tileW g tx)).toArray
      let t : Tile := { w := tileW g tx, h := tileH g ty, bits := g.bits, cw := hoCfaW c, ch := hoCfaH c
                        v := fun x y => (rows.getD y #[]).getD x 0 }
      let o := codeTile t (hoRatio c) (hoParam c) (fun bx bj => workChoice w g streams tx ty s si bx bj)
      let payload := padTo 4 (packMsb o.bits.reverse.flatten)
      (acc.1 ++ [tileBytes s tx ty t.w t.h payload], acc.2.1 + o.raw, acc.2.2 + o.tail))
    ([], 0, 0)

/-- The embedded packets that fit in 262,144 bytes, and whether any was left out (09 R258). -/
def holmEmb (f : Frm) : List Byte × Bool :=
  f.emb.foldl (fun (acc : List Byte × Bool) e =>
    if acc.1.length + e.length ≤ 262144 then (acc.1 ++ e, acc.2) else (acc.1, true)) ([], false)

/-- An access unit: its bytes, those of its header, its index and each tile, the counts of RAW and forced blocks, and
EMB_TRUNCATED. -/
structure HolmUnit where
  bytes : List Byte
  segs  : List Nat
  raw   : Nat
  tail  : Nat
  cut   : Bool

/-- The access unit of a frame (09 R257-R260). -/
def holmAu (c : List Byte) (g : Geo) (f : Frm) (axis : List Byte) (damaged : Bool) (w : HolmWork) : HolmUnit :=
  let (tiles, raw, tail) := holmTiles c g f w
  let axis := if hoAxis c then axis.take 3840 else []
  let (emb, cut) := if hoEmb c then holmEmb f else ([], false)
  let flags := b2n (!hoRatio c) + b2n (!axis.isEmpty) * 2 + b2n (hoEmb c) * 4 + b2n damaged * 8 + b2n cut * 16
  let hdrLen := 128 + divUp (axis.length + emb.length) 4 * 4 + 4
  let total := hdrLen + 4 * tiles.length + (tiles.map List.length).foldl (· + ·) 0
  let fixed := [0x48, 0x4F, 0x4C, 0x4D] ++ pack [(1, 1), (1, flags), (1, hoParam c), (1, g.bits), (4, f.num), (4, f.status)] ++
    expBytes f ++ pack [(4, f.tm.eo), (4, f.tm.ed), (4, f.tm.ls), (2, g.samples), (2, g.height), (1, hoCfaW c),
      (1, hoCfaH c), (1, hoStreams c), (1, tilesX g), (1, tilesY g), (1, f.port), (2, axis.length), (4, emb.length),
      (4, total)] ++ (fit 128 c).drop 64
  let hdr := padTo 4 (fixed ++ axis ++ emb)
  let hdr := hdr ++ toLE 4 (crc32c hdr).toNat
  let index := (tiles.foldl (fun (acc : List Byte × Nat) t => (acc.1 ++ toLE 4 acc.2, acc.2 + t.length))
    ([], hdrLen + 4 * tiles.length)).1
  { bytes := hdr ++ index ++ tiles.flatten, segs := hdr.length :: index.length :: tiles.map List.length, raw, tail, cut }

/-- AU_MAX (09 R266). -/
def auMax (c : List Byte) (g : Geo) : Nat :=
  let per (tx ty : Nat) : Nat :=
    let n := tileW g tx * tileH g ty
    let nB := divUp (tileW g tx) 32 * divUp (tileH g ty) 8
    let p := if hoRatio c then max (n * g.bits * 4 / max (hoParam c) 1) (2 * nB) else 2 * nB + n * g.bits
    24 + 4 * divUp p 32
  let tiles := ((List.range (tilesY g)).flatMap fun ty => (List.range (tilesX g)).map fun tx => per tx ty).foldl (· + ·) 0
  132 + (if hoAxis c then 3840 else 0) + (if hoEmb c then 262144 else 0) + tiles * (hoList c).length

/-! Sessions (09 R267-R275). -/

def modHolm (slot : Nat) (f : HolmSes → HolmSes) (d : Dev) : Dev := { d with holm := tabMod d.holm slot f }

/-- The session a handle names. -/
def holmOf (d : Dev) (h : Nat) : Option (Nat × HolmSes) := d.holm.find? fun p => p.2.handle == h

/-- HOLM_SKIPPED (09 R276). -/
def holmSkip (slot : Nat) (s : HolmSes) (num cause : Nat) (d : Dev) : Dev :=
  raise evCodec 0x21 s.handle (num + cause * 2 ^ 32) (modHolm slot (fun s => { s with skipped := s.skipped + 1 }) d)

/-- A trigger is sent on a port: each session on it takes the frame or skips it (09 R267). -/
def holmTrigger (p : PortId) (num t : Nat) (tm : Timing) (d : Dev) : Dev :=
  d.holm.foldl (fun d (slot, s) =>
    if s.port != p.val || !s.closing.isEmpty then d
    else if s.lastT.any fun u => decide ((t - u + 40) * hoFps s.cfg < 1000000000) then holmSkip slot s num 1 d
    else if geoOf (port d p) != s.geo then holmSkip slot s num 2 d
    else modHolm slot (fun s => { s with
      lastT := some t
      work := s.work ++ [{ num, t, tm, frm := none, rows := [], fault := 0, cut := false, ep := d.pcie.epoch }] }) d) d

/-- Change a frame of a session. -/
def modWork (slot num : Nat) (f : HolmWork → HolmWork) (d : Dev) : Dev :=
  modHolm slot (fun s => { s with work := s.work.map fun w => if w.num = num then f w else w }) d

/-- The line on which block row r rests: 8 lines past its last (09 R268). -/
def rowNeeds (height r : Nat) : Nat := min (8 * r + 7) height + 8

/-- The block rows whose line has been presented take their instant, 320 PCLK later; n bounds them. -/
def dueRows (height next at' : Nat) : Nat → List Nat → List Nat
  | 0, l => l
  | n + 1, l =>
    if rowNeeds height l.length < next && rowNeeds height l.length ≤ height then dueRows height next at' n (l ++ [at' + 320]) else l

/-- An in-line port has presented the lines of its open frame below next, the last of them from a PCLK instant (09 R268). -/
def holmLines (p : PortId) (num next at' : Nat) (d : Dev) : Dev :=
  d.holm.foldl (fun d (slot, s) =>
    if s.port != p.val || s.memory then d
    else modWork slot num (fun w => { w with due := dueRows s.geo.height next at' (blockRows s.geo) w.due }) d) d

/-- The block rows that rest on what the close of a frame fills, and on lines past HEIGHT, which count as presented one line
time apart (09 R268, 05 R144). -/
def dueRest (g : Geo) (tm : Timing) (at' : Nat) (l : List Nat) : List Nat :=
  l ++ (List.range (blockRows g - l.length)).map fun i =>
    at' + (rowNeeds g.height (l.length + i) - g.height) * tm.ls / 500 + 320

/-- A frame of a port has closed: the sessions that code it have all its lines. -/
def holmFrame (p : PortId) (f : Frm) (d : Dev) : Dev :=
  d.holm.foldl (fun d (slot, s) =>
    if s.port != p.val then d
    else modWork slot f.num (fun w => { w with
      frm := some f
      due := if s.memory then [] else dueRest s.geo w.tm (max (port d p).isleFree (nowPclk d)) w.due }) d) d

/-- The engine may still do a block row of a frame. -/
def wantsRow (s : HolmSes) (w : HolmWork) : Bool :=
  w.fault = 0 && !w.cut && decide (w.rows.length < blockRows s.geo)

/-- The next block row of a frame may be complete by now: its instant of R268 has come, or its frame is in HBM (09 R268, R269). -/
def rowCame (d : Dev) (s : HolmSes) (w : HolmWork) : Bool :=
  if s.memory then w.frm.isSome else (w.due[w.rows.length]?).any fun t => decide (t ≤ nowPclk d)

/-- The blocks of a through-memory frame that the lost bytes of its tiles touch, 32 bytes from each offset. -/
def holesOf (k : Port) (l : List (Nat × Nat)) : List (Nat × Nat × Nat) :=
  l.flatMap fun (t, o) =>
    let y := 16 * (t % tilesOf k) + o / linePitch k
    let lo := 8 * (o % linePitch k) / k.bits / 32
    let hi := (8 * (o % linePitch k + 32) - 1) / k.bits / 32
    (List.range (hi + 1 - lo)).map fun i => (t / tilesOf k, y / 8, lo + i)

/-- The engine reads what a block row of a through-memory frame needs, each raw tile once: a tile that fails or is tainted marks
LINK_ERR, and an uncorrectable error makes the blocks it touches FLAT and raises HOLM_FAULT, once for a frame (09 R269, R275;
11 R307). -/
def holmRead (slot : Nat) (s : HolmSes) (w : HolmWork) (f : Frm) (d : Dev) : Dev :=
  if w.rows.length % 2 = 1 then d
  else
    let p := portOf s.port
    let k := port d p
    let r := readTiles { handle := s.handle, cls := 1, frame := f.num } (mkHandle 2 0 p.val) k (frameAddr d p true f.slot) f
      ((hoList s.cfg).map fun x => x * tilesOf k + w.rows.length / 2) d
    let d := modWork slot w.num (fun w => { w with
      frm := some { r.frm with status := if r.bad.isEmpty then r.frm.status else r.frm.status ||| 8 }
      mem := w.mem || r.lost, holes := w.holes ++ holesOf k r.holes }) r.dev
    if r.lost && !w.mem then raise evCodec 0x20 s.handle (w.num + 3 * 2 ^ 32) d else d

/-- HOLM_ROW_DONE: the next block row of the oldest frame that wants one, once its lines are there, with a choice for each block
of every tile column and coded stream (09 R268, R269). -/
def holmRowDone (slot : Nat) (choices : List HolmChoice) (d : Dev) : Dev :=
  match tabGet d.holm slot with
  | none => d
  | some s =>
    match s.work.find? (wantsRow s) with
    | some w =>
      if choices.length = rowBlocks s.geo (hoList s.cfg) && rowCame d s w then
        let d := match s.memory, w.frm with
          | true, some f => holmRead slot s w f d
          | _, _ => d
        modWork slot w.num (fun w => { w with rows := w.rows ++ [{ at' := d.tu.ns, choices }] }) d
      else d
    | none => d

def execHolmRowDone (ses : Nat) (choices : List HolmChoice) (s : State) :
    Host.Outcome State Fault Refusal :=
  .next (s.mapDev (holmRowDone ses choices))

/-- The frame of a work as it stands: closed, still open, or triggered and not begun. -/
def workFrame (d : Dev) (s : HolmSes) (w : HolmWork) : Frm :=
  match w.frm with
  | some f => f
  | none =>
    let k := port d (portOf s.port)
    match k.cur with
    | some f =>
      if f.num = w.num then { f with fe := (ctxOf d (isleOf s.isle) (portOf s.port)).pipe.fe }
      else blank k
    | none => blank k
where
  blank (k : Port) : Frm :=
    { port := s.port, num := w.num, t := w.t, tm := w.tm, status := 0, lines := [], next0 := 0, next1 := 0
      emb := [], filled := 0, lastNs := k.closed, delayed := false, crcErrs := 0
      fe := (ctxOf d (isleOf s.isle) (portOf s.port)).pipe.fe }

/-- HOLM_STATUS (09 R274). -/
def holmStatus (w : HolmWork) (damaged : Bool) (tail : Nat) (dropped cut : Bool) : Nat :=
  b2n (tail != 0) + b2n damaged * 2 + b2n (w.fault != 0) * 4 + b2n w.mem * 8 + b2n dropped * 16 + b2n cut * 32

/-- A frame takes the next slot of the ring: SEQ with BUSY, the access unit, and the record last; or it is discarded with its
number used, where delivery has stopped since its trigger or a sector of it is lost (09 R274, 07 R220, 02 R562). -/
def holmRing (slot : Nat) (s : HolmSes) (w : HolmWork) (record au : List Byte) (lost : Bool) (d : Dev) : Dev :=
  if !hoRing s.cfg then d
  else
    let seq := s.seq + 1
    if deliversFrom w.ep d && !lost then
      let body := if hoSlotBytes s.cfg = 0 then toLE 8 (seq % 2 ^ 63) ++ record
        else fit 4096 (toLE 8 (seq % 2 ^ 63) ++ record) ++ au
      let d := emit (ringBusy s.handle (hoSlots s.cfg) seq s.wrote) d
      let d := modHolm slot (fun s => { s with seq, wrote := tabSet s.wrote (ringSlot (hoSlots s.cfg) seq) seq }) d
      notify (hoVector s.cfg) (emit (.ring s.handle (ringSlot (hoSlots s.cfg) seq) seq body) d)
    else
      raise evCodec 0x23 s.handle (w.num + seq % 2 ^ 31 * 2 ^ 32)
        (modHolm slot (fun s => { s with seq, dropped := s.dropped + 1 }) d)

/-- The access unit goes into a third of the session's HBM buffer; its device address, 0 without a buffer (09 R272; log 86). -/
def holmStore (s : HolmSes) (num : Nat) (au : HolmUnit) (d : Dev) : Dev × Nat :=
  match hbmBuffer d s.handle with
  | none => (d, 0)
  | some b =>
    let a := b + s.count % 3 * auMax s.cfg s.geo
    (hbmWrite { handle := s.handle, cls := 1, frame := num } a au.bytes.length d, a)

/-- The flows and the host ring read a unit out of the buffer: the bytes as read, whether any are lost, whether a check fails in
them (11 R307, R308). -/
def holmReadOut (s : HolmSes) (num addr : Nat) (au : HolmUnit) (d : Dev) : Dev × List Byte × Bool × Bool :=
  let (d, got, lost) := readUnit { handle := s.handle, cls := 1, frame := num } addr au.bytes d
  let (tiles, hdr) := if lost then badHolm au.segs got else (0, false)
  (readerChecks s.handle num 2 tiles hdr (!(flowsOf d s.handle 1).isEmpty) (hoRing s.cfg && hoSlotBytes s.cfg != 0) d,
    got, lost, tiles != 0 || hdr)

/-- The access unit of the session's oldest frame is complete (09 R257-R274). -/
def holmFinish (slot : Nat) (d : Dev) : Dev :=
  match tabGet d.holm slot with
  | none => d
  | some s =>
    match s.work with
    | [] => d
    | w :: rest =>
      let f := workFrame d s w
      let damaged := holmDamaged s.memory f w
      let au := holmAu s.cfg s.geo f (axisRecord d s.port f.num) damaged w
      let (d, addr) := holmStore s f.num au d
      let (d, got, lost, bad) := holmReadOut s f.num addr au d
      let st := holmStatus w damaged au.tail (flowsDrop d s.handle || bad) au.cut
      let record := pack [(4, f.num), (4, f.status), (4, st), (4, au.bytes.length), (4, au.raw), (4, au.tail),
        (4, expStart f % 2 ^ 32), (4, ns32 d), (24, 0)]
      let d := modHolm slot (fun s => { s with
        work := rest, last := some f.num, count := s.count + 1
        au := some { num := f.num, status := f.status, holm := st, expNs := expStart f, bytes := au.bytes } }) d
      let u : AuOut :=
        { num := f.num, status := f.status, pts := expStart f, rap := true, damaged, bytes := au.bytes, segs := au.segs, addr
          holm := true }
      let d := offerFrameMeta s.handle f false true (offerCompressed s.handle 2 f.num (expStart f) true got (offerRec s.handle u d))
      holmRing slot s w record got lost d

/-- HOLM_AU_DONE: every block row of the oldest frame is done, or FLAT after a fault once the frame has closed, or FLAT because
the session closes at once. -/
def holmAuDone (slot : Nat) (d : Dev) : Dev :=
  match tabGet d.holm slot with
  | none => d
  | some s =>
    match s.work with
    | [] => d
    | w :: _ => if w.cut || (w.frm.isSome && !wantsRow s w) then holmFinish slot d else d

def execHolmAuDone (ses : Nat) (s : State) : Host.Outcome State Fault Refusal :=
  .next (s.mapDev (holmAuDone ses))

/-! Engine faults (09 R275, R276). -/

/-- The frame of a session in progress: the oldest with blocks to code that its engine has begun, or its port is sending. -/
def inProgress (d : Dev) (s : HolmSes) : Option HolmWork :=
  (s.work.find? (wantsRow s)).filter fun w =>
    !w.rows.isEmpty || (!s.memory && (w.frm.isSome || ((port d (portOf s.port)).cur.map Frm.num) == some w.num))

/-- Sessions of an Isle, by slot. -/
def holmOn (d : Dev) (i : IsleId) : List (Nat × HolmSes) := d.holm.filter fun p => p.2.isle == i.val

/-- A fault of an Isle's engine: the blocks that are not complete of each frame in progress are FLAT, and HOLM_FAULT names it.
A session without one is named with frame 0xFFFFFFFF, and no session with HANDLE 0 (DESIGN CHOICE, log 100). -/
def holmFault (i : IsleId) (cause : Nat) (d : Dev) : Dev :=
  let one (d : Dev) (x : Nat × HolmSes) : Dev :=
    match inProgress d x.2 with
    | none => raise evCodec 0x20 x.2.handle (0xFFFFFFFF + cause * 2 ^ 32) d
    | some w => raise evCodec 0x20 x.2.handle (w.num + cause * 2 ^ 32) (modWork x.1 w.num (fun w => { w with fault := cause }) d)
  match holmOn d i with
  | [] => raise evCodec 0x20 0 (0xFFFFFFFF + cause * 2 ^ 32) d
  | l => l.foldl one d

def execHolmParityError (i : IsleId) (s : State) : Host.Outcome State Fault Refusal :=
  .next (s.mapDev (holmFault i 1))

/-- An in-line session's next block row is not complete 4,096 PCLK after its instant. -/
def rowLate (d : Dev) (s : HolmSes) : Bool :=
  s.work.any fun w => wantsRow s w && (w.due[w.rows.length]?).any fun t => decide (t + 4096 ≤ nowPclk d)

/-- HOLM_ROW_TIMEOUT (09 R275). -/
def holmRowTimeout (i : IsleId) (d : Dev) : Dev :=
  if (holmOn d i).any fun x => rowLate d x.2 then holmFault i 2 d else d

def execHolmRowTimeout (i : IsleId) (s : State) : Host.Outcome State Fault Refusal :=
  .next (s.mapDev (holmRowTimeout i))

/-! HOLM_OPEN (09 R270-R272). -/

/-- Pixels per second a session may code. -/
def holmRate (c : List Byte) (g : Geo) : Nat := (g.samples + 1) * (g.height + 1) * hoFps c * (hoList c).length

/-- The reservations of a session (09 R272). -/
def holmWants (isle : Nat) (k : Port) (c : List Byte) : List (Nat × Nat × Nat) :=
  let g := geoOf k
  let m := auMax c g
  let extra := if k.memory then frameBytes k * hoFps c else 0
  let lagoon := if k.memory then 65536 else 20 * (k.samples + 1) * 2 * (hoList c).length + 65536
  let host := if hoRing c then (if hoSlotBytes c = 0 then 64 * hoFps c else (m + 4096) * hoFps c) else 0
  [(rcHolmSes, isle, 1), (rcHbmBw, unitAll, divUp (m * hoFps c + extra) 1000000), (rcHbmCap, unitAll, divUp (3 * m) (2 ^ 20)),
   (rcLagoon, unitAll, divUp lagoon 1024), (rcHost, 0, divUp host 1000000), (rcPower, unitAll, divUp (holmRate c g) 10000000)]

/-- The ranges of the structure (09 R270). Those of the ring hold without a ring too (DEDUCED, log 99). -/
def holmValid (c : List Byte) : Bool :=
  decide (le c 0 1 ≤ 1) &&
  (if hoRatio c then decide (12 ≤ hoParam c) && decide (hoParam c ≤ 72) else decide (hoParam c ≤ 7)) &&
  decide (1 ≤ hoStreams c) && decide (hoStreams c ≤ 3) && decide (le c 3 1 ≤ 3) &&
  decide (2 ≤ hoCfaW c) && decide (hoCfaW c ≤ 4) && decide (2 ≤ hoCfaH c) && decide (hoCfaH c ≤ 4) &&
  zeroAt c 7 1 && decide (1 ≤ hoFps c) && decide (hoFps c ≤ 1000) && zeroAt c 10 6 && zeroAt c 34 30 &&
  le c 16 8 % 16 == 0 && decide (1 ≤ hoSlots c) && decide (hoSlots c ≤ 255) && hoSlotBytes c % 4096 == 0 &&
  decide (hoVector c ≤ 2047)

/-- Sessions of an Isle, and the pixel rate they may code. -/
def isleSessions (d : Dev) (isle : Nat) : List HolmSes := (d.holm.map (·.2)).filter fun s => s.isle == isle
def isleHolmRate (d : Dev) (isle : Nat) : Nat :=
  ((isleSessions d isle).map fun s => holmRate s.cfg s.geo).foldl (· + ·) 0

/-- Bytes of a slot of the host ring (09 R274). -/
def holmStride (c : List Byte) : Nat := if hoSlotBytes c = 0 then 64 else 4096 + hoSlotBytes c

def specHolmOpen : CmdSpec where
  op := .holmOpen
  layout := []
  data := structData 128
  handle := .fixed 2 4
  inner e :=
    let c := fit 128 e.data
    if !holmValid c then some stInvalidField
    else if hoRing c && decide (e.ringBytes < (hoSlots c + 1) * holmStride c) then some stLength else none

def holmOpenBody (c : Outst) (d : Dev) : Ans :=
  let p := portOf (hIdx c.e.handle.toNat)
  let k := port d p
  let cfg := fit 128 c.e.data
  let m := auMax cfg (geoOf k)
  check (!(bitOf (hoStreams cfg) 1 && k.streams == 1) &&
    (!hoRing cfg || hoSlotBytes cfg == 0 || decide (m ≤ hoSlotBytes cfg))) stInvalidField <|
  check (k.enabled && isleAvail d k.isle) stConflict <|
  if 32000000000 < isleHolmRate d k.isle + holmRate cfg (geoOf k) then
    .fail stExhausted 0xFF (resExt rcHolmSes k.isle 1 (2 - (isleSessions d k.isle).length))
  else match freeSlot d 9 8 with
    | none => .fail stExhausted 0xFF (resExt rcHolmSes k.isle 1 0)
    | some slot =>
      let (h, d') := openObj 9 slot c.qp 1 d
      withAdmission h true false (holmWants k.isle k cfg) d' fun d =>
        let ses : HolmSes :=
          { handle := h, port := p.val, isle := k.isle, cfg, geo := geoOf k, memory := k.memory, lastT := none
            last := none, count := 0, skipped := 0, seq := 0, dropped := 0, work := [], closing := [], now := false
            au := none }
        okAns { d with holm := tabSet d.holm slot ses } (res := h)

def execHolmOpen (t : Nat) (s : State) : Host.Outcome State Fault Refusal :=
  .next (s.mapDev (hostRow specHolmOpen t holmOpenBody))

/-! HOLM_CLOSE (09 R273). -/

/-- The latest end of a frame in ns (04 R130). -/
def latestEnd (k : Port) (tm : Timing) (t : Nat) : Nat :=
  t + tm.eo + tm.ed + divUp ((k.height + 1) * tm.ls) 1000 + divUp (64 * tm.ls) 1000 +
    divUp ((k.height + 1) * k.streams * linePclk k) 2

/-- One frame period of a port's group in ns, rounded up. -/
def portPeriod (d : Dev) (p : PortId) : Nat :=
  match groupOf d p with
  | some g => periods (grp d g) 1
  | none => 0

/-- The session leaves: its object and what it held go; the commands that wait complete with a status. -/
def holmRemove (slot st : Nat) (d : Dev) : Dev :=
  match tabGet d.holm slot with
  | none => d
  | some s =>
    let d := { d with holm := tabDel d.holm slot }
    let d := returnResv s.handle (closeObj s.handle d)
    s.closing.foldl (fun d t => completeTag (some t) st (s.last.getD 0xFFFFFFFF + s.count * 2 ^ 32) 0 d) d

/-- The frames of a session that closes at once, as it stood at an instant: what was triggered by then, a through-memory frame
only once its reading had begun; the rows done by then stand, and the rest is FLAT (09 R273). -/
def holmCut (ns : Nat) (s : HolmSes) : HolmSes :=
  { s with work := (s.work.filter fun w =>
      decide (w.t ≤ ns) && (!s.memory || w.rows.any fun r => decide (r.at' ≤ ns))).map fun w =>
    { w with cut := true, rows := w.rows.filter fun r => decide (r.at' ≤ ns) } }

/-- Every frame in progress is finished (09 R273). -/
def holmFinishAll (slot : Nat) (d : Dev) : Dev :=
  match tabGet d.holm slot with
  | none => d
  | some s => s.work.foldl (fun d _ => holmFinish slot d) d

def specHolmClose : CmdSpec where
  op := .holmClose
  layout := [(32, 0, 8)]
  checks e := [(32, decide (fld e 32 1 ≤ 1))]
  handle := .body

/-- HOLM_CLOSE (09 R273). What stood at its fetch decides. An AFTER_FRAME that finds any close waiting is a STATE_CONFLICT
(DESIGN CHOICE 78 where that one is IMMEDIATE). -/
def holmCloseBody (c : Outst) (d : Dev) : Ans :=
  match holmOf d c.e.handle.toNat with
  | none => .fail stInvalidHandle 4 0
  | some (slot, s) =>
    let k := port d (portOf s.port)
    let extra := if s.memory then portPeriod d (portOf s.port) else 0
    let d' := setObjSt s.handle 3 d
    if fld c.e 32 1 = 1 then
      .stay (modHolm slot (fun s => { holmCut c.ns s with closing := s.closing ++ [c.tag], now := true }) d') .stepped
    else
      let taken := s.work.filter fun w => decide (w.t ≤ c.ns)
      check s.closing.isEmpty stConflict <|
      check (taken.all fun w => decide (latestEnd k w.tm w.t + extra ≤ c.ns + 80000000)) stInvalidField <|
      .stay (modHolm slot (fun s => { s with closing := s.closing ++ [c.tag], work := taken }) d') .stepped

def execHolmClose (t : Nat) (s : State) : Host.Outcome State Fault Refusal :=
  .next (s.mapDev (hostRow specHolmClose t holmCloseBody))

/-- HOLM_CLOSE_DONE: no frame is left, or IMMEDIATE ends them. -/
def holmCloseDone (slot : Nat) (d : Dev) : Dev :=
  match tabGet d.holm slot with
  | none => d
  | some s =>
    if s.closing.isEmpty then d
    else if s.now then holmRemove slot stSuccess (holmFinishAll slot d)
    else if s.work.isEmpty then holmRemove slot stSuccess d
    else d

def execHolmCloseDone (ses : Nat) (s : State) : Host.Outcome State Fault Refusal :=
  .next (s.mapDev (holmCloseDone ses))

/-- Thermal shedding closes a session as IMMEDIATE (09 R276, R278). -/
def holmShed (slot : Nat) (d : Dev) : Dev :=
  let d := holmFinishAll slot (modHolm slot (holmCut d.tu.ns) d)
  match tabGet d.holm slot with
  | none => d
  | some s => raise evCodec 0x22 s.handle (s.last.getD 0xFFFFFFFF) (holmRemove slot stThermal d)

end Sys2Proof.Machine
end

