-- ==== Sys2Proof/Machine/Frames.lean ====
section
/-!
DEFINITION. Machine/Frames.lean: Smiwald packets and frame assembly (04 R108-R126, R135, R136): how a
port's frames open, fill, close and reach their destinations.
-/
namespace Sys2Proof.Machine

/-- The timing in force for frame n: the last TIMING, in command order, whose APPLY_FRAME has come (04
R133); it replaces what stood before it. -/
def timingFor (k : Port) (n : Nat) : Timing × List (Nat × Timing) :=
  let rev := k.later.reverse
  match rev.find? fun x => fnFrom x.1 n with
  | none => (k.timing, k.later)
  | some x => (x.2, (rev.takeWhile fun y => !fnFrom y.1 n).reverse)

/-! Packets (04 R108-R113). -/

/-- One byte of CRC-8, polynomial 0x07 (04 R108). -/
def crc8Byte (c : Nat) (b : Byte) : Nat :=
  let step (c : Nat) : Nat := if c < 0x80 then c * 2 else (c * 2 % 0x100) ^^^ 0x07
  step <| step <| step <| step <| step <| step <| step <| step (c ^^^ b.toNat)

/-- HCRC of a header (04 R108). -/
def hcrc (l : List Byte) : Nat := (l.take 7).foldl crc8Byte 0

/-- CRC-32 of IEEE 802.3 (04 R109). -/
def crc32 (l : List Byte) : Word := l.foldl (crcByte 0xEDB88320) 0xFFFFFFFF ^^^ 0xFFFFFFFF

def pktType (k : Pkt) : Nat := le k.bytes 0 1
def pktStream (k : Pkt) : Nat := bitsOf (le k.bytes 1 1) 0 2
def pktLen (k : Pkt) : Nat := le k.bytes 2 2
def pktLine (k : Pkt) : Nat := le k.bytes 4 2
def pktFn8 (k : Pkt) : Nat := le k.bytes 6 1
/-- Payload bytes: LEN + 1 words. -/
def pktSize (k : Pkt) : Nat := 4 * (pktLen k + 1)
def pktPayload (k : Pkt) : List Byte := (k.bytes.drop 8).take (pktSize k)
def hcrcOk (h : List Byte) : Bool := le h 7 1 == hcrc h
def pcrcOk (k : Pkt) : Bool :=
  le k.bytes (8 + pktSize k) 4 == (crc32 (k.bytes.take (8 + pktSize k))).toNat

/-- LEN of a LINE packet of the port (04 R110). -/
def lineLen (k : Port) : Nat := divUp ((k.samples + 1) * k.bits) 32 - 1

/-- Count in a port counter (04 R133). -/
def bumpPort (p : PortId) (i n : Nat) (d : Dev) : Dev :=
  modPort p (fun k => { k with cnt := k.cnt.setIfInBounds i (satInc (k.cnt.getD i 0) n) }) d

/-- The frame that awaits its FS: the oldest not bound to become a fill frame (04 R125). -/
def awaited (k : Port) : Option Trig := k.await.find? fun t => t.doom == 0

/-- The conditions under which hunt accepts a word position as a header (04 R113). -/
def headerAccepted (k : Port) (h : List Byte) : Bool :=
  let ty := le h 0 1
  let fn := le h 6 1
  let openFn := match k.cur with
    | some f => f.num % 256 == fn
    | none => false
  let nextFn := match awaited k, k.cur with
    | some t, _ => t.num % 256 == fn
    | none, some f => (f.num + 1) % 256 == fn
    | none, none => false
  hcrcOk h && decide (1 ≤ ty) && decide (ty ≤ 5) &&
  (ty != 1 || (le h 2 2 == 3 && (openFn || nextFn))) &&
  ((ty != 3 && ty != 4) || openFn) && (ty != 3 || le h 2 2 == lineLen k)

/-- A header that puts the port into hunt (04 R113): HCRC fails, or TYPE is 0x00 and the word no pad. -/
def headerBad (h : List Byte) : Bool :=
  if le h 0 1 = 0 then le h 0 4 != 0 else !hcrcOk h

/-- Change the bytes received and not yet taken. -/
def setRx (p : PortId) (l : List (Byte × Bool)) (d : Dev) : Dev := modPort p (fun k => { k with rx := l }) d

/-- Hunt (04 R113): S is discarded word by word up to a word position that is accepted as a header; n bounds the words. -/
def huntWords (k : Port) : Nat → List (Byte × Bool) → Option (List (Byte × Bool)) × List (Byte × Bool)
  | 0, l => (none, l)
  | n + 1, l =>
    if l.length < 8 then (none, l)
    else if headerAccepted k ((l.take 8).map (·.1)) then (some l, l)
    else huntWords k n (l.drop 4)

/-- Pad words between packets (04 R108). -/
def skipPads : List (Byte × Bool) → List (Byte × Bool)
  | a :: b :: c :: e :: l => if a.1 == 0 && b.1 == 0 && c.1 == 0 && e.1 == 0 then skipPads l else a :: b :: c :: e :: l
  | l => l

/-- Come to the next header: pads are skipped; a header that fails puts the port into hunt and counts HDR_ERR; in hunt, S
is discarded up to a header that is accepted (04 R108, R113). -/
def seekHeader (p : PortId) (d : Dev) : Dev :=
  let hunted (d : Dev) : Dev :=
    let x := port d p
    match huntWords x (x.rx.length / 4) x.rx with
    | (some l, _) => setRx p l (modPort p (fun k => { k with hunt := false }) d)
    | (none, l) => setRx p l d
  if (port d p).hunt then hunted d
  else
    let l := skipPads (port d p).rx
    let d := setRx p l d
    if 8 ≤ l.length && headerBad ((l.take 8).map (·.1)) then
      hunted (setRx p (l.drop 4) (bumpPort p 7 1 (modPort p (fun k => { k with hunt := true }) d)))
    else d

/-- SMIWALD_HUNT (04 R113): the words that have arrived are tested. -/
def smiwaldHunt (p : PortId) (times : List BlkTime) (d : Dev) : Dev := seekHeader p (receive p times d)

def execSmiwaldHunt (p : PortId) (times : List BlkTime) (s : State) : Host.Outcome State Fault Refusal :=
  .next (s.mapDev (smiwaldHunt p times))

/-- The packet at the head of the bytes received, once all of it is there (04 R108). -/
def frontPacket (x : Port) : Option Pkt :=
  let bytes := x.rx.map (·.1)
  let n := 12 + pktSize { bytes, blockErr := false }
  if x.hunt || x.rx.length < 8 || x.rx.length < n then none
  else some { bytes := bytes.take n, blockErr := (x.rx.take n).any (·.2) }

/-- Block times arrive; the packet they complete, where it is of the row's type, is taken from S (04 R108-R113). -/
def takeFront (p : PortId) (times : List BlkTime) (isType : Nat → Bool) (d : Dev) : Dev × Option Pkt :=
  let d := smiwaldHunt p times d
  if (link d p).state != 4 then (d, none)
  else match frontPacket (port d p) with
    | none => (d, none)
    | some k => if isType (pktType k) then (setRx p ((port d p).rx.drop k.bytes.length) d, some k) else (d, none)

/-- A packet row: what its packet does, once it is taken. -/
def takePacket (p : PortId) (times : List BlkTime) (isType : Nat → Bool) (d : Dev) (use : Pkt → Dev → Dev) : Dev :=
  match takeFront p times isType d with
  | (d, none) => d
  | (d, some k) => use k d

/-! Closing a frame (04 R123-R126). -/

/-- Status bits of 04 R126. -/
abbrev fsFill : Nat := 1
abbrev fsShort : Nat := 2
abbrev fsLong : Nat := 4
abbrev fsLinkErr : Nat := 8
abbrev fsTimingDiff : Nat := 16
abbrev fsSharedDelay : Nat := 32
abbrev fsMissing : Nat := 64
abbrev fsStopped : Nat := 128
abbrev fsFree : Nat := 4096

/-- Lines of a frame, every stream. -/
def allLines (k : Port) : Nat := (k.height + 1) * k.streams

/-- Lines a frame lacks after the last one received. -/
def tailLines (k : Port) (f : Frm) : Nat :=
  (k.height + 1 - f.next0) + (if k.streams = 2 then k.height + 1 - f.next1 else 0)

/-! Raw buffers and the copies that read them (04 R137-R139). -/

/-- A FRAME_FETCH ends without its frame: its command completes and its reservation returns. -/
def fetchFail (cmd : Nat) (d : Dev) : Dev :=
  returnResv (2 ^ 40 + cmd) (completeTag (some cmd) stNotAvailable 0 0 d)

def dropFetch (p : PortId) (cmd : Nat) (d : Dev) : Dev :=
  modPort p (fun k => { k with fetch := k.fetch.filter fun w => w.cmd != cmd }) d

/-- The oldest FRAME_FETCH of a raw buffer: commands that name one buffer run in fetch order (02 R49, 04 R139). -/
def fetchHead (k : Port) : Option FetchWait := k.fetch.find? fun w => !w.own

/-- The oldest command of a raw buffer begins its copy once its frame has closed, or fails where the buffer no longer
holds it (04 R134, R139); n bounds the commands. -/
def fetchPump (p : PortId) : Nat → Dev → Dev
  | 0, d => d
  | n + 1, d =>
    match fetchHead (port d p) with
    | none => d
    | some w =>
      if w.frm.isSome || !w.shut then d
      else match ((port d p).raw.map RawBuf.frames).getD [] |>.find? fun f => some f.num == w.num with
        | some f => modPort p (fun k => { k with
            fetch := k.fetch.map fun v => if v.cmd = w.cmd then { v with frm := some f } else v }) d
        | none => fetchPump p n (fetchFail w.cmd (dropFetch p w.cmd d))

def pumpFetches (p : PortId) (d : Dev) : Dev := fetchPump p (port d p).fetch.length d

/-- Frame f has closed: the commands that wait for it may copy it, those on the port itself from the HBM buffer of their
own (04 R138, R139). -/
def giveFetch (p : PortId) (f : Frm) (d : Dev) : Dev :=
  let awaits (w : FetchWait) : Bool := w.num == some f.num && !w.shut
  let own := ((port d p).fetch.filter fun w => awaits w && w.own).map FetchWait.cmd
  let d := own.foldl (fun d t => writeFrame p (hbmBuffer d (2 ^ 40 + t)) f d) d
  modPort p (fun k => { k with
    fetch := k.fetch.map fun w =>
      if awaits w then { w with shut := true, frm := if w.own then some { f with slot := 0 } else w.frm } else w }) d

/-- The frame that FRAME_FETCH is copying out of a raw buffer. -/
def copying (k : Port) (num : Nat) : Bool :=
  match fetchHead k with
  | some w => w.frm.isSome && w.num == some num
  | none => false

/-- The oldest frame whose slot is free goes (04 R137). -/
def dropOldest (busy : Nat → Bool) : List Frm → List Frm
  | [] => []
  | f :: fs => if busy f.num then f :: dropOldest busy fs else fs

/-- A frame begins to be written into the raw buffer: where all RAW_BUF_FRAMES + 1 slots hold frames, it takes the free slot
that holds the oldest (04 R137). -/
def rawOpen (p : PortId) (d : Dev) : Dev :=
  modPort p (fun k => match k.raw with
    | none => k
    | some r => if r.frames.length ≤ r.slots then k
      else { k with raw := some { r with frames := dropOldest (copying k) r.frames } }) d

/-- A frame written into the raw buffer has closed: it stands in a free slot (04 R137). -/
def rawWrite (p : PortId) (f : Frm) (d : Dev) : Dev :=
  match (port d p).raw with
  | none => d
  | some r =>
    let f := { f with slot := freeSlotOf r.frames }
    writeFrame p (frameAddr d p false f.slot) f
      (modPort p (fun k => { k with raw := some { r with frames := r.frames ++ [f] } }) d)

/-- Where a closed frame of port p enters the order of close time, ties to the lower port (04 R135). -/
def insertWait (d : Dev) (p : PortId) : List Nat → List Nat
  | [] => [p.val]
  | q :: l =>
    if p.val < q && l.all (fun r => (port d (portOf r)).closed == (port d p).closed) &&
        (port d (portOf q)).closed == (port d p).closed
    then p.val :: q :: l else q :: insertWait d p l

/-- The oldest frame that waits on an Isle is dropped (04 R136). -/
def sharedDrop (i : IsleId) (d : Dev) : Dev :=
  match (isle d i).wait with
  | [] => d
  | w :: rest =>
    let q := portOf w
    let at' := if (isle d i).tm.any fun t => t.port == w then 1 else 0
    let num := (((port d q).area[at']?).map Frm.num).getD 0
    let d := modIsle i (fun k => { k with wait := rest }) d
    let d := modPort q (fun k => { k with
      area := k.area.eraseIdx at'
      playDrop := if k.play.isSome then k.playDrop + 1 else k.playDrop }) d
    raise evCapture 3 (portHandle q) (num + i.val * 2 ^ 32) (bumpPort q 12 1 d)

/-- A closed frame joins the through-memory frames that wait on an Isle; past two the oldest goes (04
R135, R136). -/
def handShared (p : PortId) (f : Frm) (d : Dev) : Dev :=
  let i := isleOf (port d p).isle
  let f := { f with slot := freeSlotOf (port d p).area }
  let d := writeFrame p (frameAddr d p true f.slot) f (modPort p (fun k => { k with area := k.area ++ [f] }) d)
  let d := modIsle i (fun k => { k with wait := insertWait d p k.wait }) d
  if 2 < (isle d i).wait.length then sharedDrop i d else d

/-- The pattern's window before the next frame's line 0 (11 R314): 22 lines and 2 us. -/
def katWindow (d : Dev) (p : PortId) : Option Bool :=
  match groupOf d p with
  | none => none
  | some gi =>
    let g := grp d gi
    if !g.run || g.ended then none
    else
      let k := port d p
      let first := match awaited k with
        | some t => t.t + t.tm.eo + t.tm.ed
        | none => (nextTrig g).getD (d.tu.ns + 4000) + (timingFor k g.next).1.eo + (timingFor k g.next).1.ed
      some (decide (nowPclk d + 22 * linePclk k + 4000 ≤ 2 * first))

/-- An in-line port starts the next frame's pattern where there is a next frame (11 R314). -/
def katNext (p : PortId) (d : Dev) : Dev :=
  if (port d p).memory then d
  else match katWindow d p with
    | none => d
    | some ok => katStart (isleOf (port d p).isle) p ok d

/-- Events of a frame that closes (04 R140, 11 R315). -/
def frameEvents (p : PortId) (f : Frm) (d : Dev) : Dev :=
  let d := if f.status = 0 || f.status = fsFree then d
    else raise evCapture 2 (portHandle p) (f.num + f.status * 2 ^ 32) d
  if f.crcErrs = 0 then d
  else raise evIntegrity 1 (portHandle p) (f.num + min f.crcErrs 0xFFFF * 2 ^ 32) d

/-- Counters of a frame that closes (04 R133); LINES_FILLED counts as lines are filled. -/
def frameCounts (p : PortId) (f : Frm) (d : Dev) : Dev :=
  let d := bumpPort p 0 1 d
  let d := if bitOf f.status 0 then bumpPort p 1 1 d else d
  let d := if bitOf f.status 1 then bumpPort p 2 1 d else d
  if bitOf f.status 2 then bumpPort p 3 1 d else d

/-- The front-end structure whose black levels fill a frame (04 R124). -/
def fillFe (d : Dev) (p : PortId) (num : Nat) : List Byte :=
  let c := ctxOf d (isleOf (port d p).isle) p
  match c.run with
  | some r => if r.num = num then r.pipe.fe else c.pipe.fe
  | none => c.pipe.fe

/-- A frame has closed: its line checks are verified, it is counted, reported, and handed to every destination, with the
checks of its raw tiles where it goes to HBM (11 R305-R307). -/
def frameClosed (p : PortId) (f : Frm) (d : Dev) : Dev :=
  let (d, f) := verifyLines p { f with fe := fillFe d p f.num } d
  let f := if (lineTakers d p).contains 2 then sealTiles (port d p) f else f
  let d := frameEvents p f (frameCounts p f d)
  let d := if bitOf f.status 0 then
      match groupOf d p with
      | some g => modGrp g (fun k => { k with fills := k.fills + 1 }) d
      | none => d
    else d
  let d := modPort p (fun k => { k with closed := nowPclk d, done := some f }) d
  let d := pumpFetches p (giveFetch p f (rawWrite p f d))
  let d := frameNotify p f.num f.status (holmFrame p f d)
  let d := if (port d p).memory then handShared p f d else handInLine p f d
  katNext p d

/-- Fill lines are produced at once at the Isle rate, after what is on its way (04 R124). -/
def fillTime (p : PortId) (n : Nat) (fixed : Bool) (d : Dev) : Dev :=
  if n = 0 then d
  else
    let k := port d p
    let e := max k.isleFree (nowPclk d) + n * linePclk k
    bumpPort p 4 n (modPort p (fun k => { k with
      isleFree := e, fillEnd := if fixed then e else k.fillEnd }) d)

/-- A fill frame (04 R124, R125, R130). -/
def fillFrame (p : PortId) (t : Trig) (cause : Nat) (stopped : Bool) (d : Dev) : Dev :=
  let n := allLines (port d p)
  let status := fsFill + fsMissing + cause * 256 + (if stopped then fsStopped else 0) +
    (if t.free then fsFree else 0)
  let f : Frm :=
    { port := p.val, num := t.num, t := t.t, tm := t.tm, status, lines := [], next0 := 0, next1 := 0, emb := []
      filled := n, lastNs := d.tu.ns, delayed := false, crcErrs := 0, fe := [] }
  frameClosed p f (fillTime p n true (rawOpen p d))

/-- Fill frames that waited for the frame before them to close (04 R125). -/
def flushDoomed (p : PortId) (d : Dev) : Dev :=
  let due := (port d p).await.takeWhile fun t => t.doom != 0
  let d := modPort p (fun k => { k with await := k.await.drop due.length }) d
  due.foldl (fun d t => fillFrame p t t.doom false d) d

/-- Set status bits of a number. -/
def orBits (a b : Nat) : Nat := a ||| b

/-- The open frame closes (04 R123): what is missing is filled. -/
def closeFrame (p : PortId) (fixed : Bool) (extra : Nat) (d : Dev) : Dev :=
  match (port d p).cur with
  | none => d
  | some f =>
    let n := tailLines (port d p) f
    let status := orBits f.status (orBits extra (if n = 0 then 0 else fsShort + fsMissing))
    let d := fillTime p n fixed (modPort p (fun k => { k with cur := none }) d)
    frameClosed p { f with status, filled := f.filled + n } d

/-- The open frame closes by itself, and fill frames that waited for it follow. -/
def closeAndFlush (p : PortId) (d : Dev) : Dev := flushDoomed p (closeFrame p true 0 d)

/-! The FS deadline (04 R125). -/

def deadlineOf (d : Dev) (p : PortId) (t : Trig) : Nat :=
  t.t + t.tm.eo + t.tm.ed + (match groupOf d p with
    | some g => (grp d g).window * 1000
    | none => 0)

/-- The awaited frame is bound to become a fill frame; it begins at once, or when the open frame closes. After an
FN_MISMATCH the model begins it at once and not at the FS deadline (DESIGN CHOICE 76). -/
def doomAwaited (p : PortId) (t : Trig) (cause : Nat) (d : Dev) : Dev :=
  let d := modPort p (fun k => { k with late := k.late ++ [(t.num, deadlineOf d p t)] }) d
  if (port d p).cur.isNone then
    fillFrame p t cause false (modPort p (fun k => { k with await := k.await.filter fun x => x.num != t.num }) d)
  else modPort p (fun k => { k with
    await := k.await.map fun x => if x.num = t.num then { x with doom := cause } else x }) d

/-- FS_DEADLINE (04 R125): NO_FS, or LINK_DOWN where the link is not UP. -/
def fsDeadline (p : PortId) (d : Dev) : Dev :=
  match awaited (port d p) with
  | none => d
  | some t =>
    if deadlineOf d p t ≤ d.tu.ns then
      let cause := if (link d p).state = 4 then 1 else 2
      doomAwaited p t cause d
    else d

def execFsDeadline (p : PortId) (s : State) : Host.Outcome State Fault Refusal :=
  .next (s.mapDev (fsDeadline p))

/-! Packets of a frame (04 R112, R113, R123-R125). -/

/-- Count a damaged packet (04 R112, 11 R311). -/
def countDamage (p : PortId) (k : Pkt) (d : Dev) : Dev :=
  let d := if pcrcOk k then d else bumpInteg p.val d
  if pcrcOk k && !k.blockErr then d else bumpPort p 6 1 d

/-- The status bits a damaged packet gives its frame (04 R112). -/
def damageBits (k : Pkt) : Nat := if pcrcOk k && !k.blockErr then 0 else fsLinkErr

/-- A frame takes the damage of one of its packets. -/
def damaged (k : Pkt) (f : Frm) : Frm :=
  { f with status := orBits f.status (damageBits k), crcErrs := f.crcErrs + b2n (!pcrcOk k) }

/-- A run is under way in which frames of the port may still come (04 R130). -/
def expectsFrames (d : Dev) (p : PortId) : Bool :=
  match groupOf d p with
  | some g => (grp d g).run && !((grp d g).ended && (port d p).await.isEmpty && (port d p).cur.isNone)
  | none => false

/-- A packet of a frame counts its damage; one that arrives after the run has ended is not counted (04 R112, R130). -/
def frameDamage (p : PortId) (k : Pkt) (d : Dev) : Dev := if expectsFrames d p then countDamage p k d else d

/-- An FS for the awaited frame is accepted (04 R123, R125). -/
def acceptFs (p : PortId) (t : Trig) (k : Pkt) (d : Dev) : Dev :=
  if (port d p).cur.isNone && nowPclk d < (port d p).fillEnd then
    doomAwaited p t 4 (modPort p (fun x => { x with skipAs := 3 }) d)
  else
    let d := closeFrame p false 0 d
    let d := rawOpen p (flushDoomed p d)
    let l := pktPayload k
    let diff := le l 4 4 != t.tm.eo || le l 8 4 != t.tm.ed || le l 12 4 != t.tm.ls
    let f : Frm :=
      { port := p.val, num := t.num, t := t.t, tm := t.tm
        status := (if diff then fsTimingDiff else 0) + (if t.free then fsFree else 0)
        lines := [], next0 := 0, next1 := 0, emb := [], filled := 0, lastNs := d.tu.ns, delayed := false
        crcErrs := 0, fe := [] }
    modPort p (fun x => { x with
      cur := some (damaged k f), skipAs := 0, await := x.await.filter fun y => y.num != t.num }) d

/-- A frame that became a fill frame, once its FS deadline has passed (04 R125). -/
def tooLate (d : Dev) (x : Port) (n : Nat) : Bool := x.late.any fun l => l.1 == n && decide (l.2 ≤ d.tu.ns)

/-- FS (04 R125). FN_MISMATCH and LATE_FS count a discarded frame once, at its FS (DESIGN CHOICE 77). -/
def fsTaken (p : PortId) (k : Pkt) (d : Dev) : Dev :=
  if !expectsFrames d p then modPort p (fun x => { x with skipAs := 3 }) d
  else
    let d := countDamage p k (fsDeadline p d)
    let n := le (pktPayload k) 0 4
    if tooLate d (port d p) n then
      bumpPort p 11 1 (modPort p (fun x => { x with skipAs := 2 }) d)
    else match awaited (port d p) with
      | none => bumpPort p 10 1 d
      | some t =>
        if t.num = n then acceptFs p t k d
        else bumpPort p 10 1 (doomAwaited p t 3 (modPort p (fun x => { x with skipAs := 1 }) d))

def fsPacket (p : PortId) (times : List BlkTime) (d : Dev) : Dev := takePacket p times (· == 1) d (fsTaken p)

def execFsPacket (p : PortId) (times : List BlkTime) (s : State) : Host.Outcome State Fault Refusal :=
  .next (s.mapDev (fsPacket p times))

/-- The open frame, where a packet's own header names it and packets are not being discarded. -/
def openFor (x : Port) (k : Pkt) : Option Frm :=
  match x.cur with
  | some f => if f.num % 256 = pktFn8 k && x.skipAs = 0 then some f else none
  | none => none

def setCur (p : PortId) (f : Frm) (d : Dev) : Dev := modPort p (fun k => { k with cur := some f }) d

/-- FE closes the frame it names (04 R123). -/
def feTaken (p : PortId) (k : Pkt) (d : Dev) : Dev :=
  let d := frameDamage p k d
  match openFor (port d p) k with
  | none => d
  | some f => if le (pktPayload k) 0 4 = f.num then closeAndFlush p (setCur p (damaged k f) d) else d

def fePacket (p : PortId) (times : List BlkTime) (d : Dev) : Dev := takePacket p times (· == 2) d (feTaken p)

def execFePacket (p : PortId) (times : List BlkTime) (s : State) : Host.Outcome State Fault Refusal :=
  .next (s.mapDev (fePacket p times))

/-- Lines or embedded lines beyond the configuration (04 R123). -/
def discardLong (p : PortId) (f : Frm) (d : Dev) : Dev :=
  bumpPort p 5 1 (setCur p { f with status := orBits f.status fsLong } d)

/-- When a line that arrives now may begin at the Isle: after what is before it and, in line, after the
tile row in process (04 R124, R135). -/
def lineFrom (d : Dev) (x : Port) : Nat :=
  max (max x.isleFree (nowPclk d)) (if x.memory then 0 else (isle d (isleOf x.isle)).rowEnd)

/-- SHARED_DELAY counts a frame once (04 R135). -/
def markDelay (p : PortId) (f : Frm) (d : Dev) : Dev × Frm :=
  let x := port d p
  if !x.memory && decide (nowPclk d < (isle d (isleOf x.isle)).rowEnd) then
    if f.delayed then (d, f)
    else (bumpPort p 13 1 d, { f with delayed := true, status := orBits f.status fsSharedDelay })
  else (d, f)

/-- A line in its place, with its line check: lines missing before it are filled first; it waits in the 64-line store where
it is not first, and is filled itself where the store is full (04 R109, R124; 11 R303, R305). -/
def storeLine (p : PortId) (s idx : Nat) (payload : List Byte) (f : Frm) (d : Dev) : Dev :=
  let (d, f) := markDelay p f d
  let x := port d p
  let gap := idx - (if s = 0 then f.next0 else f.next1)
  let start := lineFrom d x + gap * linePclk x
  let store := x.store.filter fun t => nowPclk d < t
  let full := decide (nowPclk d < start) && decide (64 ≤ store.length)
  let fills := gap + b2n full
  let f := { f with
    next0 := if s = 0 then idx + 1 else f.next0
    next1 := if s = 0 then f.next1 else idx + 1
    filled := f.filled + fills
    status := if fills = 0 then f.status else orBits f.status fsMissing
    lines := if full then f.lines else f.lines ++ [(s, idx, payload)]
    checks := if full then f.checks else f.checks ++ [crc32c payload] }
  let d := modPort p (fun k => { k with
    cur := some f, isleFree := start + linePclk x
    store := if !full && decide (nowPclk d < start) then store ++ [start] else store }) d
  let d := holmLines p f.num (if x.streams = 2 then min f.next0 f.next1 else f.next0)
    (lineFrom d { x with memory := true } + gap * linePclk x) d
  if fills = 0 then d else bumpPort p 4 fills d

/-- LINE (04 R112, R113, R123, R124). -/
def lineTaken (p : PortId) (k : Pkt) (d : Dev) : Dev :=
  let d := frameDamage p k d
  match openFor (port d p) k with
  | none => d
  | some f =>
    let x := port d p
    let f := { damaged k f with lastNs := d.tu.ns }
    let s := pktStream k
    if pktLen k != lineLen x then bumpPort p 8 1 (setCur p f d)
    else if x.streams ≤ s || x.height < pktLine k then discardLong p f d
    else if pktLine k < (if s = 0 then f.next0 else f.next1) then bumpPort p 9 1 (setCur p f d)
    else storeLine p s (pktLine k) (pktPayload k) f d

def linePacket (p : PortId) (times : List BlkTime) (d : Dev) : Dev := takePacket p times (· == 3) d (lineTaken p)

def execLinePacket (p : PortId) (times : List BlkTime) (s : State) : Host.Outcome State Fault Refusal :=
  .next (s.mapDev (linePacket p times))

/-- EMBEDDED (04 R110, R123): kept with its header, or discarded in excess. -/
def embeddedTaken (p : PortId) (k : Pkt) (d : Dev) : Dev :=
  let d := frameDamage p k d
  match openFor (port d p) k with
  | none => d
  | some f =>
    let x := port d p
    let f := damaged k f
    if x.emb ≤ f.emb.length || lineLen x < pktLen k then discardLong p f d
    else setCur p { f with emb := f.emb ++ [k.bytes.take (8 + pktSize k)] } d

def embeddedPacket (p : PortId) (times : List BlkTime) (d : Dev) : Dev := takePacket p times (· == 4) d (embeddedTaken p)

def execEmbeddedPacket (p : PortId) (times : List BlkTime) (s : State) : Host.Outcome State Fault Refusal :=
  .next (s.mapDev (embeddedPacket p times))

/-- A packet of unknown type is skipped by its LEN and counted (04 R110, R112). -/
def unknownTaken (p : PortId) (k : Pkt) (d : Dev) : Dev := bumpPort p 15 1 (frameDamage p k d)

def unknownTypePacket (p : PortId) (times : List BlkTime) (d : Dev) : Dev :=
  takePacket p times (5 < ·) d (unknownTaken p)

def execUnknownTypePacket (p : PortId) (times : List BlkTime) (s : State) : Host.Outcome State Fault Refusal :=
  .next (s.mapDev (unknownTypePacket p times))

/-- LINE_TIMEOUT (04 R123): 64 line steps without a LINE of the frame. -/
def lineTimeout (p : PortId) (d : Dev) : Dev :=
  match (port d p).cur with
  | none => d
  | some f => if f.lastNs + 64 * f.tm.ls / 1000 ≤ d.tu.ns then closeAndFlush p d else d

def execLineTimeout (p : PortId) (s : State) : Host.Outcome State Fault Refusal :=
  .next (s.mapDev (lineTimeout p))

/-! Tile rows of through-memory frames (04 R135). -/

/-- The earliest instant at which an Isle's in-line port can present a line, in ns; none where nothing
can come (04 R135). -/
def earliestLine (d : Dev) (i : IsleId) : Option Nat :=
  let p := portOf i.val
  let k := port d p
  if !k.enabled || k.memory then none
  else if k.cur.isSome then some d.tu.ns
  else match groupOf d p with
    | none => none
    | some gi =>
      let g := grp d gi
      match awaited k with
      | some t => some (t.t + t.tm.eo + t.tm.ed)
      | none =>
        if g.run && !g.ended then some ((nextTrig g).getD (d.tu.ns + 4000) + (timingFor k g.next).1.eo + (timingFor k g.next).1.ed)
        else none

/-- A row may begin now and take n PCLK: nothing of the in-line port is on its way, and the row ends 2 us
before its earliest line. -/
def rowFits (d : Dev) (i : IsleId) (n : Nat) : Bool :=
  let k := port d (portOf i.val)
  (k.memory || !k.enabled || decide (k.isleFree ≤ nowPclk d)) &&
  (match earliestLine d i with
    | none => true
    | some t => decide (nowPclk d + n + 4000 ≤ 2 * t))

/-- A tile row reads its raw tile of every stream, and with the first the embedded tile: one that fails or is tainted
marks LINK_ERR, and the context saves their checks (04 R135, 11 R305, R307). -/
def readRow (i : IsleId) (r : TmRun) (f : Frm) (d : Dev) : Dev :=
  let p := portOf r.port
  let k := port d p
  let l := (List.range k.streams).map (fun s => s * tilesOf k + r.rows) ++
    (if r.rows = 0 && k.emb != 0 then [k.streams * tilesOf k] else [])
  let t := readTiles { handle := portHandle p, cls := 1, frame := f.num } (portHandle p) k (frameAddr d p true f.slot) f l d
  let marred := r.marred || !t.bad.isEmpty
  modIsle i (fun x => { x with
    tm := some { r with rows := r.rows + 1, checks := r.checks ++ l.filterMap fun j => f.tiles[j]?, marred } })
    (modPort p (fun x => { x with
      area := { t.frm with status := if marred then t.frm.status ||| fsLinkErr else t.frm.status } :: x.area.drop 1 }) t.dev)

/-- TILE_ROW_START: the next tile row of the frame in process; its pattern runs before the first (11
R314). The frame is finished with its last row. -/
def tileRowStart (i : IsleId) (d : Dev) : Dev :=
  match (isle d i).tm with
  | none => d
  | some r =>
    let p := portOf r.port
    let k := port d p
    let row := 16 * k.streams * linePclk k + 512
    let n := row + (if r.rows = 0 then 22 * linePclk k + 4000 else 0)
    if nowPclk d < (isle d i).rowEnd || !rowFits d i n then d
    else
      let d := if r.rows = 0 then katStart i p true d else d
      let d := modIsle i (fun x => { x with
        rowEnd := nowPclk d + (if r.rows = 0 && !(ctxOf d i p).katRun then row else n) }) d
      match k.area with
      | [] => modIsle i (fun x => { x with tm := none }) d
      | f :: rest =>
        let d := readRow i r f d
        if (k.height + 1) ≤ 16 * (r.rows + 1) then
          frameFinish i p ((port d p).area.headD f) (modPort p (fun x => { x with area := rest })
            (modIsle i (fun x => { x with tm := none }) d))
        else d

def execTileRowStart (i : IsleId) (s : State) : Host.Outcome State Fault Refusal :=
  .next (s.mapDev (tileRowStart i))

end Sys2Proof.Machine
end

