-- ==== Sys2Proof/Machine/Capture.lean ====
section
/-!
DEFINITION. Machine/Capture.lean: port and group configuration, triggers and genlock grids, starting and
stopping a capture, sensor control, and FRAME_FETCH (04 R114-R139).
-/
namespace Sys2Proof.Machine

/-! PORT_CONFIG and GROUP_CONFIG (04 R117-R119). -/

def portArg (e : Sqe) : PortId := portOf (hIdx e.handle.toNat)
def groupArg (e : Sqe) : GroupId := ⟨hIdx e.handle.toNat % 4, Nat.mod_lt _ (by decide)⟩

def specPortConfig : CmdSpec where
  op := .portConfig
  layout := [(32, 0, 104), (48, 0, 96)]
  checks e :=
    (32, decide (fld e 32 1 ≤ 1)) ::
    (if fld e 32 1 = 0 then []
    else [(33, [1, 2, 4, 8].contains (fld e 33 1)), (34, decide (1 ≤ fld e 34 1) && decide (fld e 34 1 ≤ 7)),
      (35, decide (fld e 35 1 < 8)),
      (36, decide (fld e 36 1 < 4) &&
        (if fld e 37 1 = 0 then fld e 36 1 == hIdx e.handle.toNat else fld e 36 1 != hIdx e.handle.toNat)),
      (37, decide (fld e 37 1 ≤ 1)), (38, [10, 12, 14, 16].contains (fld e 38 1)),
      (39, decide (1 ≤ fld e 39 1) && decide (fld e 39 1 ≤ 2)),
      (40, decide (0x00FF ≤ fld e 40 2) && decide (fld e 40 2 ≤ 0x7FFF)),
      (42, decide (0x000F ≤ fld e 42 2) && decide (fld e 42 2 ≤ 0x3FFF)), (44, decide (fld e 44 1 ≤ 15)),
      (52, fld e 52 4 != 0), (56, fld e 56 4 != 0)])
  handle := .fixed 2 4

/-- Ports and playing sessions bound through memory to an Isle, another port than p (04 R118, 10 R283). -/
def memoryBindings (d : Dev) (isle : Nat) (p : PortId) : Nat :=
  ((List.finRange 4).filter fun q =>
    q != p && (port d q).isle == isle && (((port d q).enabled && (port d q).memory) || (port d q).play.isSome)).length

/-- The port a PORT_CONFIG with ENABLE = 1 makes; its counters count from here (04 R133). -/
def portFrom (e : Sqe) (k : Port) : Port :=
  { k with
    enabled := true, isle := fld e 36 1, memory := fld e 37 1 == 1, bits := fld e 38 1, streams := fld e 39 1
    samples := fld e 40 2, height := fld e 42 2, emb := fld e 44 1
    timing := { eo := fld e 48 4, ed := fld e 52 4, ls := fld e 56 4 }, later := []
    cnt := Vector.replicate 16 0, hunt := false, rx := [], skipAs := 0, late := [] }

def portConfigBody (c : Outst) (d : Dev) : Ans :=
  let p := portArg c.e
  let e := c.e
  if fld e 32 1 = 0 then
    check (!capturing d p) stConflict <|
    okAns (toState p 0 (modPort p (fun k => { k with enabled := false }) d))
  else
    check (fld e 37 1 == 0 || decide (memoryBindings d (fld e 36 1) p < 3)) stInvalidField <|
    check (!capturing d p && (port d p).play.isNone && decide (d.pwr.state < 2)) stConflict <|
    let d := modPort p (portFrom e) d
    let d := modLink p (fun k => { k with
      rate := fld e 34 1, width := fld e 33 1, clkRef := bitOf (fld e 35 1) 0, search := bitOf (fld e 35 1) 1
      bcSleep := bitOf (fld e 35 1) 2 }) d
    okAns (startLink p d)

def execPortConfig (t : Nat) (s : State) : Host.Outcome State Fault Refusal :=
  .next (s.mapDev (hostRow specPortConfig t portConfigBody))

def specGroupConfig : CmdSpec where
  op := .groupConfig
  layout := [(32, 0, 4), (33, 0, 24), (36, 0, 128)]
  checks e :=
    let num := fld e 36 4
    let den := fld e 40 4
    [(33, decide (fld e 33 1 ≤ 1)),
     (34, if fld e 33 1 = 1 then decide (1 ≤ fld e 34 1) && decide (fld e 34 1 ≤ 8) else fld e 34 1 == 0),
     (35, decide (fld e 35 1 ≤ 1)), (36, num != 0 && decide (den ≤ 2 * num) && decide (num ≤ 1000 * den)),
     (40, den != 0), (44, decide (fld e 44 4 * num < den * 1000000000)),
     (48, fld e 48 4 != 0 && decide (fld e 48 4 * 1000 * num < den * 1000000000))]
  handle := .fixed 3 4

/-- Members join their new group; a group left with none is dissolved (04 R119). -/
def regroup (g : GroupId) (m : Nat) (d : Dev) : Dev :=
  (List.finRange 4).foldl (fun d h =>
    if h = g then d
    else
      let left := (List.range 4).foldl (fun x i => if bitOf m i then clearBit x i else x) (grp d h).members
      if left = (grp d h).members then d
      else if left = 0 then setGrp h {} d
      else modGrp h (fun k => { k with members := left }) d) d

def groupConfigBody (c : Outst) (d : Dev) : Ans :=
  let g := groupArg c.e
  let e := c.e
  let m := fld e 32 1
  let busy := (List.finRange 4).any fun p => bitOf m p.val && capturing d p
  check (!(grp d g).run && !busy) stConflict <|
  if m = 0 then okAns (setGrp g {} d)
  else
    let k : Group :=
      { members := m, genlock := fld e 33 1 == 1, glDiv := fld e 34 1, falling := fld e 35 1 == 1
        num := fld e 36 4, den := fld e 40 4, phase := fld e 44 4, window := fld e 48 4 }
    okAns (setGrp g k (regroup g m d))

def execGroupConfig (t : Nat) (s : State) : Host.Outcome State Fault Refusal :=
  .next (s.mapDev (hostRow specGroupConfig t groupConfigBody))

/-! CAPTURE_START (04 R127-R129). -/

/-- Bytes of a LINE packet, and of a frame on the link (04 R128). -/
def linkFrameBytes (k : Port) : Nat :=
  (12 + 4 * (lineLen k + 1)) * (k.streams * (k.height + 1) + k.emb)

/-- A frame fits in one period of the link after block coding and COMMA overhead (04 R128, 03 R84). -/
def linkCarries (g : Group) (k : Port) (l : Link) : Bool :=
  decide (linkFrameBytes k * 8 * g.num * 132 * 2048 ≤ l.width * laneMbps l.rate * 1000000 * 128 * 2047 * g.den)

/-- What a member reserves (04 R129). -/
def memberWants (d : Dev) (g : Group) (p : PortId) (raw : Nat) : List (Nat × Nat × Nat) :=
  let k := port d p
  let px := (k.samples + 1) * (k.height + 1) * g.num
  let shared := decide (0 < memoryBindings d k.isle p)
  let isle :=
    if k.memory then divUp (px + 8192 * divUp (k.height + 1) 16 * g.num) (g.den * 1000000)
    else if shared then divUp (32000 * (k.height + 1) * k.timing.ls * g.num) (1000 * 1000000000 * g.den)
    else divUp px (g.den * 1000000)
  let rate := divUp (frameBytes k * g.num) (g.den * 1000000)
  let rawOn := decide (0 < raw)
  [(rcIsle, k.isle, isle),
   (rcHbmBw, unitAll, (if rawOn then rate else 0) + (if k.memory then 2 * rate else 0)),
   (rcHbmCap, unitAll, (if rawOn then divUp ((raw + 1) * frameBytes k) (2 ^ 20) else 0) +
     (if k.memory then divUp (4 * frameBytes k) (2 ^ 20) else 0)),
   (rcLagoon, unitAll, divUp (64 * linePitch k * k.streams) 1024)]

/-- The sum of the amounts of a class and unit. -/
def sumWant (l : List (Nat × Nat × Nat)) (cls unit : Nat) : Nat :=
  ((l.filter fun w => w.1 == cls && w.2.1 == unit).map fun w => w.2.2).foldl (· + ·) 0

/-- The reservations of a capture, merged in class order. -/
def captureWants (d : Dev) (gi : GroupId) (raw : Nat) : List (Nat × Nat × Nat) :=
  let g := grp d gi
  let l := (members d gi).flatMap fun p => memberWants d g p raw
  ((List.range 4).map fun i => (rcIsle, i, sumWant l rcIsle i)) ++
  [(rcHbmBw, unitAll, sumWant l rcHbmBw unitAll), (rcHbmCap, unitAll, sumWant l rcHbmCap unitAll),
   (rcLagoon, unitAll, sumWant l rcLagoon unitAll)]

def specCaptureStart : CmdSpec where
  op := .captureStart
  layout := [(32, 0, 32), (40, 0, 64), (48, 0, 24)]
  handle := .fixed 3 4

/-- A raw buffer of each member (04 R127, R137); the handles by port. -/
def openRaw (gi : GroupId) (raw opener : Nat) (d : Dev) : Dev × Nat :=
  if raw = 0 then (d, 0)
  else (members d gi).foldl (fun (acc : Dev × Nat) p =>
    let d := acc.1
    match freeSlot d 0x12 65536 with
    | none => acc
    | some slot =>
      let (h, d) := openObj 0x12 slot opener 1 d
      (modPort p (fun k => { k with raw := some { handle := h, slots := raw, frames := [] } }) d,
        acc.2 + h * 2 ^ (32 * p.val))) (d, 0)

/-- A member's frame assembly as a run begins; its optical-black estimate starts from 0 (05 R148). -/
def armPort (p : PortId) (d : Dev) : Dev :=
  let d := { d with axrec := d.axrec.filter fun r => r.port != p.val }
  let d := modCtx (isleOf (port d p).isle) p (fun c => { c with ob := List.replicate 12 0 }) d
  modPort p (fun k => { k with await := [], cur := none, skipAs := 0, late := [] }) d

def captureStartBody (c : Outst) (d : Dev) : Ans :=
  let gi := groupArg c.e
  let g := grp d gi
  let ms := members d gi
  let raw := fld c.e 48 2
  check (ms.all fun p => !(port d p).enabled || linkCarries g (port d p) (link d p)) stInvalidField <|
  check (!ms.isEmpty && ms.all (fun p => (port d p).enabled && (port d p).play.isNone && isleAvail d (port d p).isle) &&
    !g.run && decide (d.pwr.state < 2)) stConflict <|
  withAdmission (groupHandle gi) true false (captureWants d gi raw) d fun d =>
    let (d, handles) := openRaw gi raw c.qp d
    let s := max (fld c.e 40 8) (c.ns + 1000000)
    let d := ms.foldl (fun d p => armPort p d) d
    let k0 := firstIndex g s
    let first := timeGrid g k0 + (Config.boundaryOffset d.free).val
    let d := modGrp gi (fun k => { k with
      run := true, start := fld c.e 32 4, s, next := fld c.e 32 4, fired := false, lastT := 0
      k := if k.genlock then 0 else k0, anchor := none, free := false, stop := none, ended := false, fills := 0
      prio := fld c.e 50 1, first := if k.genlock then none else some first, olds := [] }) d
    let d := addObj (groupHandle gi) c.qp 2 d
    let res := if g.genlock then 2 ^ 32 else first % 2 ^ 32
    okAns { d with free := d.free + 1 } (res := res) (ext := handles)

def execCaptureStart (t : Nat) (s : State) : Host.Outcome State Fault Refusal :=
  .next (s.mapDev (hostRow specCaptureStart t captureStartBody))

/-! Triggers (04 R114-R122). -/

/-- FRAME_TRIGGER to one member: its K27.7 starts exactly at the boundary (03 R93, 04 R114, R116, R122). -/
def triggerMember (g : Group) (b : Nat) (p : PortId) (d : Dev) : Dev :=
  let d := bcStart p b 2 ([0x10] ++ toLE 4 g.next ++ [if g.fired then 0 else 1]) none (bcPump p d)
  let (tm, later) := timingFor (port d p) g.next
  let t : Trig := { num := g.next, t := b, tm, free := g.free, doom := 0 }
  let d := modPort p (fun k => { k with
    timing := tm, later, await := k.await ++ [t]
    fetch := k.fetch.map fun w => if w.num.isNone then { w with num := some g.next } else w }) d
  let d := axisTrigger p g.next b tm (port d p).height (markShadows p g.next b d)
  let d := irqEdge (44 + p.val) (holmTrigger p g.next b tm d)
  if g.fired then d else katNext p d

/-- CAPTURE_END to every member (04 R114, R130). -/
def captureEnd (gi : GroupId) (last : Nat) (d : Dev) : Dev :=
  (members d gi).foldl (fun d p => bcSend p 2 ([0x13] ++ toLE 4 last) d) d

/-- FRAME_TRIGGER (04 R120): at the first character boundary at or after the trigger instant; the first of a TIME run is at
the boundary that CAPTURE_START gave (04 R127). -/
def frameTrigger (gi : GroupId) (b : Nat) (d : Dev) : Dev :=
  let g := grp d gi
  match nextTrig g with
  | none => d
  | some t =>
    if !g.run || g.ended || b < t || t + 40 < b || d.tu.ns < b || (!g.fired && g.first.any (· != b)) then d
    else
      let d := (members d gi).foldl (fun d p => triggerMember g b p d) d
      let d := if g.fired then d
        else setObjSt (groupHandle gi) 1 (raise evCapture 5 (groupHandle gi) (b % 2 ^ 32 + g.next * 2 ^ 32) d)
      let last := g.stop.any fun s => s.frame == g.next
      let d := modGrp gi (fun k => { afterTrig k with next := fnAdd k.next 1, fired := true, lastT := b, ended := last }) d
      let d := (members d gi).foldl (fun d p => bcPump p d) d
      if last then captureEnd gi g.next d else d

def execFrameTrigger (g : GroupId) (boundary : Nat) (s : State) : Host.Outcome State Fault Refusal :=
  .next (s.mapDev (frameTrigger g boundary))

/-- Edges with triggers still to send once the next edge has come: those of a free run are not carried over (04 R120,
R121). -/
def oldEdges (g : Group) : List (Nat × Nat) :=
  if g.free then []
  else g.olds ++ (match g.anchor with
    | some e => if g.k < g.glDiv then [(e, g.k)] else []
    | none => [])

/-- The grid of a GENLOCK group is anchored at an edge; the first that returns ends the free run (04 R121,
R127). -/
def anchorGroup (gi : GroupId) (stamp : Nat) (d : Dev) : Dev :=
  let g := grp d gi
  let d := modGrp gi (fun k => { k with anchor := some stamp, k := 0, free := false, olds := oldEdges k }) d
  if g.free then raise evCapture 4 (groupHandle gi) 0 d else d

/-- A GENLOCK_IN edge as the groups take it (04 R121). -/
def genlockGroups (rising : Bool) (stamp : Nat) (d : Dev) : Dev :=
  (List.finRange 4).foldl (fun d gi =>
    let g := grp d gi
    if g.run && !g.ended && g.genlock && g.falling != rising && (g.anchor.isSome || decide (g.s ≤ stamp)) then
      anchorGroup gi stamp d
    else d) d

/-- The group runs free from an anchor, and GENLOCK says so (04 R121, R127). -/
def runFree (gi : GroupId) (anchor : Nat) (d : Dev) : Dev :=
  raise evCapture 4 (groupHandle gi) 1 (modGrp gi (fun k => { k with anchor := some anchor, free := true }) d)

/-- GENLOCK_TIMEOUT (04 R121): no edge by 10 us after the expected one. -/
def genlockTimeout (gi : GroupId) (d : Dev) : Dev :=
  let g := grp d gi
  match g.anchor with
  | some e =>
    if g.run && !g.ended && g.genlock && !g.free && decide (e + periods g g.glDiv + 10000 ≤ d.tu.ns) then runFree gi e d
    else d
  | none => d

def execGenlockTimeout (g : GroupId) (s : State) : Host.Outcome State Fault Refusal :=
  .next (s.mapDev (genlockTimeout g))

/-- GENLOCK_START_TIMEOUT (04 R127): the run starts as though an edge had come at S + 1 s. -/
def genlockStartTimeout (gi : GroupId) (d : Dev) : Dev :=
  let g := grp d gi
  if g.run && !g.ended && g.genlock && g.anchor.isNone && decide (g.s + 1000000000 ≤ d.tu.ns) then
    runFree gi (g.s + 1000000000) d
  else d

def execGenlockStartTimeout (g : GroupId) (s : State) : Host.Outcome State Fault Refusal :=
  .next (s.mapDev (genlockStartTimeout g))

/-! CAPTURE_STOP (04 R130, R131). -/

/-- A capture has stopped: the FRAME_FETCH commands of a member that do not yet copy complete with FRAME_NOT_AVAILABLE (04
R134, R139). -/
def failFetches (p : PortId) (d : Dev) : Dev :=
  let gone := (port d p).fetch.filter fun w => w.frm.isNone
  let d := modPort p (fun k => { k with fetch := k.fetch.filter fun w => w.frm.isSome }) d
  gone.foldl (fun d w => fetchFail w.cmd d) d

/-- A FRAME_FETCH is copying out of the member's raw buffer, and finishes first (04 R139). -/
def rawBusy (d : Dev) (p : PortId) : Bool := (port d p).fetch.any fun w => !w.own && w.frm.isSome

/-- A member leaves its run: fetches that do not copy fail, shadows flush, the raw buffer goes. -/
def releaseMember (p : PortId) (d : Dev) : Dev :=
  let d := failFetches p d
  let d := match (port d p).raw with
    | some r => closeObj r.handle d
    | none => d
  flushShadows p (modPort p (fun k => { k with raw := none, skipAs := 3 }) d)

/-- RESULT of a CAPTURE_STOP: the last frame and the fill frames of the run. -/
def stopResult (g : Group) (last : Nat) : Nat := last + g.fills % 2 ^ 32 * 2 ^ 32

/-- The run has ended: its members, its object and what it held go, and its commands complete. -/
def endRun (gi : GroupId) (last : Nat) (cmds : List Nat) (d : Dev) : Dev :=
  let res := stopResult (grp d gi) last
  let d := modGrp gi (fun k => { k with run := false, ended := true, stop := none }) d
  let d := (members d gi).foldl (fun d p => releaseMember p d) d
  let d := returnResv (groupHandle gi) (closeObj (groupHandle gi) d)
  cmds.foldl (fun d t => completeTag (some t) stSuccess res 0 d) d

/-- IMMEDIATE: every open frame of a member closes at once (04 R130). -/
def stopMember (p : PortId) (d : Dev) : Dev :=
  let d := closeFrame p true (fsShort + fsStopped + fsMissing) d
  let due := (port d p).await
  let d := modPort p (fun k => { k with await := [], skipAs := 3 }) d
  due.foldl (fun d t => fillFrame p t 5 true d) d

/-- A run stops at once (04 R130, R131). -/
def stopNow (gi : GroupId) (cmds : List Nat) (d : Dev) : Dev :=
  let last := fnPred (grp d gi).next
  let d := modGrp gi (fun k => { k with ended := true, stop := some { frame := last, immediate := true, cmds } }) d
  let d := (members d gi).foldl (fun d p => stopMember p d) d
  setObjSt (groupHandle gi) 3 (captureEnd gi last d)

/-- Thermal shedding of a capture acts as IMMEDIATE; waiting commands complete with THERMAL_SHED (04
R131), and its reservations return at once (01 R24). -/
def captureShed (gi : GroupId) (d : Dev) : Dev :=
  let cmds := ((grp d gi).stop.map Stop.cmds).getD []
  let d := if (grp d gi).stop.any (·.immediate) then
      modGrp gi (fun k => { k with stop := k.stop.map fun s => { s with cmds := [] } }) d
    else stopNow gi [] d
  returnResv (groupHandle gi) (cmds.foldl (fun d t => completeTag (some t) stThermal 0 0 d) d)

def specCaptureStop : CmdSpec where
  op := .captureStop
  layout := [(32, 0, 8), (36, 0, 32)]
  checks e := [(32, decide (fld e 32 1 ≤ 1))]
  handle := .fixed 3 4

/-- The latest end of frame n over the members of a group, T extrapolated from the last trigger placed or, with none,
from the command's fetch (04 R130). -/
def groupLatestEnd (d : Dev) (fetch : Nat) (gi : GroupId) (n : Nat) : Nat :=
  let g := grp d gi
  let ahead := (n + 2 ^ 32 - fnPred g.next) % 2 ^ 32
  let t := if g.fired then g.lastT + periods g ahead else fetch + periods g (ahead - 1)
  ((members d gi).map fun p => latestEnd (port d p) (timingFor (port d p) n).1 t).foldl max 0

/-- CAPTURE_STOP (04 R130). An AFTER_FRAME command while an IMMEDIATE one waits is answered as while an AFTER_FRAME one
waits, with STATE_CONFLICT (DESIGN CHOICE 78). -/
def captureStopBody (c : Outst) (d : Dev) : Ans :=
  let gi := groupArg c.e
  let g := grp d gi
  let now := fld c.e 32 1 == 1
  let sf := fld c.e 36 4
  let waiting := (g.stop.map Stop.cmds).getD []
  let last := fnPred g.next
  check g.run stConflict <|
  check (now || g.stop.isNone) stConflict <|
  if !g.fired && (now || sf == 0xFFFFFFFF || !fnFrom g.start sf) then
    -- no frame triggers: the run ends here, with every command that waits for it
    okAns (endRun gi last waiting (captureEnd gi last d)) (res := stopResult g last)
  else if now then
    if g.stop.any (·.immediate) then
      .stay (modGrp gi (fun k => { k with stop := k.stop.map fun s => { s with cmds := s.cmds ++ [c.tag] } }) d) .stepped
    else .stay (stopNow gi (waiting ++ [c.tag]) d) .stepped
  else
    let target := if sf = 0xFFFFFFFF || (g.fired && !fnFrom last sf) then last else sf
    check (decide (groupLatestEnd d c.ns gi target ≤ c.ns + 80000000)) stInvalidField <|
    let sent := g.fired && target == last
    let d := modGrp gi (fun k => { k with
      stop := some { frame := target, immediate := false, cmds := [c.tag] }, ended := sent }) d
    let d := setObjSt (groupHandle gi) 3 d
    .stay (if sent then captureEnd gi target d else d) .stepped

def execCaptureStop (t : Nat) (s : State) : Host.Outcome State Fault Refusal :=
  .next (s.mapDev (hostRow specCaptureStop t captureStopBody))

/-- A member has closed every frame of its run and presented every line of it. -/
def memberIdle (d : Dev) (p : PortId) : Bool :=
  let k := port d p
  k.cur.isNone && k.await.isEmpty && k.area.isEmpty && decide (k.isleFree ≤ nowPclk d)

/-- CAPTURE_STOP_DONE (04 R130): once every frame is closed and presented; a copy out of a raw buffer finishes first (04
R139). -/
def captureStopDone (gi : GroupId) (d : Dev) : Dev :=
  let g := grp d gi
  match g.stop with
  | none => d
  | some s =>
    if g.run && g.ended && (members d gi).all (memberIdle d) then
      let d := (members d gi).foldl (fun d p => failFetches p d) d
      if (members d gi).any (rawBusy d) then d else endRun gi s.frame s.cmds d
    else d

def execCaptureStopDone (g : GroupId) (s : State) : Host.Outcome State Fault Refusal :=
  .next (s.mapDev (captureStopDone g))

/-! Sensor control (04 R132-R134). -/

def sensorLayout : List (Nat × Nat × Nat) := [(32, 0, 16), (36, 0, 160)]

def specSensorCtrlWrite : CmdSpec where
  op := .sensorCtrlWrite
  layout := sensorLayout
  checks e := [(33, decide (fld e 33 1 ≤ 31)), (24, e.dataLen.toNat == fld e 33 1 + 1)]
  data := someData
  handle := .fixed 2 4

def specSensorCtrlRead : CmdSpec where
  op := .sensorCtrlRead
  layout := sensorLayout
  checks e := [(33, decide (fld e 33 1 ≤ 31)), (24, e.dataLen.toNat == fld e 33 1 + 1)]
  data := someData
  handle := .fixed 2 4

def specSensorCtrlTiming : CmdSpec where
  op := .sensorCtrlTiming
  layout := sensorLayout
  checks e := [(48, fld e 48 4 != 0), (52, fld e 52 4 != 0)]
  handle := .fixed 2 4

def specSensorCtrlCounters : CmdSpec where
  op := .sensorCtrlCounters
  layout := sensorLayout
  data := someData
  handle := .fixed 2 4

/-- APPLY_FRAME's trigger has been sent, or is less than 100 us away (04 R134). -/
def framePassed (d : Dev) (p : PortId) (apply : Nat) : Bool := applyCheck d d.tu.ns p apply == some stFramePassed

/-- Send REG_WRITE or REG_READ and wait for its CTRL_RESP (04 R114, R133). -/
def sendCtrl (c : Outst) (p : PortId) (read : Bool) (msg : Byte → List Byte) (d : Dev) : Ans :=
  let tag := (port d p).ctag
  let d := modPort p (fun k => { k with ctag := k.ctag + 1, ctrl := k.ctrl ++ [{ tag, cmd := c.tag, read }] }) d
  .stay (bcSend p 2 (msg tag) d (some tag)) .stepped

def sensorCtrlWriteBody (c : Outst) (d : Dev) : Ans :=
  let p := portArg c.e
  let n := fld c.e 33 1
  check ((link d p).state == 4) stConflict <|
  check (!framePassed d p (fld c.e 40 4)) stFramePassed <|
  check (decide ((port d p).ctrl.length < 64)) stQueueFull <|
  sendCtrl c p false (fun tag => [0x11, tag] ++ toLE 4 (fld c.e 40 4) ++ toLE 4 (fld c.e 36 4) ++ [BitVec.ofNat 8 n] ++
    fit (n + 1) c.e.data) d

def execSensorCtrlWrite (t : Nat) (s : State) : Host.Outcome State Fault Refusal :=
  .next (s.mapDev (hostRow specSensorCtrlWrite t sensorCtrlWriteBody))

def sensorCtrlReadBody (c : Outst) (d : Dev) : Ans :=
  let p := portArg c.e
  check ((link d p).state == 4) stConflict <|
  check (decide ((port d p).ctrl.length < 64)) stQueueFull <|
  sendCtrl c p true (fun tag => [0x12, tag] ++ toLE 4 (fld c.e 36 4) ++ [BitVec.ofNat 8 (fld c.e 33 1)]) d

def execSensorCtrlRead (t : Nat) (s : State) : Host.Outcome State Fault Refusal :=
  .next (s.mapDev (hostRow specSensorCtrlRead t sensorCtrlReadBody))

def sensorCtrlTimingBody (c : Outst) (d : Dev) : Ans :=
  let p := portArg c.e
  let a := fld c.e 40 4
  let tm : Timing := { eo := fld c.e 44 4, ed := fld c.e 48 4, ls := fld c.e 52 4 }
  check (!framePassed d p a) stFramePassed <|
  if a = 0xFFFFFFFF then okAns (modPort p (fun k => { k with timing := tm, later := [] }) d)
  else okAns (modPort p (fun k => { k with later := k.later ++ [(a, tm)] }) d)

def execSensorCtrlTiming (t : Nat) (s : State) : Host.Outcome State Fault Refusal :=
  .next (s.mapDev (hostRow specSensorCtrlTiming t sensorCtrlTimingBody))

/-- The port counters as 64 bytes (04 R133). -/
def portCounters (k : Port) : List Byte := pack (k.cnt.toList.map fun v => (4, v))

def sensorCtrlCountersBody (c : Outst) (d : Dev) : Ans :=
  okAns (writeData c (portCounters (port d (portArg c.e))) d)

def execSensorCtrlCounters (t : Nat) (s : State) : Host.Outcome State Fault Refusal :=
  .next (s.mapDev (hostRow specSensorCtrlCounters t sensorCtrlCountersBody))

/-- The WRITE or READ that a TAG names. -/
def ctrlOf (d : Dev) (p : PortId) (tag : Byte) : Option CtrlWait := (port d p).ctrl.find? fun w => w.tag == tag

def dropCtrl (p : PortId) (tag : Byte) (d : Dev) : Dev :=
  modPort p (fun k => { k with ctrl := k.ctrl.filter fun w => w.tag != tag }) d

/-- What a CTRL_RESP makes of its command (04 R133, R134, 11 R310). -/
def ctrlFinish (w : CtrlWait) (k : Pkt) (d : Dev) : Dev :=
  let l := pktPayload k
  let st := le l 1 1
  if w.read && !pcrcOk k then completeTag (some w.cmd) stIntegrityLink 0 0 d
  else if st != 0 then completeTag (some w.cmd) stRejected st 0 d
  else
    let d := match findOutst d w.cmd with
      | some c => if w.read then writeData c ((l.drop 4).take (le l 2 1 + 1)) d else d
      | none => d
    completeTag (some w.cmd) stSuccess 0 0 d

/-- CTRL_RESP (04 R112, R133). -/
def ctrlTaken (p : PortId) (k : Pkt) (d : Dev) : Dev :=
  let d := countDamage p k d
  let tag := BitVec.ofNat 8 (le (pktPayload k) 0 1)
  match ctrlOf d p tag with
  | none => d
  | some w => ctrlFinish w k (dropCtrl p tag d)

def ctrlRespPacket (p : PortId) (times : List BlkTime) (d : Dev) : Dev := takePacket p times (· == 5) d (ctrlTaken p)

def execCtrlRespPacket (p : PortId) (times : List BlkTime) (s : State) : Host.Outcome State Fault Refusal :=
  .next (s.mapDev (ctrlRespPacket p times))

/-- SENSOR_NO_RESPONSE (04 R134): 10 ms after the K29.7 of the message's frame; counted as CTRL_TIMEOUT. -/
def sensorNoResponse (p : PortId) (tag : Byte) (d : Dev) : Dev :=
  match ctrlOf d p tag with
  | none => d
  | some w =>
    if w.sent.any fun t => decide (t + 10000000 ≤ d.tu.ns) then
      bumpPort p 14 1 (completeTag (some w.cmd) stNoResponse 0 0 (dropCtrl p tag d))
    else d

def execSensorNoResponse (p : PortId) (tag : Byte) (s : State) : Host.Outcome State Fault Refusal :=
  .next (s.mapDev (sensorNoResponse p tag))

/-! FRAME_FETCH (04 R137-R139). -/

/-- The port of a FRAME_FETCH's handle, and whether it names the port itself. -/
def fetchPort (d : Dev) (h : Nat) : Option (PortId × Bool) :=
  if hType h = 2 && hIdx h < 4 then some (portOf (hIdx h), true)
  else ((List.finRange 4).find? fun p => (port d p).raw.any fun r => r.handle == h).map fun p => (p, false)

def fetchStreams (e : Sqe) : List Nat := match fld e 37 1 with
  | 0 => [0]
  | 1 => [1]
  | _ => [0, 1]

/-- PITCH of a transfer (04 R138). -/
def fetchPitch (k : Port) (e : Sqe) : Nat :=
  if fld e 36 1 = 0 then linePitch k else divUp ((k.samples + 1) * 2) 64 * 64

def fetchBytes (k : Port) (e : Sqe) : Nat :=
  64 + fetchPitch k e * (fld e 42 2 + 1) * (fetchStreams e).length

def specFrameFetch : CmdSpec where
  op := .frameFetch
  layout := [(32, 0, 48), (40, 0, 32)]
  checks e :=
    [(32, hType e.handle.toNat != 2 || fld e 32 4 == 0xFFFFFFFF), (36, decide (fld e 36 1 ≤ 1)),
     (37, decide (fld e 37 1 ≤ 2))]
  data := someData
  handle := .body

/-- What a waiting FRAME_FETCH of the port's next frame holds (04 R139). -/
def fetchWants (d : Dev) (p : PortId) : List (Nat × Nat × Nat) :=
  let k := port d p
  match groupOf d p with
  | none => []
  | some g =>
    [(rcHbmBw, unitAll, divUp (frameBytes k * (grp d g).num) ((grp d g).den * 1000000)),
     (rcHbmCap, unitAll, divUp (frameBytes k) (2 ^ 20))]

/-- A FRAME_FETCH waits for its frame, or for its turn at a closed one (04 R138, R139). -/
def fetchStay (c : Outst) (p : PortId) (num : Option Nat) (own shut : Bool) (d : Dev) : Ans :=
  .stay (pumpFetches p (modPort p (fun k => { k with fetch := k.fetch ++ [{ cmd := c.tag, num, own, shut, frm := none }] }) d))
    .waiting

/-- FRAME_FETCH (04 R138, R139). STREAM 1 or 2 of a port with one stream is INVALID_FIELD (DESIGN CHOICE 79). -/
def frameFetchBody (c : Outst) (d : Dev) : Ans :=
  match fetchPort d c.e.handle.toNat with
  | none => .fail stInvalidHandle 4 0
  | some (p, own) =>
    let k := port d p
    let n := fld c.e 32 4
    check ((fld c.e 37 1 == 0 || k.streams == 2) && decide (fld c.e 40 2 + fld c.e 42 2 ≤ k.height)) stInvalidField <|
    check (decide (fetchBytes k c.e ≤ c.e.dataLen.toNat)) stLength <|
    if n = 0xFFFFFFFF then
      match groupOf d p with
      | none => .fail stConflict 0xFF 0
      | some gi =>
        let g := grp d gi
        check (!own || g.run) stConflict <|
        check (!g.ended) stNotAvailable <|
        check (decide (groupLatestEnd d c.ns gi g.next ≤ c.ns + 80000000)) stInvalidField <|
        if own then withAdmission (2 ^ 40 + c.tag) true false (fetchWants d p) d fun d => fetchStay c p none true false d
        else fetchStay c p none false false d
    else
      let fs := (k.raw.map RawBuf.frames).getD []
      let f := if n = 0xFFFFFFFE then fs.getLast? else fs.find? fun f => f.num == n
      match f with
      | none => .fail stNotAvailable 0xFF 0
      | some f => fetchStay c p (some f.num) false true d

def execFrameFetch (t : Nat) (s : State) : Host.Outcome State Fault Refusal :=
  .next (s.mapDev (hostRow specFrameFetch t frameFetchBody))

/-- One line of a transfer. -/
def fetchLine (k : Port) (f : Frm) (e : Sqe) (s y : Nat) : List Byte :=
  let codes := (codesOf f (geoOf k) f.fe s y).2
  fit (fetchPitch k e) (if fld e 36 1 = 0 then packLine k.bits codes else codes.flatMap (toLE 2))

/-- The data of a FRAME_FETCH: the header and the lines (04 R138). -/
def fetchData (k : Port) (f : Frm) (e : Sqe) : List Byte :=
  pack [(4, f.num), (4, f.status)] ++ expBytes f ++
  pack [(2, k.samples), (2, k.height), (1, k.bits), (1, fld e 36 1), (1, f.port), (1, 0), (4, fetchPitch k e),
    (4, f.filled), (24, 0)] ++
  (fetchStreams e).flatMap fun s => (List.range (fld e 42 2 + 1)).flatMap fun i => fetchLine k f e s (fld e 40 2 + i)

/-- The frame that the FRAME_FETCH of fetch number t copies. -/
def fetchReady (k : Port) (t : Nat) : Option Frm := (k.fetch.find? fun w => w.cmd == t).bind FetchWait.frm

/-- The raw tiles of a transfer's lines. -/
def fetchTiles (k : Port) (e : Sqe) : List Nat :=
  (fetchStreams e).flatMap fun s =>
    let a := fld e 40 2 / 16
    (List.range ((fld e 40 2 + fld e 42 2) / 16 - a + 1)).map fun j => s * tilesOf k + a + j

/-- A FRAME_FETCH reads the raw tiles it copies, out of the raw buffer or the HBM buffer of its own (11 R307, R310). -/
def fetchRead (c : Outst) (p : PortId) (own : Bool) (f : Frm) (d : Dev) : TileRead :=
  let k := port d p
  let handle := if own then portHandle p else ((k.raw.map RawBuf.handle).getD 0)
  let addr := if own then hbmBuffer d (2 ^ 40 + c.tag) else frameAddr d p false f.slot
  readTiles { handle, cls := 2, frame := f.num } handle k addr f (fetchTiles k c.e) d

/-- FRAME_FETCH_DONE (04 R138, R139): a tile copied that fails its check or is tainted gives INTEGRITY_MEMORY, with the whole
transfer written and the bytes moved in EXT_RESULT (11 R310). -/
def frameFetchDone (t : Nat) (d : Dev) : Dev :=
  match findOutst d t, (List.finRange 4).find? (fun p => (fetchReady (port d p) t).isSome) with
  | some c, some p =>
    match (port d p).fetch.find? fun w => w.cmd == t with
    | none => d
    | some w =>
      let r := fetchRead c p w.own (w.frm.getD default) d
      let data := fetchData (port d p) r.frm c.e
      let d := modPort p (fun k => { k with
        fetch := k.fetch.filter fun w => w.cmd != t
        raw := if w.own then k.raw else k.raw.map fun b => { b with
          frames := b.frames.map fun x => if x.num = r.frm.num then { x with told := r.frm.told } else x } }) (writeData c data r.dev)
      let d := if r.bad.isEmpty && !r.lost then complete c stSuccess (r.frm.num + data.length % 2 ^ 32 * 2 ^ 32) 0 0xFF d
        else complete c stIntegrityMemory 0 data.length 0xFF d
      pumpFetches p (returnResv (2 ^ 40 + t) d)
  | _, _ => d

def execFrameFetchDone (t : Nat) (s : State) : Host.Outcome State Fault Refusal :=
  .next (s.mapDev (frameFetchDone t))

end Sys2Proof.Machine
end

