-- ==== Sys2Proof/Machine/Clock.lean ====
section
/-!
DEFINITION. Machine/Clock.lean: the time unit's advance and steps, the servo and its states, PTP, GENLOCK,
time code and TIME_GET (14 R367-R377, R385-R388).
-/
namespace Sys2Proof.Machine

/-! The time unit (14 R367). -/

/-- SEC has 48 bits. -/
abbrev tuWrap : Nat := 2 ^ 48 * 1000000000

/-- n TCLK edges; none count while the root PLL is unlocked. -/
def tuAdvance (n : Nat) (u : Tu) : Tu :=
  if u.held then u
  else
    let acc := u.frac + n * u.addend
    { u with ns := (u.ns + acc / 2 ^ 32) % tuWrap, frac := acc % 2 ^ 32 }

/-! Fields of PTP_CONFIG (14 R371). -/

def modPtp (f : Ptp → Ptp) (d : Dev) : Dev := { d with ptp := f d.ptp }
def pcProfile (d : Dev) : Nat := le d.ptp.cfg 0 1
def pcRole (d : Dev) : Nat := le d.ptp.cfg 1 1
def pcPorts (d : Dev) : Nat := le d.ptp.cfg 2 1
def pcTwoStep (d : Dev) : Bool := le d.ptp.cfg 3 1 == 1
def pcDomain (d : Dev) : Nat := le d.ptp.cfg 4 1
def pcSrc (d : Dev) : Nat := le d.ptp.cfg 13 1
def pcSlew (d : Dev) : Nat := le d.ptp.cfg 14 2
def pcStep (d : Dev) : Nat := le d.ptp.cfg 16 4
def pcLock (d : Dev) : Nat := le d.ptp.cfg 20 2
def pcAsym (d : Dev) (n : NetId) : Int := signed 32 (le d.ptp.cfg (24 + 4 * n.val) 4)
def pcGlNum (d : Dev) : Nat := le d.ptp.cfg 32 4
def pcGlDen (d : Dev) : Nat := le d.ptp.cfg 36 4
def pcGlFalling (d : Dev) : Bool := le d.ptp.cfg 40 1 == 1
def pcTc (d : Dev) : Nat := le d.ptp.cfg 48 1
def pcTcRate (d : Dev) : Nat := le d.ptp.cfg 49 1

/-- The clock uses a network port. -/
def ptpUses (d : Dev) (n : NetId) : Bool := pcProfile d != 0 && bitOf (pcPorts d) n.val

/-! Steps and states of the servo (14 R373, R374). -/

/-- SYNC_STATE changes: event, and interrupt source 53. -/
def setSync (st : Nat) (d : Dev) : Dev :=
  if d.ptp.state = st then d
  else
    let off : Int := max (-2 ^ 31) (min (2 ^ 31 - 1) (d.ptp.offset / 65536))
    irqEdge 53 (raise evNetwork 2 0 (st + unsigned 32 off * 2 ^ 32) (modPtp (fun p => { p with state := st, good := 0 }) d))

/-- The state after a step, a restart or a change of master. -/
def relock (d : Dev) : Dev :=
  let d := modPtp (fun p => { p with good := 0 }) d
  if pcSrc d = 2 then setSync 0 d else if d.ptp.state = 0 then d else setSync 1 d

/-- No TIME group captures and no transmit flow is open. -/
def stepAllowed (d : Dev) : Bool :=
  !((List.finRange 4).any fun g => (grp d g).run && !(grp d g).genlock) &&
  !(d.flows.any fun p => le p.2.cfg 0 1 != 2)

/-- Edge k of a media clock of rate num / den and phase (14 R385). -/
def mcEdge (num den phase k : Nat) : Nat := (k * den * 1000000000 + num - 1) / max 1 num + phase

/-- The first edge at or after an instant. -/
def mcFrom (num den phase t : Nat) : Nat :=
  if t ≤ phase then 0 else (t - phase - 1) * num / (max 1 den * 1000000000) + 1

/-- Heads move to the new grid at their next edge (14 R385). -/
def headsStep (by' : Int) (d : Dev) : Dev :=
  { d with heads := d.heads.map fun (h : Head) =>
      { h with start := ((h.start : Int) + by').toNat
               edge := if h.on && !h.loose then mcFrom (le h.cfg 32 4) (le h.cfg 36 4) (le h.cfg 40 4) d.tu.ns else h.edge } }

/-- A step of the time unit: to a value of SEC and NS (14 R367, R374; 19 R489). -/
def stepTo (ns : Nat) (d : Dev) : Dev :=
  let by' : Int := (ns : Int) - d.tu.ns
  let d := { d with tu := { d.tu with ns := ns % tuWrap, frac := 0, steps := (d.tu.steps + 1) % 65536 } }
  relock (timersStep (raise evNetwork 3 0 (unsigned 64 by') (headsStep by' d)))

/-- ADDEND within its bounds (14 R367). -/
def clampAddend (a : Nat) : Nat := max 0x1FFBE76C9 (min 0x200418937 a)

/-- The servo sets ADDEND. -/
def setAddend (a : Nat) (d : Dev) : Dev :=
  let a := clampAddend a
  modPtp (fun p => { p with hist := (a :: p.hist).take 16 }) { d with tu := { d.tu with addend := a } }

/-- While slewing, ADDEND stays within SLEW_PPM of the frequency estimate (14 R374). -/
def slewed (ppm est a : Nat) : Nat := max (est - est * ppm / 1000000) (min (est + est * ppm / 1000000) a)

/-- The time unit corrected by an offset in 2^-16 ns, in whole nanoseconds. -/
def corrected (ns : Nat) (off : Int) : Nat :=
  let whole := off / 65536
  let n := if off % 65536 = 0 then whole else if Config.stepUp off then whole + 1 else whole
  (((ns : Int) - n) % (tuWrap : Int)).toNat

/-- One offset measurement, device less reference, in 2^-16 ns (14 R373, R374). -/
def servoMeasure (off : Int) (d : Dev) : Dev :=
  let d := modPtp (fun p => { p with offset := off, seen := true }) d
  let d := if d.ptp.state = 0 || d.ptp.state = 3 then setSync 1 d else d
  let d := if off.natAbs ≤ pcLock d * 65536 then modPtp (fun p => { p with good := min (p.good + 1) 16 }) d
    else modPtp (fun p => { p with good := 0 }) d
  let big := decide (pcStep d * 65536 < off.natAbs)
  if big && stepAllowed d then stepTo (corrected d.tu.ns off) d
  else
    let a := Config.servo off d.ptp.hist
    let d := setAddend (if big then slewed (pcSlew d) (clampAddend (Config.servoEstimate d.ptp.hist)) a else a) d
    if 16 ≤ d.ptp.good then setSync 2 d else d

/-- HOLDOVER: ADDEND is held at the mean of its last 16 values. -/
def holdover (d : Dev) : Dev :=
  let n := d.ptp.hist.length
  let sum := d.ptp.hist.foldl (· + ·) 0
  let a := if n = 0 then d.tu.addend else if Config.meanUp sum then (sum + n - 1) / n else sum / n
  setSync 3 { d with tu := { d.tu with addend := clampAddend a } }

/-! Network access for PTP messages (14 R366, R370, R377). -/

def otherNet (n : NetId) : NetId := ⟨1 - n.val, by omega⟩
def ncOn (d : Dev) (n : NetId) : Bool := (net d n).on
/-- Chain mode is in force (14 R366). -/
def chained (d : Dev) : Bool := (List.finRange 2).all fun n => (net d n).on && le (net d n).cfg 2 1 == 1
/-- A port that can carry frames. -/
def netUp (d : Dev) (n : NetId) : Bool := (net d n).on && (net d n).up

/-- PTP message types (IEEE 1588). -/
abbrev ptSync : Nat := 0
abbrev ptDelayReq : Nat := 1
abbrev ptFollowUp : Nat := 8
abbrev ptDelayResp : Nat := 9
abbrev ptAnnounce : Nat := 11
abbrev ptManagement : Nat := 13

/-- Send a PTP message: ahead of everything else that waits for the port (14 R366), its UDP checksum 0 (14 R376, R377). -/
def ptpSend (n : NetId) (kind seq : Nat) (twoStep : Bool) (origin corr : Int) (d : Dev) (data : List Nat := []) : Dev :=
  emit (.ptp n.val kind seq twoStep origin corr data) (bumpNet n 2 1 d)

/-- The transparent clock forwards an event message, unless it was sent to the receiving port alone, with its residence time
(14 R366, R377). -/
def tcForward (m : PtpMsg) (kind : Nat) (egress : Int) (d : Dev) : Dev :=
  if chained d && netUp d (otherNet m.port) && !m.toUs then
    let o := otherNet m.port
    let d := bumpNet m.port 8 1 (bumpNet o 11 1 (bumpNet o 10 1 d))
    let d := modNet m.port (fun x => { x with fwd := (egress / 65536).toNat }) d
    ptpSend o kind m.seqId m.twoStep m.origin (m.correction + (egress - m.stamp)) d
  else d

/-- A general message that is not addressed to the receiving port alone passes unchanged (14 R366, R377). -/
def chainPass (m : PtpMsg) (kind : Nat) (d : Dev) : Dev :=
  if chained d && netUp d (otherNet m.port) && !m.toUs then
    ptpSend (otherNet m.port) kind m.seqId m.twoStep m.origin m.correction (bumpNet m.port 8 1 d)
  else d

/-! The ordinary clock (14 R370-R373, R376). -/

/-- Clock identity: the MAC address of N0 with FF, FE after byte 2, as a number (14 R370). -/
def clockId (d : Dev) : Nat :=
  let mac := ((net d 0).cfg.drop 4).take 6
  leNat ((mac.take 3 ++ [0xFF, 0xFE] ++ mac.drop 3).reverse)

/-- clockClass the device announces (14 R371). -/
def ownClass (d : Dev) : Nat := if d.ptp.state = 0 then 248 else le d.ptp.cfg 7 1

/-- The order of the BMCA dataset comparison (IEEE 1588): the lower is the better. -/
def masterRank (m : PtpMsg) : List Nat :=
  [m.priority1, m.clockClass, m.accuracy, m.variance, m.priority2, m.gmId, m.stepsRemoved, m.parentId]

def ownRank (d : Dev) : List Nat :=
  [le d.ptp.cfg 5 1, ownClass d, Config.ownAccuracy, Config.ownVariance, le d.ptp.cfg 6 1, clockId d, 0, 0]

def lexLess : List Nat → List Nat → Bool
  | a :: as, b :: bs => decide (a < b) || (decide (a = b) && lexLess as bs)
  | _, _ => false

def ptpPort (d : Dev) (n : NetId) : PtpPort := d.ptp.ports[n]
def modPtpPort (n : NetId) (f : PtpPort → PtpPort) (d : Dev) : Dev :=
  modPtp (fun p => { p with ports := p.ports.set n (f p.ports[n]) }) d

/-- The best master heard on a port in use. -/
def heardOn (d : Dev) (n : NetId) : Option PtpMsg :=
  if ptpUses d n && netUp d n then (ptpPort d n).master else none

/-- The port whose master the clock follows, 0xFF for none (14 R371, R372). -/
def bestPort (d : Dev) : Nat :=
  let follows (m : PtpMsg) : Bool := pcRole d == 0 || lexLess (masterRank m) (ownRank d)
  if pcRole d = 2 then 0xFF
  else match heardOn d 0, heardOn d 1 with
    | some a, some b => if lexLess (masterRank b) (masterRank a) then (if follows b then 1 else 0xFF) else if follows a then 0 else 0xFF
    | some a, none => if follows a then 0 else 0xFF
    | none, some b => if follows b then 1 else 0xFF
    | none, none => 0xFF

/-- The master the clock follows. -/
def masterOf (d : Dev) : Option PtpMsg :=
  match bestPort d with
  | 0 => (ptpPort d 0).master
  | 1 => (ptpPort d 1).master
  | _ => none

/-- Choose again; a change of master returns to LOCKING, and its Syncs are awaited from now on (14 R372, R373). -/
def reselect (old : Option PtpMsg) (d : Dev) : Dev :=
  let d := modPtp (fun p => { p with sel := bestPort d }) d
  let new := masterOf d
  if new.isSome && old.map PtpMsg.parentId != new.map PtpMsg.parentId then
    let d := match bestPort d with
      | 0 => modPtpPort 0 (fun p => { p with syncNs := d.tu.ns }) d
      | _ => modPtpPort 1 (fun p => { p with syncNs := d.tu.ns }) d
    if pcSrc d == 0 then relock d else d
  else d

/-- Sends as master: the profile runs on the port, the role permits and no better master is followed. -/
def masterOn (d : Dev) (n : NetId) : Bool :=
  ptpUses d n && netUp d n && decide (d.pwr.state < 2) && pcRole d != 0 && bestPort d == 0xFF &&
    (d.ptp.sel == 0xFF || d.ptp.sel == n.val || !netUp d (otherNet n))

/-- Follows a master on the port. -/
def slaveOn (d : Dev) (n : NetId) : Bool :=
  ptpUses d n && netUp d n && decide (d.pwr.state < 2) && bestPort d == n.val

/-- A message of the followed master in the configured domain. -/
def fromMaster (d : Dev) (m : PtpMsg) : Bool :=
  slaveOn d m.port && m.domain == pcDomain d && (masterOf d).map PtpMsg.parentId == some m.parentId

/-- Asymmetry in 2^-16 ns. -/
def asym16 (d : Dev) (n : NetId) : Int := pcAsym d n * 65536 / 1000

/-- The offset of a Sync pair with the path delay known. -/
def syncOffset (d : Dev) (n : NetId) (origin ingress : Int) : Int := ingress - origin - d.ptp.delay - asym16 d n

/-- A master's origin time and the Sync's ingress: the servo takes an offset once the delay is known. -/
def syncPair (n : NetId) (origin ingress : Int) (d : Dev) : Dev :=
  let d := modPtpPort n (fun p => { p with pair := some (origin, ingress), sync := none }) d
  if pcSrc d = 0 && d.ptp.seen then servoMeasure (syncOffset d n origin ingress) d else d

/-- A frame comes in on a port that can carry frames. -/
def rxOn (n : NetId) (f : Dev → Dev) (d : Dev) : Dev :=
  if netUp d n && decide (d.pwr.state < 2) then f (bumpNet n 1 1 d) else d

/-- Sync received (14 R375-R377). -/
def ptpSyncRx (m : PtpMsg) (egress : MacStamp) (d : Dev) : Dev :=
  rxOn m.port (fun d =>
    let d := bumpNet m.port 10 1 d
    let d := if fromMaster d m then
        let d := modPtpPort m.port (fun p => { p with syncNs := d.tu.ns }) d
        if m.twoStep then modPtpPort m.port (fun p => { p with sync := some m }) d
        else syncPair m.port (m.origin + m.correction) m.stamp d
      else d
    tcForward m ptSync egress.egress d) d

def execPtpSyncRx (m : PtpMsg) (egress : MacStamp) (s : State) : Host.Outcome State Fault Refusal :=
  .next (s.mapDev (ptpSyncRx m egress))

/-- Follow_Up received. -/
def ptpFollowUpRx (m : PtpMsg) (d : Dev) : Dev :=
  rxOn m.port (fun d =>
    let d := match (ptpPort d m.port).sync with
      | some s =>
        if fromMaster d m && s.seqId == m.seqId then
          syncPair m.port (m.origin + s.correction + m.correction) s.stamp d
        else d
      | none => d
    chainPass m ptFollowUp d) d

def execPtpFollowUpRx (m : PtpMsg) (s : State) : Host.Outcome State Fault Refusal :=
  .next (s.mapDev (ptpFollowUpRx m))

/-- Delay_Req received: answered as master, corrected and forwarded in chain mode unless it was sent to the
device alone (14 R366, R376, R377). -/
def ptpDelayReqRx (m : PtpMsg) (egress : MacStamp) (d : Dev) : Dev :=
  rxOn m.port (fun d =>
    let d := bumpNet m.port 10 1 d
    let d := if masterOn d m.port && m.domain == pcDomain d then
        ptpSend m.port ptDelayResp m.seqId false (m.stamp / 65536 * 65536) (m.correction - m.stamp % 65536) d
      else d
    tcForward m ptDelayReq egress.egress d) d

def execPtpDelayReqRx (m : PtpMsg) (egress : MacStamp) (s : State) : Host.Outcome State Fault Refusal :=
  .next (s.mapDev (ptpDelayReqRx m egress))

/-- Delay_Resp received: the path delay, then an offset (14 R373; IEEE 1588). -/
def ptpDelayRespRx (m : PtpMsg) (d : Dev) : Dev :=
  rxOn m.port (fun d =>
    let d := match (ptpPort d m.port).pair, (ptpPort d m.port).req with
      | some (t1, t2), some (seq, t3) =>
        if fromMaster d m && seq == m.seqId then
          let t4 := m.origin - m.correction
          let d := modPtpPort m.port (fun p => { p with req := none }) d
          let d := modPtp (fun p => { p with delay := ((t2 - t1) + (t4 - t3)) / 2 }) d
          if pcSrc d = 0 then servoMeasure (syncOffset d m.port t1 t2) d else d
        else d
      | _, _ => d
    chainPass m ptDelayResp d) d

def execPtpDelayRespRx (m : PtpMsg) (s : State) : Host.Outcome State Fault Refusal :=
  .next (s.mapDev (ptpDelayRespRx m))

/-- Announce received (14 R372). -/
def ptpAnnounceRx (m : PtpMsg) (d : Dev) : Dev :=
  rxOn m.port (fun d =>
    let old := masterOf d
    let d := if ptpUses d m.port && m.domain == pcDomain d then
        let better := match (ptpPort d m.port).master with
          | none => true
          | some k => k.parentId == m.parentId || lexLess (masterRank m) (masterRank k)
        if better then reselect old (modPtpPort m.port (fun p => { p with master := some m, annNs := d.tu.ns }) d) else d
      else d
    chainPass m ptAnnounce d) d

def execPtpAnnounceRx (m : PtpMsg) (s : State) : Host.Outcome State Fault Refusal :=
  .next (s.mapDev (ptpAnnounceRx m))

/-- A Management message is counted and ignored (14 R370). -/
def ptpManagementRx (m : PtpMsg) (d : Dev) : Dev :=
  rxOn m.port (fun d => chainPass m ptManagement (bumpNet m.port 12 1 d)) d

def execPtpManagementRx (m : PtpMsg) (s : State) : Host.Outcome State Fault Refusal :=
  .next (s.mapDev (ptpManagementRx m))

/-- Sync sent as master, with Follow_Up in two-step mode (14 R376). -/
def ptpSyncTx (n : NetId) (mac : MacStamp) (d : Dev) : Dev :=
  if masterOn d n then
    let stamp := mac.egress
    let seq := d.ptp.seqs.1
    let d := modPtp (fun p => { p with sel := n.val, seqs := ((seq + 1) % 65536, p.seqs.2) }) (bumpNet n 10 1 d)
    if pcTwoStep d then
      ptpSend n ptFollowUp seq false (stamp / 65536 * 65536) (stamp % 65536) (ptpSend n ptSync seq true (Config.ptpOrigin seq) 0 d)
    else ptpSend n ptSync seq false (stamp / 65536 * 65536) (stamp % 65536) d
  else d

def execPtpSyncTx (n : NetId) (stamp : MacStamp) (s : State) : Host.Outcome State Fault Refusal :=
  .next (s.mapDev (ptpSyncTx n stamp))

/-- Announce sent as master: the domain and the clock's own dataset (14 R370-R372). -/
def ptpAnnounceTx (n : NetId) (d : Dev) : Dev :=
  if masterOn d n then
    let seq := d.ptp.seqs.2.1
    ptpSend n ptAnnounce seq false (Config.ptpOrigin seq) 0
      (modPtp (fun p => { p with sel := n.val, seqs := (p.seqs.1, (seq + 1) % 65536, p.seqs.2.2) }) d)
      (pcDomain d :: ownRank d)
  else d

def execPtpAnnounceTx (n : NetId) (s : State) : Host.Outcome State Fault Refusal :=
  .next (s.mapDev (ptpAnnounceTx n))

/-- Delay_Req sent as slave. -/
def ptpDelayReqTx (n : NetId) (stamp : MacStamp) (d : Dev) : Dev :=
  if slaveOn d n then
    let seq := d.ptp.seqs.2.2
    let d := modPtp (fun p => { p with seqs := (p.seqs.1, p.seqs.2.1, (seq + 1) % 65536) }) (bumpNet n 10 1 d)
    ptpSend n ptDelayReq seq false (Config.ptpOrigin seq) 0 (modPtpPort n (fun p => { p with req := some (seq, stamp.egress) }) d)
  else d

def execPtpDelayReqTx (n : NetId) (stamp : MacStamp) (s : State) : Host.Outcome State Fault Refusal :=
  .next (s.mapDev (ptpDelayReqTx n stamp))

/-- A message interval of 2^log seconds, in ns: log from -7 to 1. -/
def logInterval (log : Int) : Nat := 7812500 * 2 ^ (log + 7).toNat

def announceLimit (d : Dev) : Nat := le d.ptp.cfg 11 1 * logInterval (signed 8 (le d.ptp.cfg 8 1))
def syncLimit (d : Dev) : Nat := 4 * logInterval (signed 8 (le d.ptp.cfg 9 1))
/-- Two periods of the GENLOCK_IN pulses. -/
def edgeLimit (d : Dev) : Nat := divUp (2 * pcGlDen d * 1000000000) (max 1 (pcGlNum d))

/-- A port's master whose Announces stay out for ANNOUNCE_TIMEOUT intervals is dropped (14 R371, R373). -/
def dropSilent (n : NetId) (d : Dev) : Dev :=
  if (ptpPort d n).master.isSome && decide ((ptpPort d n).annNs + announceLimit d ≤ d.tu.ns) then modPtpPort n (fun _ => {}) d
  else d

/-- The reference has been silent for its limit (14 R373): no Sync of the followed master, or no GENLOCK_IN edge. -/
def refSilent (d : Dev) : Bool :=
  if pcSrc d = 1 then decide (d.ptp.edgeNs + edgeLimit d ≤ d.tu.ns)
  else match bestPort d with
    | 0 => decide ((ptpPort d 0).syncNs + syncLimit d ≤ d.tu.ns)
    | 1 => decide ((ptpPort d 1).syncNs + syncLimit d ≤ d.tu.ns)
    | _ => false

/-- The reference is lost (14 R372, R373): an Announce timeout drops the selected master and takes the other
port's; without one, and where Sync or GENLOCK_IN edges stay out, HOLDOVER. -/
def syncHoldoverTimeout (announce : Bool) (d : Dev) : Dev :=
  let active := d.ptp.state == 1 || d.ptp.state == 2
  if announce then
    let old := masterOf d
    let d := dropSilent 1 (dropSilent 0 d)
    if old.isSome && masterOf d != old then
      let d := reselect old d
      if pcSrc d == 0 && (masterOf d).isNone && active then holdover d else d
    else d
  else if pcSrc d != 2 && active && refSilent d then holdover d else d

def execSyncHoldoverTimeout (announce : Bool) (s : State) : Host.Outcome State Fault Refusal :=
  .next (s.mapDev (syncHoldoverTimeout announce))

/-! PTP_CONFIG (14 R371). -/

def specPtpConfig : CmdSpec where
  op := .ptpConfig
  layout := []
  data := structData 64

def zeroBytes (l : List Byte) (off n : Nat) : Bool := ((l.drop off).take n).all (· == 0)

def within (lo hi x : Int) : Bool := decide (lo ≤ x) && decide (x ≤ hi)

def ptpValid (l : List Byte) : Bool :=
  let profile := le l 0 1
  let src := le l 13 1
  decide (profile ≤ 2) && decide (le l 1 1 ≤ 2) && decide (le l 2 1 ≤ 3) && (profile == 0 || le l 2 1 != 0) &&
  decide (le l 3 1 ≤ 1) && decide (le l 4 1 ≤ 127) &&
  within (-3) 1 (signed 8 (le l 8 1)) && within (-7) 0 (signed 8 (le l 9 1)) && within (-7) 0 (signed 8 (le l 10 1)) &&
  within 2 10 (le l 11 1) && decide (le l 12 1 ≤ 1) && decide (src ≤ 2) && (src != 0 || profile != 0) &&
  within 1 500 (le l 14 2) && within 1000 1000000000 (le l 16 4) && within 10 10000 (le l 20 2) && zeroBytes l 22 2 &&
  (src != 1 || (le l 36 4 != 0 && decide (le l 36 4 ≤ 2 * le l 32 4) && decide (le l 32 4 ≤ 1000 * le l 36 4))) &&
  decide (le l 40 1 ≤ 1) && zeroBytes l 41 7 && decide (le l 48 1 ≤ 2) && decide (le l 49 1 ≤ 4) &&
  decide (le l 50 1 ≤ 1) && decide (le l 51 1 ≤ 1) && zeroBytes l 58 6

def ptpConfigBody (c : Outst) (d : Dev) : Ans :=
  let l := fit 64 c.e.data
  check (ptpValid l) stInvalidField <|
  check ((List.finRange 2).all fun n => !(bitOf (le l 2 1) n.val) || ncOn d n) stConflict <|
  let d := modPtp (fun p => { p with
    cfg := l, sel := 0xFF, ports := Vector.replicate 2 {}, good := 0, seen := false, edge := none, edgeNs := d.tu.ns }) d
  okAns (setSync (if le l 13 1 = 2 then 0 else 1) d)

def execPtpConfig (t : Nat) (s : State) : Host.Outcome State Fault Refusal :=
  .next (s.mapDev (hostRow specPtpConfig t ptpConfigBody))

/-! GENLOCK (14 R386). -/

/-- The offset of an edge from the alignment point nearest to it, in 2^-16 ns. -/
def genlockOffset (num den stamp : Nat) : Int :=
  if num = 0 || den = 0 then 0
  else
    let pt (k : Nat) : Int := ((k * den * 1000000000 + num - 1) / num : Nat)
    let k := stamp * num / (den * 1000000000)
    let lo := (stamp : Int) - pt k
    let hi := pt (k + 1) - (stamp : Int)
    (if hi < lo then -hi else lo) * 65536

/-- GENLOCK_IN_EDGE: the groups re-anchor; the edge of GL_EDGE feeds the servo under TIME_SRC GENLOCK. -/
def genlockInEdge (rising : Bool) (stamp : Nat) (d : Dev) : Dev :=
  let d := genlockGroups rising stamp d
  if pcSrc d = 1 && rising != pcGlFalling d then
    servoMeasure (genlockOffset (pcGlNum d) (pcGlDen d) stamp)
      (modPtp (fun p => { p with edge := some stamp, edgeNs := d.tu.ns }) d)
  else d

def execGenlockInEdge (rising : Bool) (stamp : Nat) (s : State) : Host.Outcome State Fault Refusal :=
  .next (s.mapDev (genlockInEdge rising stamp))

/-! Time code (14 R387). -/

/-- Rate of a TC_RATE code. -/
def tcRate : Nat → Nat × Nat
  | 0 => (24, 1)
  | 1 => (25, 1)
  | 2 => (30, 1)
  | 3 => (30000, 1001)
  | _ => (24000, 1001)

/-- The latest TC_RATE alignment point at or before an instant. -/
def tcPoint (rate e : Nat) : Nat := e * (tcRate rate).1 / ((tcRate rate).2 * 1000000000)

/-- Instant of a TC_RATE alignment point. -/
def tcInstant (rate k : Nat) : Nat := (k * (tcRate rate).2 * 1000000000 + (tcRate rate).1 - 1) / (tcRate rate).1

/-- The ST 2059-1 time address of an alignment point. -/
def timeAddr (d : Dev) (k : Nat) : Dword :=
  Config.timeAddress (pcTcRate d) k (le d.ptp.cfg 51 1 == 1) (le d.ptp.cfg 52 2) (signed 32 (le d.ptp.cfg 54 4))

/-- A frame's time code from its start of exposure, without the pair flag. -/
def tcPlain (d : Dev) (e : Nat) : Dword :=
  if pcTc d = 0 then timeAddr d (tcPoint (pcTcRate d) e)
  else if !d.ptp.ltcLock then 0xFFFFFFFFFFFFFFFF
  else match d.ptp.ltc.find? fun x => decide (x.1 ≤ e) with
    | some x => BitVec.ofNat 64 x.2
    | none => Config.ltcBefore e

/-- A frame's time code at a frame rate. -/
def timeCode (d : Dev) (num den e : Nat) : Dword :=
  let prev := e - den * 1000000000 / max 1 num
  let code := tcPlain d e
  if 30 * den < num && tcPlain d prev == code && (pcTc d = 0 || d.ptp.ltcLock) then Config.pairFlag (pcTcRate d) code else code

/-- LTC_STATE (14 R390). -/
def ltcState (lock : Bool) (d : Dev) : Dev :=
  raise evNetwork 8 0 (b2n lock) (modPtp (fun p => { p with ltcLock := lock }) d)

/-- A frame starts one frame after the one before it, at 0.9 to 1.1 times the nominal speed (14 R387; DEDUCED, log 112). -/
def ltcFollows (rate last stamp : Nat) : Bool :=
  let t := (stamp - last) * (tcRate rate).1
  let frame := (tcRate rate).2 * 1000000000
  decide (10 * frame ≤ 11 * t) && decide (9 * t ≤ 10 * frame)

/-- An LTC_IN frame: lock after the fourth in a row; under GENLOCK it gives the second (14 R386). -/
def ltcInFrame (code : Dword) (stamp : Nat) (d : Dev) : Dev :=
  let follows := d.ptp.ltc.head?.any fun x => ltcFollows (pcTcRate d) x.1 stamp
  let d := modPtp (fun p => { p with
    ltc := ((stamp, code.toNat) :: p.ltc).take 8, ltcGood := if follows then min (p.ltcGood + 1) 4 else 1 }) d
  let d := if d.ptp.ltcGood = 4 && !d.ptp.ltcLock then ltcState true d else d
  let sec := stamp / 1000000000
  if pcSrc d = 1 && pcTc d = 1 && d.ptp.ltcLock && Config.ltcSecond code sec != sec && stepAllowed d then
    stepTo (d.tu.ns + Config.ltcSecond code sec * 1000000000 - sec * 1000000000) d
  else d

def execLtcInFrame (code : Dword) (stamp : Nat) (s : State) : Host.Outcome State Fault Refusal :=
  .next (s.mapDev (ltcInFrame code stamp))

/-- Two frame periods have passed since the last LTC_IN frame started. -/
def ltcSilent (d : Dev) : Bool :=
  d.ptp.ltc.head?.all fun x =>
    decide (2 * (tcRate (pcTcRate d)).2 * 1000000000 ≤ (d.tu.ns - x.1) * (tcRate (pcTcRate d)).1)

/-- Two LTC_IN frames are missing: the instants at which they had to start have passed (14 R387; DEDUCED, log 112). -/
def ltcInLost (d : Dev) : Dev :=
  if !ltcSilent d then d
  else
    let d := modPtp (fun p => { p with ltcGood := 0 }) d
    if d.ptp.ltcLock then ltcState false d else d

def execLtcInLost (s : State) : Host.Outcome State Fault Refusal := .next (s.mapDev ltcInLost)

/-- An LTC_OUT frame starts at the TC_RATE alignment point at an instant. -/
def ltcOutFrame (t : Nat) (d : Dev) : Dev :=
  let k := tcPoint (pcTcRate d) t
  if le d.ptp.cfg 50 1 == 1 && tcInstant (pcTcRate d) k == t then emit (.pin 5 (timeAddr d k).toNat) d else d

def execLtcOutFrame (t : Nat) (s : State) : Host.Outcome State Fault Refusal := .next (s.mapDev (ltcOutFrame t))

/-! TIME_GET (14 R388). -/

def specTimeGetRead : CmdSpec where
  op := .timeGetRead
  layout := [(32, 0, 8)]

def secOfTu (d : Dev) : Nat := d.tu.ns / 1000000000 % 2 ^ 48
def nsOfTu (d : Dev) : Nat := d.tu.ns % 1000000000

def timeGetReadBody (_ : Outst) (d : Dev) : Ans :=
  okAns d (res := secOfTu d + d.ptp.state * 2 ^ 48)
    (ext := nsOfTu d + ns32 d * 2 ^ 32 + (Config.ptmTime d.tu.ns).toNat * 2 ^ 64)

def execTimeGetRead (t : Nat) (s : State) : Host.Outcome State Fault Refusal :=
  .next (s.mapDev (hostRow specTimeGetRead t timeGetReadBody))

def specTimeGetSet : CmdSpec where
  op := .timeGetSet
  layout := [(32, 0, 8), (36, 0, 48), (44, 0, 32)]
  checks e := [(44, decide (fld e 44 4 < 1000000000))]

def timeGetSetBody (c : Outst) (d : Dev) : Ans :=
  check (pcSrc d != 0 && stepAllowed d) stConflict <|
  okAns (stepTo (fld c.e 36 6 * 1000000000 + fld c.e 44 4) d)

def execTimeGetSet (t : Nat) (s : State) : Host.Outcome State Fault Refusal :=
  .next (s.mapDev (hostRow specTimeGetSet t timeGetSetBody))

def specTimeGetStatus : CmdSpec where
  op := .timeGetStatus
  layout := [(32, 0, 8)]
  data := someData

/-- A time in 2^-16 ns as picoseconds. -/
def toPs (x : Int) : Int := x * 1000 / 65536

/-- Grandmaster identity, parent port identity, steps removed and clockClass. -/
def masterFields (d : Dev) : List Byte :=
  match masterOf d with
  | some m => big 8 m.gmId ++ big 10 m.parentId ++ pack [(1, m.stepsRemoved), (1, m.clockClass)]
  | none => (List.range 20).map Config.noMaster

def statusBytes (d : Dev) : List Byte :=
  pack [(1, d.ptp.state), (1, pcSrc d), (1, d.ptp.sel), (1, b2n d.ptp.ltcLock), (4, d.tu.steps),
    (8, unsigned 64 (toPs d.ptp.offset)), (8, unsigned 64 (toPs d.ptp.delay)), (8, d.tu.addend)] ++
  masterFields d ++ toLE 8 (((d.ptp.ltc.head?).map (·.2)).getD (Config.ltcBefore 0).toNat) ++ zeros 4

def timeGetStatusBody (c : Outst) (d : Dev) : Ans := okAns (writeData c (statusBytes d) d)

def execTimeGetStatus (t : Nat) (s : State) : Host.Outcome State Fault Refusal :=
  .next (s.mapDev (hostRow specTimeGetStatus t timeGetStatusBody))

end Sys2Proof.Machine
end

