-- ==== Sys2Proof/Machine/EncBits.lean ====
section
/-!
DEFINITION. Machine/EncBits.lean: the fields of an encode session, the levels of HEVC and AV1, and the units
of an access unit around its coded slices and tiles (08 R227-R230, R239, R243, R244, R252).
-/
namespace Sys2Proof.Machine

/-! Fields of ENC_OPEN (08 R246). -/

def eoProfile (c : List Byte) : Nat := le c 0 1
def eoAv1 (c : List Byte) : Bool := decide (4 ≤ eoProfile c)
def eoLevel (c : List Byte) : Nat := le c 1 1
def eoTier (c : List Byte) : Nat := le c 2 1
def eoDirect (c : List Byte) : Bool := le c 3 1 == 1
def eoGop (c : List Byte) : Nat := le c 4 1
def eoMini (c : List Byte) : Nat := le c 5 1
def eoNref (c : List Byte) : Nat := le c 6 1
def eoRefresh (c : List Byte) : Nat := le c 7 1
def eoKeyInt (c : List Byte) : Nat := le c 8 4
def eoPeriod (c : List Byte) : Nat := le c 12 2
def eoNeng (c : List Byte) : Nat := le c 14 1
def eoRc (c : List Byte) : Nat := le c 15 1
def eoTarget (c : List Byte) : Nat := le c 16 4
def eoMax (c : List Byte) : Nat := le c 20 4
def eoVbv (c : List Byte) : Nat := le c 24 2
def eoMaxAu (c : List Byte) : Nat := le c 32 4
def eoCap (c : List Byte) : Nat := le c 36 4
def eoLadder (c : List Byte) : Nat := le c 40 4
def eoMeta (c : List Byte) : Nat := le c 48 1
def eoPrio (c : List Byte) : Nat := le c 52 1
def eoRing (c : List Byte) : Bool := le c 56 8 != 0
def eoSlots (c : List Byte) : Nat := le c 66 2
def eoSlotBytes (c : List Byte) : Nat := le c 68 4
def eoVector (c : List Byte) : Nat := le c 72 2

/-- Largest QP of the codec (08 R246). -/
def qpTop (c : List Byte) : Nat := if eoAv1 c then 255 else 51

/-- Bytes per pixel of a tap format, in halves (07 R213). -/
def fmtHalves : Nat → Nat
  | 0x10 => 3
  | 0x11 => 6
  | 0x12 => 4
  | 0x13 => 8
  | _ => 12

/-- Reference storage per pixel, in eighths of a byte (08 R248). -/
def fmtEighths : Nat → Nat
  | 0x10 => 12
  | 0x11 => 15
  | 0x12 => 16
  | 0x13 => 20
  | _ => 30

/-- FORMAT and profile (08 R229). -/
def profileTakes (profile fmt : Nat) : Bool :=
  match fmt with
  | 0x10 => [0, 1, 4].contains profile
  | 0x11 => [1, 4].contains profile
  | 0x12 => profile == 2
  | 0x13 => profile == 2
  | 0x14 => [3, 5].contains profile
  | _ => false

/-! Levels (08 R227, R228, R247). The limits are those of H.265 and of the AV1 specification (PRESUMED, log 90). -/

/-- A level: its code, luma samples of a picture, the longest side, luma samples a second, and kbit/s of the Main and of the
High tier, 0 where it has none. -/
structure LevelRow where
  code    : Nat
  samples : Nat
  side    : Nat
  rate    : Nat
  main    : Nat
  high    : Nat

/-- Levels 1 to 6.2 of H.265. -/
def hevcLevels : List LevelRow :=
  [⟨30, 36864, 543, 552960, 128, 0⟩, ⟨60, 122880, 991, 3686400, 1500, 0⟩, ⟨63, 245760, 1402, 7372800, 3000, 0⟩,
   ⟨90, 552960, 2103, 16588800, 6000, 0⟩, ⟨93, 983040, 2804, 33177600, 10000, 0⟩,
   ⟨120, 2228224, 4222, 66846720, 12000, 30000⟩, ⟨123, 2228224, 4222, 133693440, 20000, 50000⟩,
   ⟨150, 8912896, 8444, 267386880, 25000, 100000⟩, ⟨153, 8912896, 8444, 534773760, 40000, 160000⟩,
   ⟨156, 8912896, 8444, 1069547520, 60000, 240000⟩, ⟨180, 35651584, 16888, 1069547520, 60000, 240000⟩,
   ⟨183, 35651584, 16888, 2139095040, 120000, 480000⟩, ⟨186, 35651584, 16888, 4278190080, 240000, 800000⟩]

/-- Levels 2.0 to 6.3 of AV1, by seq_level_idx; the side is the width. -/
def av1Levels : List LevelRow :=
  [⟨0, 147456, 2048, 4423680, 1500, 0⟩, ⟨1, 278784, 2816, 8363520, 3000, 0⟩, ⟨4, 665856, 4352, 19975680, 6000, 0⟩,
   ⟨5, 1065024, 5504, 31950720, 10000, 0⟩, ⟨8, 2359296, 6144, 70778880, 12000, 30000⟩,
   ⟨9, 2359296, 6144, 141557760, 20000, 50000⟩, ⟨12, 8912896, 8192, 267386880, 30000, 100000⟩,
   ⟨13, 8912896, 8192, 534773760, 40000, 160000⟩, ⟨14, 8912896, 8192, 1069547520, 60000, 240000⟩,
   ⟨15, 8912896, 8192, 1069547520, 60000, 240000⟩, ⟨16, 35651584, 16384, 1069547520, 60000, 240000⟩,
   ⟨17, 35651584, 16384, 2139095040, 100000, 480000⟩, ⟨18, 35651584, 16384, 4278190080, 160000, 800000⟩,
   ⟨19, 35651584, 16384, 4278190080, 160000, 800000⟩]

/-- Height of the AV1 level whose width is w. -/
def av1Height (w : Nat) : Nat :=
  ((([(2048, 1152), (2816, 1584), (4352, 2448), (5504, 3096), (6144, 3456), (8192, 4352), (16384, 8704)]).find? fun x =>
    x.1 == w).map (·.2)).getD 0

/-- kbit/s of a level in tenths for a profile: its factor is 1 for Main and Main 10, 5/3 for Main 4:2:2 10, 5/2 for Main
4:4:4 10, and 2 for AV1 High. -/
def profileKbps (profile kbps : Nat) : Nat :=
  match profile with
  | 2 => kbps * 1667 / 1000
  | 3 => kbps * 5 / 2
  | 5 => kbps * 2
  | _ => kbps

/-- A level takes a picture size, a rate and MAX_KBPS at a tier. -/
def levelTakes (c : List Byte) (w h : Nat) (rate : Nat × Nat) (l : LevelRow) : Bool :=
  let limit := profileKbps (eoProfile c) (if eoTier c = 1 then l.high else l.main)
  decide (w * h ≤ l.samples) && decide (w ≤ l.side) && decide (h ≤ (if eoAv1 c then av1Height l.side else l.side)) &&
  decide (w * h * rate.1 ≤ l.rate * rate.2) && decide (eoMax c ≤ limit)

/-- Beyond every level: general_level_idc 255, or seq_level_idx 31 (08 R227, R228). -/
def levelBeyond (av1 : Bool) : Nat := if av1 then 31 else 255

/-- The levels of the session's codec. -/
def levelRows (av1 : Bool) : List LevelRow := if av1 then av1Levels else hevcLevels

/-- The lowest level that fits (08 R246, R247). -/
def levelNeeded (c : List Byte) (w h : Nat) (rate : Nat × Nat) : Nat :=
  match (levelRows (eoAv1 c)).find? (levelTakes c w h rate) with
  | some l => l.code
  | none => levelBeyond (eoAv1 c)

/-- LEVEL names a level of the codec: 0 asks for the lowest that fits. An unlisted code is INVALID_FIELD (DESIGN CHOICE, log
91). -/
def levelListed (c : List Byte) : Bool :=
  eoLevel c == 0 || eoLevel c == levelBeyond (eoAv1 c) || (levelRows (eoAv1 c)).any fun l => l.code == eoLevel c

/-! Tile columns and rows (08 R232, R234). -/

/-- CTUs or superblocks along n samples. -/
def ctus (n : Nat) : Nat := divUp n 64

/-- CTUs of each of n uniform tile columns; the last takes the remainder. -/
def columnCtus (w n : Nat) : List Nat :=
  (List.range (n - 1)).map (fun _ => ctus w / n) ++ [ctus w - ctus w / n * (n - 1)]

/-- The first CTU of column k. -/
def columnStart (w n k : Nat) : Nat := ctus w / n * k

/-- Narrowest and widest of n tile columns, in samples. -/
def columnWidths (w n : Nat) : Nat × Nat :=
  let base := ctus w / n
  let last := w - 64 * base * (n - 1)
  if n ≤ 1 then (w, w) else (min (64 * base) last, max (64 * base) last)

/-- The tile limits of n columns (08 R231). -/
def columnsOk (av1 : Bool) (w n : Nat) : Bool :=
  let (lo, hi) := columnWidths w n
  decide (hi ≤ (if av1 then 4096 else 8192)) && (n == 1 || decide (256 ≤ lo))

/-- Tile rows of a column: for AV1 the fewest uniform ones within 2,304 lines, and one for each superblock row under DIRECT. -/
def tileRows (c : List Byte) (h : Nat) : Nat :=
  if !eoAv1 c then 1 else if eoDirect c then ctus h else divUp (ctus h) 36

/-- CTU row r begins a slice or a tile: each one under DIRECT, else the first of each tile. -/
def rowStarts (c : List Byte) (h r : Nat) : Bool :=
  eoDirect c || r % max 1 (divUp (ctus h) (tileRows c h)) == 0

/-! Units. -/

/-- Bytes with the emulation prevention of H.265. -/
def escape : Nat → List Byte → List Byte
  | _, [] => []
  | z, b :: l =>
    if 2 ≤ z && b.toNat ≤ 3 then 3 :: b :: escape (if b = 0 then 1 else 0) l
    else b :: escape (if b = 0 then z + 1 else 0) l

/-- A NAL unit of H.265 in the byte stream of Annex B: type, temporal layer and payload. -/
def nalUnit (type layer : Nat) (payload : List Byte) : List Byte :=
  [0, 0, 0, 1, BitVec.ofNat 8 (2 * type), BitVec.ofNat 8 (layer + 1)] ++ escape 0 payload

/-- The type and the size of an SEI message: 255 each, and the rest. -/
def seiNumber (n : Nat) : List Byte := List.replicate (n / 255) 0xFF ++ [BitVec.ofNat 8 (n % 255)]

/-- A prefix SEI NAL unit with one message. -/
def seiUnit (type layer : Nat) (payload : List Byte) : List Byte :=
  nalUnit 39 layer (seiNumber type ++ seiNumber payload.length ++ payload ++ [0x80])

/-- leb128 of AV1; n bounds its bytes. -/
def leb128 : Nat → Nat → List Byte
  | 0, _ => []
  | n + 1, v => if v < 128 then [BitVec.ofNat 8 v] else BitVec.ofNat 8 (v % 128 + 128) :: leb128 n (v / 128)

/-- An OBU in the low-overhead format, with its size (08 R230). -/
def obu (type : Nat) (payload : List Byte) : List Byte :=
  [BitVec.ofNat 8 (8 * type + 2)] ++ leb128 8 payload.length ++ payload

/-- Four bytes of leb128, as the size of a tile group takes them. -/
def leb4 (v : Nat) : List Byte :=
  [BitVec.ofNat 8 (v % 128 + 128), BitVec.ofNat 8 (v / 128 % 128 + 128), BitVec.ofNat 8 (v / 2 ^ 14 % 128 + 128),
   BitVec.ofNat 8 (v / 2 ^ 21 % 128)]

/-- Bits of the unit around a slice or a tile, beside its own: the start code and NAL header of a slice or the header and size
of an OBU_TILE_GROUP, and the bits that fill its last byte. They count with its header (DESIGN CHOICE, log 92). -/
def unitBits (av1 : Bool) : Nat := if av1 then 48 else 56

/-- The NAL unit of a slice, or the OBU of a tile, from its bits (08 R227, R228, R234). -/
def sliceUnit (av1 : Bool) (type layer : Nat) (bits : List Bool) : List Byte :=
  if av1 then [0x22] ++ leb4 (packMsb bits).length ++ packMsb bits
  else [0, 0, 0, 1, BitVec.ofNat 8 (2 * type), BitVec.ofNat 8 (layer + 1)] ++ packMsb bits

/-- Filler of n bytes: a filler data NAL unit or a padding OBU (08 R239). -/
def fillerUnit (av1 : Bool) (n : Nat) : List Byte :=
  if n < 8 then []
  else if av1 then [0x7A] ++ leb4 (n - 5) ++ zeros (n - 6) ++ [0x80]
  else [0, 0, 0, 1, 0x4C, 1] ++ List.replicate (n - 7) 0xFF ++ [0x80]

/-- The NAL unit type of a picture (08 R227). -/
def nalType (p : GopPic) : Nat :=
  if p.key then 19 else if p.radl then (if p.isRef then 7 else 6) else if p.isRef then 1 else 0

/-- UUID of the frame record (08 R244). -/
def recordUuid : List Byte :=
  [0x9D, 0x3F, 0x5A, 0x21, 0x6C, 0x0E, 0x4B, 0x87, 0xA2, 0xD4, 0x1F, 0x6E, 0x08, 0xC7, 0x3B, 0x95]

/-- The frame record in the access unit: an unregistered SEI message, or a T35 metadata OBU (08 R244). -/
def recordUnit (c : List Byte) (layer : Nat) (record : List Byte) : List Byte :=
  if record.isEmpty then []
  else if eoAv1 c then obu 5 ([4] ++ (c.drop 49).take 1 ++ ((c.drop 50).take 2).reverse ++ record ++ [0x80])
  else seiUnit 5 layer (recordUuid ++ record)

/-- The time code in the access unit (08 R244). -/
def timeUnit (c : List Byte) (layer : Nat) (code : Dword) : List Byte :=
  let l := (Config.timeCodePayload (eoAv1 c) code).take 32
  if !bitOf (eoMeta c) 2 then []
  else if eoAv1 c then obu 5 ([5] ++ l ++ [0x80]) else seiUnit 136 layer l

/-- n as an unsigned Exp-Golomb code. -/
def expGolomb (n : Nat) : List Bool :=
  let k := Nat.log2 (n + 1)
  List.replicate k false ++ bitsMsb (k + 1) (n + 1)

/-- A recovery point SEI message: recovery_poc_cnt, exact match, no broken link (08 R243). -/
def recoveryUnit (layer period : Nat) : List Byte :=
  let bits := expGolomb (if period ≤ 1 then 0 else 2 * (period - 1) - 1) ++ [true, false]
  seiUnit 6 layer (packMsb (if bits.length % 8 = 0 then bits else bits ++ [true]))

/-- What the parameter sets of a session say (08 R230, R239). -/
def streamParams (s : EncSes) (full : Bool) : StreamParams :=
  let c := s.cfg
  { av1 := eoAv1 c, profile := eoProfile c, tier := eoTier c, level := s.level
    codedW := divUp s.w 8 * 8, codedH := divUp s.h 8 * 8, width := s.w, height := s.h
    chroma := if s.fmt = 0x10 || s.fmt = 0x11 then 1 else if s.fmt = 0x14 then 3 else 2
    depth := if s.fmt = 0x10 || s.fmt = 0x12 then 8 else 10
    primaries := le c 44 1, transfer := le c 45 1, matrix := le c 46 1, fullRange := full
    columns := columnCtus s.w s.engines.length, tileRows := tileRows c s.h
    rateNum := s.rate.1, rateDen := s.rate.2, nref := eoNref c, reorder := if eoGop c = 2 then eoMini c - 1 else 0
    hrd := if eoRc c = 2 then some (eoMax c, eoVbv c * eoMax c) else none }

/-- The parameter sets of a session, each of at most 256 bytes: VPS, SPS and PPS, or the sequence header. -/
def psetsOf (p : StreamParams) : List (List Byte) := (Config.paramSets p).map fun l => l.take 256

/-- The units of the parameter sets. -/
def psetUnits (p : StreamParams) (l : List (List Byte)) : List Byte :=
  if p.av1 then obu 1 (l.headD []) else (l.zipIdx.take 3).flatMap fun (b, i) => nalUnit (32 + i) 0 b

/-- The units ahead of the slices or tile groups of a picture (08 R230, R239, R243, R244): the delimiter; the parameter sets
at a key picture or a sweep start; the HRD's SEI messages; the recovery point; the record and the time code; and for AV1 the
frame header. -/
def auHead (s : EncSes) (p : StreamParams) (pic : GopPic) (start : Bool) (record : List Byte) (code : Dword) : List Byte :=
  let l := pic.layer
  let sets := if pic.key || start then psetUnits p (psetsOf p) else []
  let record := recordUnit s.cfg l record ++ timeUnit s.cfg l code
  let fullness := s.vbv / max 1 s.rate.1
  if p.av1 then
    (if s.tuOpen then [] else obu 2 []) ++ sets ++ record ++
    obu 3 ((Config.av1FrameHeader p (b2n pic.hidden) pic.num).take 64)
  else
    nalUnit 35 l [0x50] ++ sets ++
    (if p.hrd.isSome && pic.key then seiUnit 0 l ((Config.hrdSei p 0 s.count fullness).take 64) else []) ++
    (if p.hrd.isSome then seiUnit 1 l ((Config.hrdSei p 1 s.count fullness).take 64) else []) ++
    (if start then recoveryUnit l (eoPeriod s.cfg) else []) ++ record

/-- An end-of-sequence NAL unit (08 R252). -/
def eosUnit : List Byte := nalUnit 36 0 []

/-- The temporal unit that shows a frame coded before (08 R228). -/
def showUnit (p : StreamParams) (frame : Nat) : List Byte :=
  obu 2 [] ++ obu 3 ((Config.av1FrameHeader p 2 frame).take 64)

end Sys2Proof.Machine
end

