-- ==== Sys2Proof/Machine/EncRate.lean ====
section
/-!
DEFINITION. Machine/EncRate.lean: rate control of pictures and of CTU rows, the division among engines, and
what a CTU may be under gradual refresh and from a motion field (08 R237, R239-R243).
-/
namespace Sys2Proof.Machine

/-! Floor mode (08 R240). -/

/-- f and h of a picture. -/
def floorBound (av1 key : Bool) : Nat × Nat :=
  if av1 then (if key then 48 else 12, 128) else (if key then 32 else 8, 256)

/-- FL of a row of n CTUs. -/
def rowFloor (av1 key : Bool) (n : Nat) : Nat := (floorBound av1 key).2 + (floorBound av1 key).1 * n

/-- The sum of FL(r) over the rows of each engine's column. -/
def columnFloors (av1 key : Bool) (w h n : Nat) : List Nat :=
  (columnCtus w n).map fun k => rowFloor av1 key k * ctus h

def sumNat (l : List Nat) : Nat := l.foldl (· + ·) 0

/-- The sum over every engine. -/
def floorSum (av1 key : Bool) (w h n : Nat) : Nat := sumNat (columnFloors av1 key w h n)

/-- H_MAX (08 R247). -/
def hMax (meta' : Nat) : Nat := if bitOf meta' 1 then 49152 else 16384

/-- The ceilings leave room for headers and for floor mode on n engines (08 R247). -/
def capsOk (c : List Byte) (w h n : Nat) : Bool :=
  let need := hMax (eoMeta c) + floorSum (eoAv1 c) true w h n
  decide (need ≤ 8 * eoMaxAu c) && (eoRc c != 3 || decide (need ≤ 8 * eoCap c))

/-! Targets (08 R239, R241, R242). -/

/-- Bits of the buffer of the rate model, times the rate's numerator. -/
def vbvSize (c : List Byte) (rate : Nat × Nat) : Nat := eoVbv c * eoMax c * rate.1

/-- T of a picture whose rate model asks for t: within the buffer, and within the cap; never below what its headers and floor
mode take, so that every engine's share covers its column (R242; DEDUCED, log 93). -/
def picTarget (c : List Byte) (t room need : Nat) : Nat :=
  if eoRc c = 0 then 0
  else
    let t := max (min t room) need
    if eoRc c = 3 then min t (8 * eoCap c) else t

/-- L of a picture whose target is t. -/
def picLimit (c : List Byte) (t : Nat) : Nat := if eoRc c = 3 then t else 8 * eoMaxAu c

/-- Divide rem in proportion to weights, none below its floor: columns are weight, floor, and whether it takes its floor; n
bounds the rounds. -/
def divideIn : Nat → Nat → List (Nat × Nat × Bool) → List Nat
  | 0, _, cols => cols.map fun c => c.2.1
  | n + 1, rem, cols =>
    let left := rem - sumNat (cols.map fun c => if c.2.2 then c.2.1 else 0)
    let weight := sumNat (cols.map fun c => if c.2.2 then 0 else c.1)
    let share (c : Nat × Nat × Bool) : Nat := if c.2.2 then c.2.1 else left * c.1 / max 1 weight
    if cols.all fun c => c.2.2 || decide (c.2.1 ≤ share c) then cols.map share
    else divideIn n rem (cols.map fun c => (c.1, c.2.1, c.2.2 || decide (share c < c.2.1)))

/-- The shares of the engines (08 R242): in proportion to the previous picture's bits, equal where there are none. -/
def divide (rem : Nat) (floors prev : List Nat) : List Nat :=
  let weights := if sumNat prev = 0 || prev.length != floors.length then floors.map fun _ => 1 else prev
  divideIn (floors.length + 1) rem ((weights.zip floors).map fun (w, f) => (w, f, false))

/-- T and L of each engine: the header bits are charged first. -/
def engineShares (target limit head : Nat) (floors prev : List Nat) : List (Nat × Nat) :=
  (divide (target - head) floors prev).zip (divide (limit - head) floors prev)

/-! The row loop (08 R241). -/

/-- What the loop knows of a picture: f and h, whether CQP takes out the row test, floor mode for all of it, and the largest QP. -/
structure RcPic where
  f     : Nat
  h     : Nat
  cqp   : Bool
  all   : Bool
  qpTop : Nat

/-- The QP of a CTU enters the record's figures. -/
def rcQp (q : Nat) (r : RcRun) : RcRun :=
  { r with qpSum := r.qpSum + q, qpN := r.qpN + 1, qpLow := min r.qpLow q, qpHigh := max r.qpHigh q }

/-- Bits go into the slice or tile in progress. -/
def rcPut (l : List Bool) (r : RcRun) : RcRun :=
  { r with used := r.used + l.length
           slices := match r.slices with
             | s :: ss => (s ++ l) :: ss
             | [] => [l] }

/-- One CTU: coded, or re-coded in floor mode where its bits exceed the room; `after` is what is held back for what follows. -/
def rcCtu (p : RcPic) (floorRow : Bool) (limit after : Nat) (r : RcRun) (c : CtuCode) : RcRun :=
  let low := floorRow || p.all
  let bits := if low then c.floor else c.bits
  if limit - r.used - after < bits.length then
    rcQp p.qpTop (rcPut c.floor { r with floor := r.floor + 1 })
  else rcQp (if low then p.qpTop else c.qp) (rcPut bits r)

/-- The CTUs of a row; `rows` is the sum of FL over the rows after it. -/
def rcCtus (p : RcPic) (floorRow : Bool) (limit rows : Nat) : List CtuCode → RcRun → RcRun
  | [], r => r
  | c :: l, r => rcCtus p floorRow limit rows l (rcCtu p floorRow limit (p.f * l.length + rows) r c)

/-- One row of an engine's column, `rows` rows of n CTUs after it; `unit` is the bits around a slice or tile that it begins. -/
def rcRow (p : RcPic) (target limit unit n rows : Nat) (row : RowCode) (r : RcRun) : RcRun :=
  let fl := p.h + p.f * n
  let floorRow := !p.cqp && decide (target < r.used + fl * rows + fl)
  let r := if floorRow then { r with tail := r.tail + 1 } else r
  let r := if row.header.isEmpty then r
    else { r with used := r.used + row.header.length + unit, slices := row.header :: r.slices }
  rcCtus p floorRow limit (fl * rows) row.ctus r

/-- The rows of a column from the first. -/
def rcRows (p : RcPic) (target limit unit n : Nat) : List RowCode → RcRun → RcRun
  | [], r => r
  | row :: l, r => rcRows p target limit unit n l (rcRow p target limit unit n l.length row r)

/-- The loop's view of a session's picture. -/
def rcPic (c : List Byte) (key all : Bool) : RcPic :=
  { f := (floorBound (eoAv1 c) key).1, h := (floorBound (eoAv1 c) key).2, cqp := eoRc c == 0, all, qpTop := qpTop c }

/-! Gradual refresh (08 R243). -/

/-- CTU columns, or rows, of a picture. -/
def sweepUnits (c : List Byte) (w h : Nat) : Nat := if eoRefresh c = 1 then ctus w else ctus h

/-- The band of place i of a sweep of p pictures, of n columns or rows: its first unit and the first after it. -/
def sweepBand (n p i : Nat) : Nat × Nat := (i * n / max 1 p, (i + 1) * n / max 1 p)

/-- Where a prediction's block ends in its reference, across or down, its interpolation apart. -/
def predEnd (c : List Byte) (b : BlockPred) : Int :=
  let unit : Int := if eoAv1 c then 8 else 4
  let (at', n, v) := if eoRefresh c = 1 then (b.x, b.w, b.mx) else (b.y, b.h, b.my)
  (at' : Int) + n + (v + unit - 1) / unit

/-- A CTU of a picture under refresh: intra in the band, and clean before it. -/
def sweepOk (s : EncSes) (plan : EncPlan) (col row : Nat) (c : CtuCode) : Bool :=
  match plan.sweep with
  | none => true
  | some i =>
    let at' := if eoRefresh s.cfg = 1 then col else row
    let band := sweepBand (sweepUnits s.cfg s.w s.h) s.period i
    if band.1 ≤ at' && at' < band.2 then c.preds.isEmpty
    else if at' < band.1 then
      c.preds.all fun b => plan.refs.any fun r => r.num == b.ref && decide (predEnd s.cfg b ≤ 64 * (r.clean : Int) - 8)
    else true

/-! Motion fields of a ladder (08 R237). -/

/-- Blocks across a picture. -/
def fieldWidth (w : Nat) : Nat := divUp w 16

/-- A field's vector for the block at a place, 0 outside. -/
def fieldAt (w : Nat) (f : MField) (x y : Int) : Int × Int :=
  if x < 0 || y < 0 || (w : Int) ≤ x then (0, 0)
  else (f.vecs[y.toNat / 16 * fieldWidth w + x.toNat / 16]?).getD (0, 0)

/-- The sum of the vectors along a chain of fields, each taken at the place displaced by the sum so far. -/
def fieldChain (w : Nat) (x y : Int) (l : List MField) : Int × Int :=
  l.foldl (fun v f =>
    let u := fieldAt w f (x + v.1) (y + v.2)
    (v.1 + u.1, v.2 + u.2)) (0, 0)

/-- The fields from a frame back to the one it predicts from; none where they are not all kept. -/
def fieldSteps (l : List MField) (num ref : Nat) : List MField :=
  let l := l.dropWhile fun f => f.num != num
  let steps := l.takeWhile fun f => f.num != ref
  if steps.length = l.length then [] else steps

/-- A rational number to the nearest integer, ties upward (DESIGN CHOICE, log 94: R237 states no rounding). -/
def nearest (n d : Int) : Int := (2 * n + d) / (2 * d)

/-- Along one axis, the place in the top's picture of the middle of `len` samples from `pos` of a member's: through the
member's crop of n samples scaled to `out`, and the top's of n' scaled to out'. -/
def topPlace (crop n out crop' n' out' pos len : Nat) : Int :=
  (((2 * crop * out + (2 * pos + len) * n : Nat) : Int) - (2 * crop' * out : Nat)) * out' / (2 * out * n' : Nat)

/-- The predictor of a member's block (08 R237): its centre in the top's picture, the chain's sum there, and back to the
member's scale; 0 outside the top's crop window. -/
def memberPred (member top : List Byte) (fields : List MField) (b : BlockPred) (num : Nat) : Int × Int :=
  let wm := outW member + 1
  let hm := outH member + 1
  let wt := outW top + 1
  let ht := outH top + 1
  let tx := topPlace (cropX member) (cropW member + 1) wm (cropX top) (cropW top + 1) wt b.x b.w
  let ty := topPlace (cropY member) (cropH member + 1) hm (cropY top) (cropH top + 1) ht b.y b.h
  if tx < 0 || ty < 0 || (wt : Int) ≤ tx || (ht : Int) ≤ ty then (0, 0)
  else
    let v := fieldChain wt tx ty (fieldSteps fields num b.ref)
    (nearest (v.1 * ((cropW top + 1) * wm : Nat)) (wt * (cropW member + 1) : Nat),
     nearest (v.2 * ((cropH top + 1) * hm : Nat)) (ht * (cropH member + 1) : Nat))

/-- A member's vector lies within the refinement of its predictor: 8 integer samples, and less than one more (08 R237). -/
def refined (av1 : Bool) (pred : Int × Int) (b : BlockPred) : Bool :=
  let unit : Int := if av1 then 8 else 4
  decide ((b.mx - unit * pred.1).natAbs < (unit * 9).natAbs) && decide ((b.my - unit * pred.2).natAbs < (unit * 9).natAbs)

end Sys2Proof.Machine
end

