-- ==== Sys2Proof/Machine/Encode.lean ====
section
/-!
DEFINITION. Machine/Encode.lean: encode sessions: placement, ladder groups, pictures and rows, records, engine
faults, and the commands of a session (08).
-/
namespace Sys2Proof.Machine

/-! Placement (08 R231). -/

/-- Mpixel/s of a share of N (08 R248). -/
def encShare (c : List Byte) (a : Nat) (rate : Nat × Nat) (n : Nat) : Nat :=
  max (divUp (a * rate.1) (rate.2 * 1000000 * n)) (divUp (a * eoMini c * 25) (1000000 * n))

/-- N of a session; none where no N from 1 to 8 meets the limits. -/
def encN (c : List Byte) (w : Nat) (a : Nat) (rate : Nat × Nat) : Option Nat :=
  if eoNeng c != 0 then some (eoNeng c)
  else if eoDirect c then some 1
  else [1, 2, 3, 4, 5, 6, 7, 8].find? fun n => columnsOk (eoAv1 c) w n && decide (encShare c a rate n ≤ 2000)

/-- Free rate of an encode engine; none of a gated one. -/
def encFree (d : Dev) (e : Nat) : Nat := if gatedUnit d rcEnc e then 0 else 2000 - heldOf d rcEnc e

/-- The engine holds a DIRECT session. -/
def holdsDirect (d : Dev) (e : Nat) : Bool := d.enc.any fun p => eoDirect p.2.cfg && p.2.engines.contains e

/-- N engines chosen best-fit: the least free rate that covers the share, the lower index on a tie. -/
def placeEnc (d : Dev) (direct : Bool) (share : Nat) : Nat → List Nat → List Nat → Option (List Nat)
  | 0, _, got => some got.reverse
  | n + 1, cand, got =>
    let ok := cand.filter fun e => decide (share ≤ encFree d e) && !gatedUnit d rcEnc e && !(direct && holdsDirect d e)
    let best := ok.foldl (fun (b : Option Nat) e => match b with
      | none => some e
      | some x => if encFree d e < encFree d x then some e else b) none
    match best with
    | none => none
    | some e => placeEnc d direct share n (cand.filter (· != e)) (e :: got)

/-- EXT_RESULT where no placement exists (08 R231). -/
def noPlace (d : Dev) (share n : Nat) : Nat :=
  let frees := (List.range 8).map (encFree d)
  let avail := frees.foldl (· + ·) 0
  resExt rcEnc unitAll (max 1 (share * n - min avail (share * n))) avail

/-! Sessions. -/

def modEnc (slot : Nat) (f : EncSes → EncSes) (d : Dev) : Dev := { d with enc := tabMod d.enc slot f }
def encOf (d : Dev) (h : Nat) : Option (Nat × EncSes) := d.enc.find? fun p => p.2.handle == h
def ladderOf (d : Dev) (h : Nat) : Option Ladder := (d.ladders.find? fun p => p.2.handle == h).map (·.2)
/-- Sessions of a ladder group, the top among them. -/
def ladderSessions (d : Dev) (h : Nat) : List (Nat × EncSes) := d.enc.filter fun p => p.2.ladder == h && h != 0

/-- The session is the top of its group. -/
def isTop (d : Dev) (s : EncSes) : Bool := (ladderOf d s.ladder).any fun l => l.top == s.handle

/-- The session is a member of a group other than its top. -/
def isMember (d : Dev) (s : EncSes) : Bool := s.ladder != 0 && !isTop d s

/-- The top of a session's group. -/
def topOf (d : Dev) (s : EncSes) : Option EncSes :=
  (ladderOf d s.ladder).bind fun l => (encOf d l.top).map (·.2)

/-- The TAP_CONFIG structure of a session's tap. -/
def tapCfg (d : Dev) (s : EncSes) : List Byte :=
  match tapByHandle s.tap with
  | some (i, t) => (tapOf d i t).cfg
  | none => []

/-- The context in which a session's tap runs: its Isle and source port. -/
def encSource (d : Dev) (s : EncSes) : Option (IsleId × TapId × PortId) :=
  (tapByHandle s.tap).map fun (i, t) => (i, t, portOf (tapPort (tapOf d i t).cfg))

/-- The frame in presentation that a tap passes. -/
def runningFrame (d : Dev) (tap : Nat) : Option Nat :=
  match tapByHandle tap with
  | none => none
  | some (i, t) =>
    let p := portOf (tapPort (tapOf d i t).cfg)
    match (ctxOf d i p).run with
    | some r => if ((r.taps[t.val]?).join).isSome then some r.num else none
    | none => none

/-- What stands of the frame in presentation on a tap: the open frame of an in-line port, or the one whose tile rows run. -/
def runningFrm (d : Dev) (tap : Nat) : Option Frm :=
  match tapByHandle tap, runningFrame d tap with
  | some (i, t), some n =>
    let k := port d (portOf (tapPort (tapOf d i t).cfg))
    (k.cur.toList ++ k.area.take 1).find? fun f => f.num == n
  | _, _ => none

/-- The frames a tap has handed to a session. -/
def framesFrom (d : Dev) (s : EncSes) (tap : Nat) : List TapFin :=
  match tapByHandle tap with
  | none => []
  | some (i, t) => ((tapOf d i t).queue.filter fun q => q.1 == s.handle).map (·.2)

/-- The frames of a new source tap, from the one at which it takes effect (08 R250). -/
def newFrames (d : Dev) (s : EncSes) : List TapFin :=
  match s.newTap with
  | none => []
  | some (h, n) => (framesFrom d s h).filter fun f => n == 2 ^ 32 || fnFrom n f.fin.frm.num

/-- The frames a session may code, oldest first: none of the old tap once the new one has handed over its first, and before
a close only (08 R249, R250, R252). -/
def encFrames (d : Dev) (s : EncSes) : List TapFin :=
  let new := newFrames d s
  let old := framesFrom d s s.tap
  let old := match new with
    | [] => old
    | f :: _ => old.filter fun x => decide (x.at' < f.at')
  (old ++ new).filter fun f =>
    s.skip != some f.fin.frm.num && (s.closing.isEmpty && !s.shed || s.allow.contains f.fin.frm.num)

/-- A frame is the first of the new source tap. -/
def isNew (d : Dev) (s : EncSes) (f : TapFin) : Bool := (newFrames d s).head?.any fun x => x.fin.frm.num == f.fin.frm.num && x.at' == f.at'

/-- Take a frame off a session's tap. -/
def dropFrame (s : EncSes) (num : Nat) (d : Dev) : Dev :=
  match tapByHandle s.tap with
  | none => d
  | some (i, t) => modTap i t (fun k => { k with
      queue := k.queue.filter fun q => !(q.1 == s.handle && q.2.fin.frm.num == num) }) d

/-- A session goes over to its new source tap: its old attachment ends, and the next picture begins anew (08 R250). -/
def switchTap (s : EncSes) (d : Dev) : EncSes × Dev :=
  match s.newTap with
  | none => (s, d)
  | some (h, _) => ({ s with tap := h, newTap := none, skip := none, restart := true }, detachFrom s.tap s.handle d)

/-- Replace bytes of a structure. -/
def putBytes (l : List Byte) (off : Nat) (b : List Byte) : List Byte := l.take off ++ b ++ l.drop (off + b.length)

/-- The fields that an ENC_RECONFIG's MASK selects, put into the structure (08 R250). -/
def encApply (c b : List Byte) : List Byte :=
  let m := le b 0 2
  let put (i : Nat) (off n src : Nat) (c : List Byte) : List Byte :=
    if bitOf m i then putBytes c off ((b.drop src).take n) else c
  let c := put 0 16 4 8 c
  let c := put 1 36 4 12 c
  let c := put 2 26 2 2 c
  let c := put 3 28 3 16 c
  let c := put 4 8 4 20 c
  let c := put 5 12 2 24 c
  let c := put 6 48 1 19 c
  let c := put 7 52 1 26 c
  put 8 32 4 28 c

/-- The changes that have come by frame num. -/
def encCatchUp (s : EncSes) (num : Nat) : EncSes :=
  let due := s.later.filter fun x => x.1 == 2 ^ 32 || fnFrom x.1 num
  { s with
    later := s.later.filter fun x => !(x.1 == 2 ^ 32 || fnFrom x.1 num)
    cfg := due.foldl (fun c x => encApply c x.2) s.cfg }

/-- The ENC_FORCE of a session that applies to a frame (08 R251). -/
def forceDue (s : EncSes) (num t : Nat) : Option EncForce :=
  match s.force with
  | none => none
  | some f => if forceTakes f num t then some f else none

/-- ACTIONS in force for a frame. -/
def actionsAt (s : EncSes) (num t : Nat) : Nat := ((forceDue s num t).map EncForce.actions).getD 0

/-- A frame of the top newer than the member's own (08 R238). -/
def topNewer (top mine : Option Nat) (num : Nat) : Bool :=
  match top with
  | none => false
  | some k => fnFrom k num && (match mine with
    | none => true
    | some m => !fnFrom k m)

/-- The frame j places after the next one is a key picture (08 R238, R243, R246, R250, R251). -/
def keyAt (d : Dev) (s : EncSes) (j num t : Nat) : Bool :=
  let forced := bitOf (actionsAt s num t) 0
  let first := s.count == 0 && j == 0
  let led := isMember d s && topNewer ((topOf d s).bind EncSes.keyFrame) s.keyFrame num
  if eoGop s.cfg = 0 then true
  else if eoRefresh s.cfg != 0 then first || forced || led
  else first || forced || led || (s.restart && j == 0) ||
    (!isMember d s && eoKeyInt s.cfg != 0 && decide (eoKeyInt s.cfg ≤ s.sinceKey + j))

/-- The place of the next picture in its sweep (08 R238, R243); none for a key picture. -/
def sweepAt (d : Dev) (s : EncSes) (key : Bool) (num t : Nat) : Option Nat :=
  if eoRefresh s.cfg = 0 || key then none
  else if s.restart || bitOf (actionsAt s num t) 1 then some 0
  else if isMember d s && topNewer ((topOf d s).bind EncSes.sweepFrame) s.sweepFrame num then some 0
  else some (s.sweep.getD 0)

/-! Mini-GOPs (08 R227, R228, R233, R252). -/

/-- The pictures between two that are coded, in coding order: place, layer, and whether others follow inside. The middle comes
first, then each half (DESIGN CHOICE, log 95: the spec gives no order inside a mini-GOP). n bounds the depth. -/
def midOrder : Nat → Nat → Nat → Nat → List (Nat × Nat × Bool)
  | 0, _, _, _ => []
  | n + 1, lo, hi, layer =>
    let mid := (lo + hi) / 2
    if hi ≤ lo + 1 then []
    else (mid, layer, decide (lo + 2 < hi)) :: (midOrder n lo mid (layer + 1) ++ midOrder n mid hi (layer + 1))

/-- Which of them are coded before a picture that precedes them in output order. -/
def withHidden : List (Nat × Nat × Bool) → List ((Nat × Nat × Bool) × Bool)
  | [] => []
  | x :: l => (x, l.any fun y => decide (y.1 < x.1)) :: withHidden l

/-- No more frames come to a session that closes. -/
def noMore (d : Dev) (s : EncSes) : Bool :=
  (!s.closing.isEmpty || s.shed) && !((runningFrame d s.tap).any fun n => s.allow.contains n)

/-- Frames of the next mini-GOP: one, but under RANDOM_ACCESS up to the anchor: MINI_GOP frames, or fewer where a key picture,
a new source tap or the close ends it (08 R233, R238, R250, R252). The first picture stands alone (log 95). -/
def gopLength (d : Dev) (s : EncSes) : Option Nat :=
  let frames := encFrames d s
  if frames.isEmpty then none
  else if eoGop s.cfg != 2 then some 1
  else
    let ends (j : Nat) : Bool := match frames[j]? with
      | none => false
      | some f => keyAt d s j f.fin.frm.num f.fin.frm.t || isNew d s f || (frames[j + 1]?).any (isNew d s)
    match (List.range (eoMini s.cfg)).find? ends with
    | some j => some (j + 1)
    | none =>
      if eoMini s.cfg ≤ frames.length then some (eoMini s.cfg)
      else if noMore d s then some frames.length else none

/-- The pictures of the next mini-GOP in coding order: the anchor, then those before it. -/
def planGop (d : Dev) (s : EncSes) : List GopPic :=
  let frames := encFrames d s
  match gopLength d s with
  | none => []
  | some n =>
    match frames[n - 1]? with
    | none => []
    | some a =>
      let key := keyAt d s (n - 1) a.fin.frm.num a.fin.frm.t || (isNew d s a && eoRefresh s.cfg == 0)
      { num := a.fin.frm.num, key, inner := false, hidden := decide (1 < n), radl := false, isRef := eoGop s.cfg != 0
        layer := 0, ready := a.at' } ::
      (withHidden (midOrder 4 0 n 1)).filterMap fun ((i, layer, isRef), hidden) => (frames[i - 1]?).map fun f =>
        { num := f.fin.frm.num, key := false, inner := true, hidden, radl := key, isRef, layer, ready := a.at' }

/-- The session with its next mini-GOP planned, where none is in hand. -/
def withGop (d : Dev) (s : EncSes) : EncSes :=
  if !s.gop.isEmpty then s
  else
    let l := planGop d s
    let shown := (encFrames d s).take l.length |>.map fun f => f.fin.frm.num
    { s with gop := l, display := if l.isEmpty then s.display else shown, hidden := if l.isEmpty then s.hidden else [] }

/-! The schedule (08 R233, R237, R238). -/

/-- The motion field of a member's frame. -/
def memberField (d : Dev) (s : EncSes) (num : Nat) : Option MField :=
  (ladderOf d s.ladder).bind fun l => l.fields.find? fun f => f.num == num

/-- The top has decided the picture type of a frame. -/
def topDecided (d : Dev) (s : EncSes) (num : Nat) : Bool :=
  !isMember d s || ((topOf d s).bind EncSes.decided).any fun n => fnFrom num n

/-- The next BUFFERED picture of a session and the instant from which it is ready. -/
def nextPicture (d : Dev) (s : EncSes) : Option (GopPic × Nat) :=
  match s.work with
  | some w => some (w.plan.pic, w.plan.pic.ready)
  | none => match (withGop d s).gop with
    | [] => none
    | p :: _ =>
      if !topDecided d s p.num then none
      else if !isMember d s then some (p, p.ready)
      else (memberField d s p.num).map fun f => (p, max p.ready f.ns)

/-- A session's part of its next picture that an engine has still to code: when it was ready. -/
def partReady (d : Dev) (s : EncSes) (e : Nat) : Option Nat :=
  if eoDirect s.cfg then none
  else match s.engines.idxOf? e with
    | none => none
    | some k =>
      match s.work with
      | some w => if ((w.parts[k]?).join).isSome then none else some w.plan.pic.ready
      | none => (nextPicture d s).map (·.2)

/-- The session whose part an engine codes: the earliest deadline, 40 ms after it was ready; the lower slot on a tie (DESIGN
CHOICE, log 96). -/
def engineHead (d : Dev) (e : Nat) : Option Nat :=
  let l := d.enc.filterMap fun (slot, s) => (partReady d s e).map fun r => (slot, r)
  (l.foldl (fun (b : Option (Nat × Nat)) x => match b with
    | none => some x
    | some y => if x.2 < y.2 || (x.2 = y.2 && x.1 < y.1) then some x else b) none).map (·.1)

/-! Reference pictures and buffers (08 R233, R243, R248, R254). -/

/-- Bytes of a reference picture. -/
def refBytes (s : EncSes) : Nat := s.w * s.h * fmtEighths s.fmt / 8

/-- Where the reference pictures and the bitstream buffer begin in a session's HBM buffer: after the source ring of MINI_GOP +
2 slots, and after NREF + MINI_GOP slots. -/
def refBase (s : EncSes) : Nat :=
  if s.srcBytes = 0 then 0 else divUp ((eoMini s.cfg + 2) * (s.srcBytes + 2048) + 2048) 16384 * 16384
def streamBase (s : EncSes) : Nat :=
  refBase s + divUp ((eoNref s.cfg + eoMini s.cfg) * (refBytes s + 2048) + 2048) 16384 * 16384

/-- Frame numbers apart, either way round. -/
def frameGap (a b : Nat) : Nat := min ((a + 2 ^ 32 - b) % 2 ^ 32) ((b + 2 ^ 32 - a) % 2 ^ 32)

/-- Insert a reference picture by its distance from a frame. -/
def insertRef (num : Nat) (r : EncRef) : List EncRef → List EncRef
  | [] => [r]
  | x :: l => if frameGap num r.num < frameGap num x.num then r :: x :: l else x :: insertRef num r l

/-- The NREF active references of a picture: the nearest good pictures (08 R227, R254). -/
def activeRefs (s : EncSes) (p : GopPic) : List EncRef :=
  if p.key then [] else (s.refs.foldl (fun l r => insertRef p.num r l) []).take (eoNref s.cfg)

/-- A coded picture joins the reference set; a key picture leaves nothing before it there. -/
def refsAfter (s : EncSes) (plan : EncPlan) : List EncRef :=
  let n := sweepUnits s.cfg s.w s.h
  let old := if plan.pic.key then [] else s.refs
  let clean := match plan.sweep with
    | some i => (sweepBand n s.period i).2
    | none => n
  if !plan.pic.isRef || eoNref s.cfg = 0 then old
  else
    let room := old.take (eoNref s.cfg + eoMini s.cfg - 1)
    let slot := ((List.range (room.length + 1)).find? fun i => !(room.any fun r => r.slot == i)).getD 0
    { num := plan.pic.num, clean, slot } :: room

/-- The references a poisoned one has left; where none remains, the next picture begins anew (08 R254). -/
def loseRefs (lost : List Nat) (s : EncSes) : EncSes :=
  let refs := s.refs.filter fun r => !lost.contains r.num
  { s with refs, restart := s.restart || (!lost.isEmpty && refs.isEmpty) }

/-- A read of part k of n of a slot: true where any of it is lost. -/
def readShare (u : MemUser) (base size k n : Nat) (d : Dev) : Dev × Bool :=
  let a := size * k / n
  let (d, lost) := hbmRead u (base + a) (size * (k + 1) / n - a) d
  (d, !lost.isEmpty)

/-- An engine reads its part of a picture's references; those of which a sector is lost. -/
def readRefs (s : EncSes) (plan : EncPlan) (k n : Nat) (d : Dev) : Dev × List Nat :=
  match hbmBuffer d s.handle with
  | none => (d, [])
  | some b => plan.refs.foldl (fun (acc : Dev × List Nat) r =>
      let (d, lost) := readShare { handle := s.handle, cls := 1, frame := plan.pic.num }
        (slotAt (b + refBase s) (refBytes s) r.slot) (refBytes s) k n acc.1
      (d, if lost then acc.2 ++ [r.num] else acc.2)) (d, [])

/-- An engine reads its part of a picture's source. -/
def readSource (s : EncSes) (tf : TapFin) (k n : Nat) (d : Dev) : Dev × Bool :=
  match hbmBuffer d s.handle with
  | none => (d, false)
  | some b =>
    readShare { handle := s.handle, cls := 1, frame := tf.fin.frm.num } (slotAt b s.srcBytes tf.slot) s.srcBytes k n d

/-! A picture begins (08 R239-R244). -/

/-- The frame record of the metadata, with the axis record where META asks for it (08 R244). -/
def encMeta (d : Dev) (c : List Byte) (f : Frm) (sweepStart key : Bool) : List Byte :=
  if bitsOf (eoMeta c) 0 2 = 0 then []
  else metaRecord f (if bitOf (eoMeta c) 1 then (axisRecord d f.port f.num).take 3840 else []) sweepStart key

/-- A picture takes the next sequence number of the ring and, where something is delivered, its slot, SEQ first (08 R253, 05
R167, 02 R562). -/
def encRingTake (s : EncSes) (num : Nat) (d : Dev) : EncSes × Option Nat × Dev :=
  if !eoRing s.cfg then (s, none, d)
  else
    let seq := s.seq + 1
    if delivering d then
      ({ s with seq, wrote := tabSet s.wrote (ringSlot (eoSlots s.cfg) seq) seq }, some seq,
        emit (ringBusy s.handle (eoSlots s.cfg) seq s.wrote) d)
    else ({ s with seq, dropped := s.dropped + 1 }, none, raise evCodec 4 s.handle (num + seq % 2 ^ 31 * 2 ^ 32) d)

/-- The frames of AV1 that are next to be shown and coded already. -/
def showable (s : EncSes) : List Nat := s.display.takeWhile fun n => s.hidden.contains n

/-- The frames shown leave what is still to show. -/
def shown (n : Nat) (s : EncSes) : EncSes :=
  { s with display := s.display.drop n, hidden := s.hidden.filter fun x => !(s.display.take n).contains x }

/-- A picture begins: the changes and actions that have come by it, its key or sweep place, its references, the units around
its slices, T, L and the engines' shares, fixed until it ends. -/
def beginPicture (d : Dev) (s : EncSes) (pic : GopPic) (f : Frm) : EncSes × EncPlan :=
  let s := encCatchUp s pic.num
  let force := forceDue s pic.num f.t
  let acts := actionsAt s pic.num f.t
  let s := if bitOf acts 2 then { s with vbv := vbvSize s.cfg s.rate / 2, rcResets := s.rcResets + 1, rcCount := 0 } else s
  let sweep := sweepAt d s pic.key pic.num f.t
  let start := sweep == some 0
  let s := { s with
    period := if start then eoPeriod s.cfg else s.period
    refs := if start then s.refs.map fun r => { r with clean := 0 } else s.refs
    keyFrame := if pic.key then some pic.num else s.keyFrame
    sweepFrame := if start then some pic.num else s.sweepFrame
    decided := some (s.display.getLastD pic.num), restart := false }
  let p := streamParams s (tapFull (tapCfg d s))
  let before := if p.av1 then showable s else []
  let s := shown before.length s
  let head := before.flatMap (showUnit p) ++
    auHead { s with tuOpen := s.tuOpen && before.isEmpty } p pic start (encMeta d s.cfg f start pic.key)
      (timeCode d s.rate.1 s.rate.2 (expStart f))
  let s := if pic.key || start then { s with psets := psetsOf p } else s
  let s := if !pic.hidden then { s with display := s.display.filter (· != pic.num) } else { s with hidden := pic.num :: s.hidden }
  let after := if p.av1 && !pic.hidden then showable s else []
  let s := shown after.length s
  let trail := after.flatMap (showUnit p)
  let bits := 8 * (head.length + trail.length) + (if p.av1 then 0 else 48)
  let floors := columnFloors p.av1 pic.key s.w s.h s.engines.length
  let target := picTarget s.cfg (Config.rcTarget s.handle s.rcResets s.rcCount) (s.vbv / max 1 s.rate.1) (bits + sumNat floors)
  let limit := picLimit s.cfg target
  (s,
   { pic, sweep, start, forced := force.map EncForce.actions, head, trail, target, limit
     shares := if s.engines.length = 1 then [(target, limit)]
       else engineShares target limit bits floors (if pic.key then [] else s.colBits)
     refs := activeRefs s pic, ep := d.pcie.epoch, ring := none })

/-- Bits used before the first row of an engine's column: the units around the slices, on one engine (08 R241, R242). -/
def startBits (s : EncSes) (plan : EncPlan) : Nat :=
  if s.engines.length = 1 then 8 * (plan.head.length + plan.trail.length) + (if eoAv1 s.cfg then 0 else 48) else 0

/-! CTUs and rows (08 R227, R232, R237-R241, R243). -/

/-- The QP of a CTU: the value of its picture type in CQP, else within QP_MIN to QP_MAX (08 R239). -/
def qpOk (c : List Byte) (p : GopPic) (q : Nat) : Bool :=
  if eoRc c = 0 then q == le c (if p.key then 28 else if p.inner then 30 else 29) 1
  else decide (le c 26 1 ≤ q) && decide (q ≤ le c 27 1)

/-- What an engine may have coded a CTU to: floor mode within f, a QP in range, predictions from active references alone,
clean under refresh, and those of a ladder member within the refinement of the motion field. -/
def ctuOk (d : Dev) (s : EncSes) (plan : EncPlan) (col row : Nat) (c : CtuCode) : Bool :=
  let fields := ((ladderOf d s.ladder).map Ladder.fields).getD []
  decide (c.floor.length ≤ (floorBound (eoAv1 s.cfg) plan.pic.key).1) && qpOk s.cfg plan.pic c.qp &&
  (!plan.pic.key || c.preds.isEmpty) && (c.preds.all fun b => plan.refs.any fun r => r.num == b.ref) &&
  sweepOk s plan col row c &&
  (!isMember d s || c.preds.all fun b =>
    refined (eoAv1 s.cfg) (memberPred (tapCfg d s) (((topOf d s).map (tapCfg d)).getD []) fields b plan.pic.num) b)

/-- Row r of a tile column of n CTUs from CTU column `first`. -/
def rowOk (d : Dev) (s : EncSes) (plan : EncPlan) (first n r : Nat) (row : RowCode) : Bool :=
  let starts := rowStarts s.cfg s.h r
  row.ctus.length == n && row.header.isEmpty != starts &&
  (!starts || decide (row.header.length + unitBits (eoAv1 s.cfg) ≤ (floorBound (eoAv1 s.cfg) plan.pic.key).2)) &&
  row.ctus.zipIdx.all fun (c, k) => ctuOk d s plan (first + k) r c

/-- ACTIONS of the ENC_FORCE that applies code a whole picture in floor mode. -/
def wholeFloor (plan : EncPlan) : Bool := plan.forced.any fun a => bitOf a 3

/-! A picture ends (08 R230, R238, R239, R243-R245, R253). -/

/-- Engines as a bitmap. -/
def engineMap (l : List Nat) : Nat := (l.map fun e => 2 ^ e).foldl (· + ·) 0

/-- What a coded or failed picture came to. -/
structure EncOut where
  status : Nat
  bytes  : List Byte
  /-- bytes of each segment (11 R304) -/
  segs   : List Nat
  ptype  : Nat
  layer  : Nat
  qp     : Nat × Nat × Nat
  target : Nat
  tail   : Nat
  floor  : Nat

/-- PIC_TYPE (08 R253). -/
def picType (c : List Byte) (p : GopPic) : Nat :=
  if p.key then 0 else if eoAv1 c && p.hidden then 3 else if p.inner then 2 else 1

/-- Add what an engine's part came to. -/
def addRun (a b : RcRun) : RcRun :=
  { used := a.used + b.used, tail := a.tail + b.tail, floor := a.floor + b.floor, slices := a.slices
    qpSum := a.qpSum + b.qpSum, qpN := a.qpN + b.qpN, qpLow := min a.qpLow b.qpLow, qpHigh := max a.qpHigh b.qpHigh }

/-- The figures of a coded picture's record. -/
def encOut (s : EncSes) (plan : EncPlan) (r : RcRun) (floorAll : Bool) (fault : Nat) (bytes : List Byte) (segs : List Nat) : EncOut :=
  let floorUsed := floorAll || wholeFloor plan || r.tail != 0 || r.floor != 0
  let ceil := eoRc s.cfg != 3 && r.floor != 0
  { status := b2n floorUsed + b2n ceil * 2 + b2n (fault == 1) * 8 + b2n (fault == 2) * 16
    bytes, segs, ptype := picType s.cfg plan.pic, layer := plan.pic.layer
    qp := (r.qpSum * 16 / max 1 r.qpN, r.qpLow, r.qpHigh), target := plan.target, tail := r.tail, floor := r.floor }

/-- The status record of a picture (08 R253). -/
def encRecord (d : Dev) (s : EncSes) (f : Frm) (o : EncOut) (seq : Nat) : List Byte :=
  pack [(8, seq % 2 ^ 63), (4, f.num), (4, f.status), (4, o.status), (4, o.bytes.length), (1, o.ptype), (1, o.layer),
    (1, engineMap s.engines), (1, 0), (2, o.qp.1), (1, o.qp.2.1), (1, o.qp.2.2), (4, o.target), (2, o.tail), (2, 0),
    (4, o.floor), (4, expStart f % 2 ^ 32), (8, secOf (expStart f) % 2 ^ 48), (4, nsOf (expStart f)), (4, ns32 d),
    (4, s.count), (60, 0)]

/-- The record is written last, with the access unit before it where slots hold it and its rows have not gone before; a
picture that the ring cannot take any more is discarded with its number used (08 R253, 02 R562, 12 R327). -/
def encRing (slot : Nat) (s : EncSes) (f : Frm) (o : EncOut) (ep : Nat) (seq : Option Nat) (lost : Bool) (d : Dev) : Dev :=
  match seq with
  | none => d
  | some seq =>
    if deliversFrom ep d && !lost then
      let r := encRecord d s f o seq
      let body := if eoSlotBytes s.cfg = 0 || eoDirect s.cfg then r else fit 4096 r ++ o.bytes
      notify (eoVector s.cfg) (emit (.ring s.handle (ringSlot (eoSlots s.cfg) seq) seq body) d)
    else
      raise evCodec 4 s.handle (f.num + seq % 2 ^ 31 * 2 ^ 32) (modEnc slot (fun x => { x with dropped := x.dropped + 1 }) d)

/-- A forced picture is coded: its ENC_FORCE ends and, for the lead, completes (08 R251). -/
def endForce (slot num t : Nat) (d : Dev) : Dev :=
  match (tabGet d.enc slot).bind fun s => forceDue s num t with
  | none => d
  | some f =>
    let d := modEnc slot (fun s => { s with force := none }) d
    if f.lead && !f.deferred then completeTag (some f.cmd) stSuccess num 0 d else d

/-- The buffer model after a picture of n bits (08 R239). -/
def vbvAfter (s : EncSes) (n : Nat) : Nat :=
  min (vbvSize s.cfg s.rate) (s.vbv - n * s.rate.1 + eoMax s.cfg * 1000 * s.rate.2)

/-- Bytes of filler that keep the buffer of CBR from overflowing, within the ceiling (08 R239). -/
def fillerBytes (s : EncSes) (limit n : Nat) : Nat :=
  if eoRc s.cfg != 2 then 0
  else
    let excess := s.vbv - n * s.rate.1 + eoMax s.cfg * 1000 * s.rate.2 - vbvSize s.cfg s.rate
    min (divUp excess (8 * max 1 s.rate.1)) ((limit - n) / 8)

/-- The session after a coded picture: its order of key pictures and sweeps, its references and its rate control. -/
def afterPicture (s : EncSes) (plan : EncPlan) (bits : Nat) (columns : List Nat) : EncSes :=
  let p := plan.pic
  { s with
    count := s.count + 1, last := some p.num, skip := none, cur := none, work := none, gop := s.gop.drop 1
    sinceKey := if p.key then 1 else if p.radl then s.sinceKey else s.sinceKey + 1
    sweep := if p.key then some 0 else plan.sweep.map fun i => if i + 1 < s.period then i + 1 else 0
    refs := refsAfter s plan, tuOpen := p.hidden, entropy := if eoAv1 s.cfg then some p.num else none
    vbv := vbvAfter s bits, rcCount := s.rcCount + 1, colBits := if p.key then [] else columns }

/-- The access unit goes into the session's HBM bitstream buffer, with the 8-byte check of each segment beside it (08 R245, 11
R304); its device address, 0 without a buffer. -/
def writeAu (s : EncSes) (num : Nat) (bytes : List Byte) (segs : List Nat) (d : Dev) : Dev × Nat :=
  match hbmBuffer d s.handle with
  | none => (d, 0)
  | some b =>
    let a := b + streamBase s + s.count % 4 * eoMaxAu s.cfg
    (hbmWrite { handle := s.handle, cls := 1, frame := num } a (bytes.length + 8 * segs.length) d, a)

/-- The reconstruction goes into the reference buffer where it joins the set. -/
def writeRef (s : EncSes) (plan : EncPlan) (d : Dev) : Dev :=
  match hbmBuffer d s.handle, (refsAfter s plan).find? fun r => r.num == plan.pic.num with
  | some b, some r =>
    hbmWrite { handle := s.handle, cls := 1, frame := plan.pic.num } (slotAt (b + refBase s) (refBytes s) r.slot) (refBytes s) d
  | _, _ => d

/-- The flows and the host ring of a session read a unit out of the buffer: the bytes as read, whether any are lost, and
STREAM_CHECK for each reader whose segments fail their check (11 R307, R308). -/
def readOut (s : EncSes) (num addr : Nat) (bytes : List Byte) (segs : List Nat) (checks : List Dword) (d : Dev) :
    Dev × List Byte × Bool :=
  let (d, got, lost) := readUnit { handle := s.handle, cls := 1, frame := num } addr bytes d
  let bad := if lost then badSegs segs checks got else 0
  (readerChecks s.handle num 1 bad false (!(flowsOf d s.handle 1).isEmpty) (eoRing s.cfg && eoSlotBytes s.cfg != 0) d, got, lost)

/-- A picture is coded and delivered (08 R238, R243-R245, R253): the flows' packets of a DIRECT one have gone row by row. -/
def encFinish (slot : Nat) (s : EncSes) (plan : EncPlan) (tf : TapFin) (o : EncOut) (columns : List Nat) (seq : Option Nat)
    (d : Dev) : Dev :=
  let f := tf.fin.frm
  let recov := plan.sweep.any fun i => i + 1 == s.period
  let checks := (cutBytes o.segs o.bytes).map crc64Xz
  let (d, addr) := writeAu s f.num o.bytes o.segs (writeRef s plan d)
  let (d, got, lost) := readOut s f.num addr o.bytes o.segs checks d
  let dropped := flowsDrop d s.handle || (lost && badSegs o.segs checks got != 0)
  let o := { o with status := o.status + b2n plan.forced.isSome * 32 + b2n recov * 64 + b2n dropped * 128 }
  let au : EncAu := { num := f.num, record := encRecord d s f o 0, metaRec := encMeta d s.cfg f plan.start plan.pic.key, bytes := o.bytes }
  let d := modEnc slot (fun x => { afterPicture s plan (8 * o.bytes.length) columns with force := x.force, au := some au })
    (dropFrame s f.num d)
  let u : AuOut :=
    { num := f.num, status := f.status, pts := expStart f, rap := plan.pic.key || plan.start, damaged := false, bytes := o.bytes
      segs := o.segs, addr, checks }
  let d := offerFrameMeta s.handle f plan.start plan.pic.key (offerRec s.handle u d)
  let d := if eoDirect s.cfg then d else offerCompressed s.handle (b2n (eoAv1 s.cfg)) f.num (expStart f) true got d
  endForce slot f.num f.t (encRing slot s f { o with bytes := got } plan.ep seq lost d)

/-- The last access unit of a session that closes after its picture ends the stream (08 R252). -/
def lastUnit (d : Dev) (s : EncSes) (num : Nat) : Bool :=
  !eoAv1 s.cfg && !s.closing.isEmpty && !s.now && noMore d s && decide (s.gop.length ≤ 1) &&
  (encFrames d s).all fun f => f.fin.frm.num == num

/-- What follows the slices of a picture: the frames of AV1 that are shown next, filler, and the end of the sequence. -/
def auTrail (d : Dev) (s : EncSes) (plan : EncPlan) (n : Nat) : List Byte × Bool :=
  let eos := lastUnit d s plan.pic.num
  (plan.trail ++ fillerUnit (eoAv1 s.cfg) (fillerBytes s plan.limit n) ++ (if eos then eosUnit else []), eos)

/-! BUFFERED pictures (08 R232, R233, R241, R242). -/

/-- An engine's part of a picture: the rows of its tile column under its share of T and L. -/
def codePart (d : Dev) (s : EncSes) (plan : EncPlan) (k : Nat) (rows : List RowCode) : Option RcRun :=
  let n := ((columnCtus s.w s.engines.length)[k]?).getD 0
  let (t, l) := (plan.shares[k]?).getD (0, 0)
  if rows.length = ctus s.h &&
      (rows.zipIdx.all fun (row, r) => rowOk d s plan (columnStart s.w s.engines.length k) n r row) then
    some (rcRows (rcPic s.cfg plan.pic.key (wholeFloor plan)) t l (unitBits (eoAv1 s.cfg)) n rows { used := startBits s plan })
  else none

/-- The slices or tiles of a picture in raster order of the tiles. -/
def tileUnits (s : EncSes) (plan : EncPlan) (runs : List RcRun) : List Byte :=
  let cols := runs.map fun r => r.slices.reverse
  (List.range ((cols.headD []).length)).flatMap fun i =>
    cols.flatMap fun l => sliceUnit (eoAv1 s.cfg) (nalType plan.pic) plan.pic.layer ((l[i]?).getD [])

/-- Boundaries of tile columns whose two engines have finished: filtered, with the 16 columns on each side that they have
exchanged through Lagoon (08 R232). -/
def filteredEdges (parts : List (Option RcRun)) : List Nat :=
  (List.range (parts.length - 1)).filter fun i => ((parts[i]?).join).isSome && ((parts[i + 1]?).join).isSome

/-- Every engine's part has completed: the picture is assembled and delivered. -/
def deliverPicture (slot : Nat) (s : EncSes) (w : EncWork) (tf : TapFin) (d : Dev) : Dev :=
  let runs := w.parts.filterMap id
  let body := w.plan.head ++ tileUnits s w.plan runs
  let (trail, eos) := auTrail d s w.plan (8 * (body.length + w.plan.trail.length))
  let bytes := body ++ trail
  let total := (runs.drop 1).foldl addRun (runs.headD { used := 0 })
  let (s, seq, d) := encRingTake s w.plan.pic.num d
  encFinish slot { s with eos := s.eos || eos } w.plan tf (encOut s w.plan total false 0 bytes (segsOf bytes.length))
    (runs.map RcRun.used) seq d

/-- A session's picture fails whole: PICTURE_FAILED, and its record takes a slot with no bytes (08 R253, R254). -/
def failPicture (slot : Nat) (s : EncSes) (p : GopPic) (f : Frm) (bits : Nat) (d : Dev) : Dev :=
  let st := 4 + bits
  let o : EncOut :=
    { status := st, bytes := [], segs := [], ptype := picType s.cfg p, layer := p.layer, qp := (0, 0, 0), target := 0, tail := 0
      floor := 0 }
  let (s, seq, d) := encRingTake { s with
    work := none, gop := s.gop.drop 1, display := s.display.filter (· != p.num)
    hidden := s.hidden.filter (· != p.num) } p.num d
  let d := modEnc slot (fun x => { s with force := x.force }) (dropFrame s p.num d)
  encRing slot s f o d.pcie.epoch seq false (raise evCodec 1 s.handle (f.num + st * 2 ^ 32) d)

/-- The frame of a picture. -/
def frameFor (d : Dev) (s : EncSes) (num : Nat) : Option TapFin := (encFrames d s).find? fun f => f.fin.frm.num == num

/-- A session's engine is in reset. -/
def encHeld (d : Dev) (s : EncSes) : Bool := s.engines.any fun e => bitOf d.encReset e

/-- A session's next picture with its plan, begun where it is not in progress. -/
def pictureAt (d : Dev) (s : EncSes) : Option (EncSes × EncWork × TapFin × Dev) :=
  match s.work with
  | some w => (frameFor d s w.plan.pic.num).map fun tf => (s, w, tf, d)
  | none => match nextPicture d s with
    | none => none
    | some (p, ready) => (frameFor d s p.num).map fun tf =>
      let fresh := isNew d s tf
      let (s, d) := if fresh then switchTap (withGop d s) d else (withGop d s, d)
      let (s, plan) := beginPicture d s { p with ready } tf.fin.frm
      (s, { plan, parts := s.engines.map fun _ => none, edges := [] }, tf, d)

/-- ENC_PICTURE_DONE (08 R232, R233): an engine completes its part of the picture whose deadline comes first; with the last
part the picture is delivered. A reference or the source lost in HBM fails it whole (R254). -/
def encPictureDone (slot e : Nat) (rows : List RowCode) (d : Dev) : Dev :=
  match tabGet d.enc slot with
  | none => d
  | some s0 =>
    match s0.engines.idxOf? e, pictureAt d s0 with
    | some k, some (s, w, tf, d1) =>
      if engineHead d e != some slot || encHeld d s0 then d
      else match codePart d1 s w.plan k rows with
        | none => d
        | some run =>
          let n := s.engines.length
          let (d1, src) := readSource s tf k n d1
          let (d1, lost) := readRefs s w.plan k n d1
          if src || !lost.isEmpty then failPicture slot (loseRefs lost s) w.plan.pic tf.fin.frm 16 d1
          else
            let parts := w.parts.set k (some run)
            let w := { w with parts, edges := filteredEdges parts }
            if parts.all Option.isSome then deliverPicture slot s w tf d1
            else modEnc slot (fun _ => { s with work := some w }) d1
    | _, _ => d

def execEncPictureDone (ses engine : Nat) (rows : List RowCode) (s : State) : Host.Outcome State Fault Refusal :=
  .next (s.mapDev (encPictureDone ses engine rows))

/-! DIRECT rows (08 R234, R235). -/

/-- A frame whose presentation has begun by an instant: its line 0 by the trigger (DESIGN CHOICE, log 97). -/
def begunBy (f : Frm) (ns : Nat) : Bool := decide (f.t + f.tm.eo + f.tm.ed ≤ ns)

/-- The frame whose rows a DIRECT session codes: the oldest handed over, else the one in presentation. -/
def directFrame (d : Dev) (s : EncSes) : Option Frm :=
  match encFrames d s with
  | f :: _ => some f.fin.frm
  | [] =>
    match runningFrm d s.tap with
    | some f => if s.skip != some f.num && (s.closing.isEmpty && !s.shed || s.allow.contains f.num) then some f else none
    | none => none

/-- The last output line of a CTU row. -/
def rowLast (s : EncSes) (r : Nat) : Nat := min (64 * (r + 1)) s.h - 1

/-- The frame line whose arrival lets the tap present an output line (07 R224, R225). -/
def lineNeeded (c : List Byte) (y : Nat) : Nat :=
  ((cropY c : Int) + (scalePlace y (cropH c) (outH c)).1).toNat + vTaps c / 2 + 6

/-- Lines of the frame in presentation that the Isle has taken. -/
def linesIn (d : Dev) (s : EncSes) : Nat :=
  match encSource d s with
  | none => 0
  | some (i, _, p) =>
    let k := port d p
    if k.memory then ((isle d i).tm.map fun r => 16 * r.rows).getD 0
    else match k.cur with
      | some f => if k.streams = 2 then min f.next0 f.next1 else f.next0
      | none => 0

/-- The tap has presented the lines of a CTU row: it has handed over the frame, or taken the last line that the row needs (08
R235). -/
def rowPresented (d : Dev) (s : EncSes) (num r : Nat) : Bool :=
  (frameFor d s num).isSome || decide (lineNeeded (tapCfg d s) (rowLast s r) < linesIn d s)

/-- The instant of R235 at which a row's bitstream is complete, in ns, before the 2,048 VCLK: from the trigger, its lines at
their line time and the cycles of the path (07 R226). -/
def rowInstant (d : Dev) (s : EncSes) (f : Frm) (r : Nat) : Nat :=
  let strait := match encSource d s with
    | some (_, _, p) => (link d p).d
    | none => 0
  f.t + f.tm.eo + f.tm.ed + lineNeeded (tapCfg d s) (rowLast s r) * f.tm.ls / 1000 + (794 + strait + divUp s.w 16) / 2

/-- 2,048 and 4,096 VCLK, in ns. -/
def rowGuardNs : Nat := 4096

/-- A DIRECT session's picture, begun where it is not in progress. -/
def rowAt (d : Dev) (s : EncSes) : Option (EncSes × EncRow × Frm × Dev) :=
  match directFrame d s with
  | none => none
  | some f =>
    match s.cur with
    | some c => if c.num = f.num then some (s, c, f, d) else none
    | none =>
      if !topDecided d s f.num then none
      else
        let fresh := (frameFor d s f.num).any (isNew d s)
        let (s, d) := if fresh then switchTap s d else (s, d)
        let pic : GopPic :=
          { num := f.num, key := keyAt d s 0 f.num f.t, inner := false, hidden := false, radl := false, isRef := eoGop s.cfg != 0
            layer := 0, ready := d.tu.ns }
        let (s, plan) := beginPicture d s pic f
        let (s, seq, d) := encRingTake s f.num d
        some (s, { num := f.num, plan := { plan with ring := seq }, rows := 0, run := { used := startBits s plan }, bytes := []
                   segs := [], fault := 0, floorAll := false }, f, d)

/-- A row's bytes leave at once: to the flows, and into the ring's slot (08 R234, R245, R253). -/
def rowOut (s : EncSes) (c : EncRow) (f : Frm) (last : Bool) (bytes : List Byte) (d : Dev) : Dev :=
  let d := offerCompressed s.handle (b2n (eoAv1 s.cfg)) c.num (expStart f) last bytes d
  match c.plan.ring with
  | some seq =>
    if eoSlotBytes s.cfg != 0 && deliversFrom c.plan.ep d then
      emit (.ringPart s.handle (ringSlot (eoSlots s.cfg) seq) (4096 + c.bytes.length) bytes) d
    else d
  | none => d

/-- The session leaves: its attachment, object and reservations go, the group with its top, and the commands that wait
complete: ENC_CLOSE with a status, and an ENC_RECONFIG or ENC_FORCE that never took effect with that status and no frame
(DESIGN CHOICE, log 98). -/
def encRemove (slot st : Nat) (d : Dev) : Dev :=
  match tabGet d.enc slot with
  | none => d
  | some s =>
    let d := if isTop d s then
        closeObj s.ladder { d with
          ladders := d.ladders.filter fun p => p.2.handle != s.ladder
          enc := d.enc.map fun (sl, x) => (sl, if x.ladder = s.ladder then { x with ladder := 0 } else x) }
      else d
    let d := { detach s.handle d with enc := tabDel d.enc slot }
    let mine (sh : Shadow) : Bool := sh.kind == 10 && sh.idx == slot
    let waits := d.isles.toList.flatMap fun (k : Isle) => (k.shadows.filter mine).map fun sh => (sh.cmd, sh.deferred)
    let waits := waits ++ (s.force.toList.filter fun f => f.lead).map fun f => (f.cmd, f.deferred)
    let d := (List.finRange 4).foldl (fun d i => modIsle i (fun k => { k with shadows := k.shadows.filter fun sh => !mine sh }) d) d
    let d := returnResv s.handle (closeObj s.handle d)
    let d := waits.foldl (fun d x => if x.2 then d else completeTag (some x.1) st 0xFFFFFFFF 0 d) d
    s.closing.foldl (fun d t =>
      completeTag (some t) st (s.last.getD 0xFFFFFFFF + s.count % 2 ^ 32 * 2 ^ 32) 0 d) d

/-- A session that thermal shedding closes leaves once its last picture is done (08 R252, R255, R256). -/
def shedEnd (slot : Nat) (d : Dev) : Dev :=
  match tabGet d.enc slot with
  | none => d
  | some s => if s.shed && s.cur.isNone then raise evCodec 3 s.handle (s.last.getD 0xFFFFFFFF) (encRemove slot stThermal d) else d

/-- A DIRECT picture whose reference is lost goes on in floor mode; one that met a fault ends with it (08 R254). -/
def rowFault (lost : List Nat) (c : EncRow) : EncRow := if lost.isEmpty then c else { c with fault := 2, floorAll := true }

/-- ENC_ROW_DONE (08 R235, R241): the next CTU row of a DIRECT picture, once the tap has presented its lines; its bytes leave at
once. With the last row the picture is complete. -/
def encRowDone (slot : Nat) (row : RowCode) (d : Dev) : Dev :=
  match tabGet d.enc slot with
  | none => d
  | some s0 =>
    match rowAt d s0 with
    | none => d
    | some (s, c, f, d1) =>
      let n := ctus s.w
      let rows := ctus s.h
      let last := rows ≤ c.rows + 1
      if !eoDirect s.cfg || encHeld d s || !rowOk d1 s c.plan 0 n c.rows row || !rowPresented d s0 c.num c.rows ||
          (last && (frameFor d s0 c.num).isNone) then d
      else
        let (d1, lost) := readRefs s c.plan c.rows rows d1
        let s := loseRefs lost s
        let c := rowFault lost c
        let run := rcRow (rcPic s.cfg c.plan.pic.key (c.floorAll || wholeFloor c.plan)) c.plan.target c.plan.limit
          (unitBits (eoAv1 s.cfg)) n (rows - 1 - c.rows) row c.run
        let unit := (if c.rows = 0 then c.plan.head else []) ++
          sliceUnit (eoAv1 s.cfg) (nalType c.plan.pic) 0 (run.slices.headD [])
        let (trail, eos) := auTrail d1 s c.plan (8 * (c.bytes.length + unit.length + c.plan.trail.length))
        let unit := if last then unit ++ trail else unit
        let next : EncRow := { c with
          rows := c.rows + 1, run, bytes := c.bytes ++ unit, segs := c.segs ++ segsOf unit.length }
        let d1 := rowOut s c f last unit d1
        match frameFor d s0 c.num with
        | some tf =>
          if last then
            shedEnd slot (encFinish slot { s with eos := s.eos || eos } c.plan tf
              (encOut s c.plan run next.floorAll next.fault next.bytes next.segs) [run.used] c.plan.ring d1)
          else modEnc slot (fun x => { s with force := x.force, cur := some next }) d1
        | none => modEnc slot (fun x => { s with force := x.force, cur := some next }) d1

def execEncRowDone (ses : Nat) (row : RowCode) (s : State) : Host.Outcome State Fault Refusal :=
  .next (s.mapDev (encRowDone ses row))

/-! Motion fields (08 R237). -/

/-- A block's search lies within the ranges of R237, in samples of the resolution searched (DESIGN CHOICE, log 94). -/
def searchOk (v : FieldVec) : Bool :=
  decide (v.quarter.1.natAbs ≤ 256) && decide (v.quarter.2.natAbs ≤ 128) && decide (v.half.1.natAbs ≤ 8) &&
  decide (v.half.2.natAbs ≤ 8) && decide (v.full.1.natAbs ≤ 4) && decide (v.full.2.natAbs ≤ 4)

/-- A block's vector at full resolution: each winner scaled, and the step around it. -/
def searchVec (v : FieldVec) : Int × Int :=
  (4 * v.quarter.1 + 2 * v.half.1 + v.full.1, 4 * v.quarter.2 + 2 * v.half.2 + v.full.2)

/-- MOTION_FIELD_DONE: the field of a frame that the top's tap has passed; the last 8 are kept. -/
def motionFieldDone (slot frame : Nat) (vecs : List FieldVec) (d : Dev) : Dev :=
  match tabGet d.enc slot with
  | none => d
  | some s =>
    let passed := (frameFor d s frame).isSome || s.last == some frame
    if isTop d s && passed && vecs.length == fieldWidth s.w * divUp s.h 16 && vecs.all searchOk then
      { d with ladders := d.ladders.map fun p =>
        if p.2.handle = s.ladder then
          (p.1, { p.2 with fields := ({ num := frame, ns := d.tu.ns, vecs := vecs.map searchVec } ::
            p.2.fields.filter fun f => f.num != frame).take 8 })
        else p }
    else d

def execMotionFieldDone (ses frame : Nat) (vecs : List FieldVec) (s : State) : Host.Outcome State Fault Refusal :=
  .next (s.mapDev (motionFieldDone ses frame vecs))

/-! Engine faults (08 R254). -/

/-- A session's BUFFERED picture, in progress or next, fails whole. -/
def encFail (slot bits : Nat) (d : Dev) : Dev :=
  match tabGet d.enc slot with
  | none => d
  | some s => match pictureAt d s with
    | none => d
    | some (s, w, tf, d) => failPicture slot s w.plan.pic tf.fin.frm bits d

/-- A DIRECT picture in progress meets a fault, or 0 where its session closes at once: the rows delivered stand, and those that
remain are floor mode (08 R252, R254). -/
def encFloor (slot fault : Nat) (d : Dev) : Dev :=
  match tabGet d.enc slot with
  | none => d
  | some s =>
    if !eoDirect s.cfg || (s.cur.isNone && linesIn d s = 0) then d
    else match rowAt d s with
      | none => d
      | some (s, c, _, d) => modEnc slot (fun x => { s with force := x.force, cur := some { c with
          fault := if fault = 0 then c.fault else fault, floorAll := true } }) d

/-- The engine resets, and ENGINE_RESET says so. -/
def encEngineReset (e cause : Nat) (d : Dev) : Dev :=
  raise evCodec 2 0 (e + cause * 2 ^ 8) { d with encReset := setBit d.encReset e }

/-- Faults of engines: each resets, and every picture in progress on them meets its fault, and that of a session named. -/
def encEnginesFault (engines : List Nat) (named : List Nat) (cause : Nat) (d : Dev) : Dev :=
  let heads := d.enc.filterMap fun (slot, _) =>
    if named.contains slot || engines.any (fun e => engineHead d e == some slot) then some slot else none
  let direct := d.enc.filterMap fun (slot, s) => if eoDirect s.cfg && engines.any s.engines.contains then some slot else none
  let d := engines.foldl (fun d e => encEngineReset e cause d) d
  let d := direct.foldl (fun d slot => encFloor slot 1 d) d
  heads.foldl (fun d slot => encFail slot 8 d) d

def execEncParityError (e : EncEng) (s : State) : Host.Outcome State Fault Refusal :=
  .next (s.mapDev (encEnginesFault [e.val] [] 1))

/-- ENC_PICTURE_TIMEOUT (08 R254): a BUFFERED picture is not complete 50 ms after it became ready: a fault of each engine whose
part is missing. -/
def encPictureTimeout (slot : Nat) (d : Dev) : Dev :=
  match tabGet d.enc slot with
  | none => d
  | some s =>
    match nextPicture d s with
    | none => d
    | some (_, ready) =>
      if eoDirect s.cfg || d.tu.ns < ready + 50000000 then d
      else encEnginesFault (s.engines.filter fun e => (partReady d s e).isSome) [slot] 2 d

def execEncPictureTimeout (ses : Nat) (s : State) : Host.Outcome State Fault Refusal :=
  .next (s.mapDev (encPictureTimeout ses))

/-- ENC_ROW_TIMEOUT (08 R254): a DIRECT row is not complete 4,096 VCLK after its instant, or 200 us later after a reset; the
picture's other rows are floor mode. -/
def encRowTimeout (slot : Nat) (d : Dev) : Dev :=
  match tabGet d.enc slot with
  | none => d
  | some s =>
    match directFrame d s with
    | none => d
    | some f =>
      let r := (s.cur.map EncRow.rows).getD 0
      let late := if s.cur.any fun c => c.fault != 0 then 200000 else 0
      if !eoDirect s.cfg || encHeld d s || !rowPresented d s f.num r || d.tu.ns < rowInstant d s f r + rowGuardNs + late then d
      else encEnginesFault s.engines [] 3 d

def execEncRowTimeout (ses : Nat) (s : State) : Host.Outcome State Fault Refusal :=
  .next (s.mapDev (encRowTimeout ses))

def encEngineResetDone (e : EncEng) (d : Dev) : Dev := { d with encReset := clearBit d.encReset e.val }

def execEncEngineResetDone (e : EncEng) (s : State) : Host.Outcome State Fault Refusal :=
  .next (s.mapDev (encEngineResetDone e))

/-! ENC_OPEN (08 R246-R249). -/

/-- Step 1 of R22: the ranges that rest on the structure alone. Those of the ring hold without a ring too (DEDUCED, log 99). -/
def encValid (c : List Byte) : Bool :=
  let cqp := eoRc c == 0
  let nrefMax := if eoAv1 c then 3 else 4
  decide (eoProfile c ≤ 5) && levelListed c && decide (le c 2 1 ≤ 1) && decide (le c 3 1 ≤ 1) && decide (eoGop c ≤ 2) &&
  (if eoGop c = 2 then [2, 4, 8].contains (eoMini c) else eoMini c == 1) &&
  (if eoGop c = 0 then eoNref c == 0 else decide (1 ≤ eoNref c) && decide (eoNref c ≤ nrefMax)) &&
  decide (eoRefresh c ≤ 2) &&
  (if eoRefresh c = 0 then eoPeriod c == 0
    else eoKeyInt c == 0 && decide (2 ≤ eoPeriod c) && decide (eoPeriod c ≤ 256)) &&
  decide (eoNeng c ≤ 8) && decide (eoRc c ≤ 3) && (if cqp then eoTarget c == 0 else eoTarget c != 0) &&
  decide (eoTarget c ≤ eoMax c) && (if cqp then eoVbv c == 0 else decide (10 ≤ eoVbv c) && decide (eoVbv c ≤ 10000)) &&
  decide (le c 26 1 ≤ le c 27 1) && decide (le c 27 1 ≤ qpTop c) &&
  (!cqp || (List.range 3).all fun i => decide (le c (28 + i) 1 ≤ qpTop c)) && zeroAt c 31 1 &&
  (if eoRc c = 3 then decide (eoCap c ≤ eoMaxAu c) else eoCap c == 0) && zeroAt c 47 1 &&
  decide (eoMeta c < 8) && (eoAv1 c || zeroAt c 49 3) && zeroAt c 53 3 && le c 56 8 % 16 == 0 && zeroAt c 74 54 &&
  decide (1 ≤ eoSlots c) && decide (eoSlots c ≤ 255) && eoSlotBytes c % 4096 == 0 &&
  (eoSlotBytes c == 0 || decide (eoMaxAu c ≤ eoSlotBytes c)) && decide (eoVector c ≤ 2047) &&
  (!eoDirect c || (eoGop c != 2 && decide (eoNeng c ≤ 1) && (eoLadder c == 0 || eoLadder c == 0xFFFFFFFF)))

/-- Bytes of a slot of the host ring (08 R253). -/
def encStride (c : List Byte) : Nat := if eoSlotBytes c = 0 then 128 else 4096 + eoSlotBytes c

/-- The session opens with an existing group's handle. -/
def joinsGroup (c : List Byte) : Bool := eoLadder c != 0 && eoLadder c != 0xFFFFFFFF

/-- A member's checks against its top that rest on its structure (08 R236). -/
def memberFixed (d : Dev) (c : List Byte) (l : Ladder) : Bool :=
  (encOf d l.top).any fun top => eoAv1 c == eoAv1 top.2.cfg && !eoDirect c && eoKeyInt c == 0

/-- A member's checks against its top that rest on its tap (08 R236). -/
def memberOk (d : Dev) (i : IsleId) (t : TapId) (l : Ladder) : Bool :=
  match encOf d l.top with
  | none => false
  | some (_, top) =>
    let mine := (tapOf d i t).cfg
    let its := tapCfg d top
    tapPort mine == tapPort its && decide (outW mine + 1 ≤ top.w) && decide (outH mine + 1 ≤ top.h) &&
    (decK its == decM its || (decK mine == decK its && decM mine == decM its && decAnchor mine == decAnchor its))

/-- The reservations of a session on given engines (08 R248). -/
def encWants (c : List Byte) (w h fmt : Nat) (rate : Nat × Nat) (top : Bool) (engines : List Nat) : List (Nat × Nat × Nat) :=
  let a := w * h
  let share := encShare c a rate engines.length
  let direct := eoDirect c
  let g := eoMini c
  let (rn, rd) := rate
  let buf := if direct then 0 else fmtHalves fmt * 4
  let twoBeta := if eoRc c = 0 then 2 * eoMaxAu c * rn * 8 else 2 * eoMax c * 125 * 8 * rd
  let bw := divUp (rn * (2 * a * buf + a * fmtEighths fmt * (2 + eoNref c)) + twoBeta) (8 * rd * 1000000)
  let cap := (g + 2) * a * buf + (eoNref c + g) * a * fmtEighths fmt + 32 * eoMaxAu c + (if top then a else 0)
  let lag := 2 * 262144 + (if direct then 80 * w * fmtHalves fmt else 0)
  let host := if !eoRing c then 0
    else if eoSlotBytes c = 0 then divUp (128 * rn) (rd * 1000000)
    else if eoRc c = 0 then divUp ((eoMaxAu c + 4096) * rn) (rd * 1000000)
    else divUp (eoMax c * 125 * rd + 4096 * rn) (rd * 1000000)
  let total := share * engines.length
  (engines.map fun e => (rcEnc, e, share)) ++
  [(rcEncSes, unitAll, 1), (rcHbmBw, unitAll, bw), (rcHbmCap, unitAll, divUp cap (8 * 2 ^ 20)),
   (rcLagoon, unitAll, divUp lag 2048), (rcHost, 0, host),
   (rcPower, unitAll, divUp (total * (if eoAv1 c then 11 else 8)) 10)]

def specEncOpen : CmdSpec where
  op := .encOpen
  layout := []
  data := structData 128
  handle := .fixed 5 32
  inner e :=
    let c := fit 128 e.data
    if !encValid c then some stInvalidField
    else if eoRing c && decide (e.ringBytes < (eoSlots c + 1) * encStride c) then some stLength else none

/-- A member takes its top's GOP_TYPE, MINI_GOP and REFRESH settings (08 R238). -/
def withTop (d : Dev) (c : List Byte) (l : Option Ladder) : List Byte :=
  match l.bind fun l => encOf d l.top with
  | some (_, top) =>
    putBytes (putBytes (putBytes c 4 ((top.cfg.drop 4).take 2)) 7 ((top.cfg.drop 7).take 1)) 12 ((top.cfg.drop 12).take 2)
  | none => c

/-- ENC_OPEN past its checks (08 R249). -/
def encOpened (c : Outst) (cfg : List Byte) (i : IsleId) (t : TapId) (level n : Nat) (h : Nat) (slot : Nat)
    (engines : List Nat) (d : Dev) : Ans :=
  let tp := (tapOf d i t).cfg
  let tap := c.e.handle.toNat
  let (lad, d) :=
    if eoLadder cfg = 0 then (0, d)
    else if joinsGroup cfg then (eoLadder cfg, d)
    else match freeSlot d 7 16 with
      | none => (0, d)
      | some s =>
        let (g, d) := openObj 7 s c.qp 1 d
        (g, { d with ladders := tabSet d.ladders s { handle := g, top := h, fields := [] } })
  let w := outW tp + 1
  let hh := outH tp + 1
  let rate := (tapFps tp * decK tp, decM tp)
  let ses : EncSes :=
    { handle := h, tap, cfg, level, w, h := hh, fmt := tapFormat tp, rate
      engines, ladder := lad, skip := runningFrame d tap, count := 0, last := none, sinceKey := 0, keyFrame := none
      sweep := none, period := eoPeriod cfg, sweepFrame := none, restart := false, later := [], force := none
      vbv := vbvSize cfg rate / 2, srcBytes := if eoDirect cfg then 0 else w * hh * fmtHalves (tapFormat tp) / 2
      seq := 0, dropped := 0, cur := none, closing := [], now := false, allow := [], au := none }
  okAns (attach tap 1 h { d with enc := tabSet d.enc slot ses }) (res := h + lad * 2 ^ 32)
    (ext := engineMap engines + level * 2 ^ 8 + n * 2 ^ 16 + tileRows cfg hh * 2 ^ 24)

def encOpenBody (c : Outst) (d : Dev) : Ans :=
  let (i, t) := tapArg c.e
  let tp := (tapOf d i t).cfg
  let cfg0 := fit 128 c.e.data
  let lad := if joinsGroup cfg0 then ladderOf d (eoLadder cfg0) else none
  let cfg := withTop d cfg0 lad
  let w := outW tp + 1
  let h := outH tp + 1
  let rate := (tapFps tp * decK tp, decM tp)
  let a := w * h
  let av1 := eoAv1 cfg
  let need := levelNeeded cfg w h rate
  let level := if eoLevel cfg = 0 then need else eoLevel cfg
  let on := (tapOf d i t).on
  let n := encN cfg w a rate
  let fits := decide (128 ≤ w) && decide (64 ≤ h) && tapSource tp == 0 && profileTakes (eoProfile cfg) (tapFormat tp) &&
    (!eoDirect cfg || (decide (w ≤ 4096) && (!av1 || decide (h ≤ 4096)))) &&
    (eoLevel cfg == 0 || decide (need ≤ eoLevel cfg)) && capsOk cfg w h (n.getD 1) &&
    (eoNeng cfg == 0 || columnsOk av1 w (eoNeng cfg)) && lad.all (memberOk d i t)
  check (!joinsGroup cfg0 || lad.isSome) stInvalidHandle <|
  check (lad.all (memberFixed d cfg0)) stInvalidField <|
  check (!on || fits) stInvalidField <|
  check (on && decide (d.pwr.state < 2) && isleAvail d i.val) stConflict <|
  if 8 ≤ attCount d i t then .fail stExhausted 0xFF (ninthExt i)
  else match n with
    | none => .fail stExhausted 0xFF (noPlace d (encShare cfg a rate 8) 8)
    | some n =>
      let share := encShare cfg a rate n
      match placeEnc d (eoDirect cfg) share n (List.range 8) [] with
      | none => .fail stExhausted 0xFF (noPlace d share n)
      | some engines =>
        let full := (joinsGroup cfg && decide (8 ≤ (ladderSessions d (eoLadder cfg)).length)) ||
          (eoLadder cfg == 0xFFFFFFFF && (freeSlot d 7 16).isNone)
        match freeSlot d 6 64 with
        | none => .fail stExhausted 0xFF (resExt rcEncSes unitAll 1 0)
        | some slot =>
          if full then .fail stExhausted 0xFF (resExt rcEncSes unitAll 1 (64 - d.enc.length))
          else
            let (hd, d') := openObj 6 slot c.qp 1 d
            withAdmission hd true false (encWants cfg w h (tapFormat tp) rate (eoLadder cfg == 0xFFFFFFFF) engines) d' fun d =>
              encOpened c cfg i t level n hd slot engines d

def execEncOpen (t : Nat) (s : State) : Host.Outcome State Fault Refusal :=
  .next (s.mapDev (hostRow specEncOpen t encOpenBody))

/-! ENC_RECONFIG and ENC_FORCE (08 R250, R251). -/

def specEncReconfig : CmdSpec where
  op := .encReconfig
  layout := [(32, 0, 10), (34, 0, 200), (60, 0, 32)]
  checks e := [(33, !(bitOf (fld e 32 2) 8 && bitOf (fld e 32 2) 9))]
  handle := .body

/-- The body of an entry as bytes. -/
def bodyBytes (e : Sqe) : List Byte := toLE 32 (sqeBody e)

/-- The fields a MASK selects obey their ENC_OPEN rules (08 R250). -/
def reconfigValid (d : Dev) (s : EncSes) (b : List Byte) : Bool :=
  let m := le b 0 2
  let c := encApply s.cfg b
  let cqp := eoRc c == 0
  (!bitOf m 0 || !cqp) && (!bitOf m 1 || eoRc c == 3) && (!bitOf m 3 || cqp) &&
  (!bitOf m 5 || eoRefresh c != 0) && (!bitOf m 4 || !isMember d s || eoKeyInt c == 0) &&
  (!bitOf m 9 || (!isMember d s && !(isTop d s && decide (1 < (ladderSessions d s.ladder).length)))) &&
  encValid c && capsOk c s.w s.h s.engines.length

/-- The new tap has the old one's format, size and rate (08 R250). -/
def newTapOk (d : Dev) (s : EncSes) (i : IsleId) (t : TapId) : Bool :=
  let c := (tapOf d i t).cfg
  tapSource c == 0 && tapFormat c == s.fmt && outW c + 1 == s.w && outH c + 1 == s.h &&
  tapFps c * decK c * s.rate.2 == s.rate.1 * decM c

def encReconfigBody (c : Outst) (d : Dev) : Ans :=
  match encOf d c.e.handle.toNat with
  | none => .fail stInvalidHandle 4 0
  | some (slot, s) =>
    let b := bodyBytes c.e
    let m := le b 0 2
    let newTap := bitOf m 9
    let tapH := if newTap then le b 28 4 else s.tap
    match tapByHandle tapH with
    | none => .fail stInvalidHandle 60 0
    | some (i, t) =>
      let p := portOf (tapPort (tapOf d i t).cfg)
      let cfg := encApply s.cfg b
      check (reconfigValid d s b && (!newTap || !(tapOf d i t).on || newTapOk d s i t)) stInvalidField <|
      checkApply c d p 36 <|
      check ((tapOf d i t).on && s.closing.isEmpty && !s.shed &&
        !((List.finRange 4).any fun j => pendingShadow (isle d j) 10 slot 0)) stConflict <|
      if newTap && 8 ≤ attCount d i t then .fail stExhausted 0xFF (ninthExt i)
      else
        withAdmission s.handle true (counting d p) (encWants cfg s.w s.h s.fmt s.rate (isTop d s) s.engines) d fun d =>
          shadowCmd c i 10 slot 0 p.val (fld c.e 36 4) b d

def execEncReconfig (t : Nat) (s : State) : Host.Outcome State Fault Refusal :=
  .next (s.mapDev (hostRow specEncReconfig t encReconfigBody))

def specEncForce : CmdSpec where
  op := .encForce
  layout := [(32, 0, 4), (36, 0, 32)]
  checks e := [(32, fldBits e 32 0 4 != 0 && fldBits e 32 0 2 != 3)]
  handle := .body

/-- The sessions an ENC_FORCE acts on, the one that completes it first. -/
def forceTargets (d : Dev) (h : Nat) : List Nat :=
  match encOf d h with
  | some (slot, _) => [slot]
  | none =>
    match ladderOf d h with
    | none => []
    | some l =>
      let all := (ladderSessions d h)
      ((all.filter fun p => p.2.handle == l.top) ++ all.filter fun p => p.2.handle != l.top).map (·.1)

def encForceBody (c : Outst) (d : Dev) : Ans :=
  match forceTargets d c.e.handle.toNat with
  | [] => .fail stInvalidHandle 4 0
  | lead :: rest =>
    let src := ((tabGet d.enc lead).bind (encSource d)).map fun x => x.2.2
    checkApply c d (src.getD 0) 36 <|
    check ((lead :: rest).all fun sl => ((tabGet d.enc sl).bind EncSes.force).isNone) stConflict <|
    let f : EncForce :=
      { cmd := c.tag, lead := true, actions := fldBits c.e 32 0 4, apply := fld c.e 36 4, minT := c.ns + 100000
        deferred := false }
    let d := modEnc lead (fun s => { s with force := some f }) d
    .stay (rest.foldl (fun d sl => modEnc sl (fun s => { s with force := some { f with lead := false } }) d) d) .waiting

def execEncForce (t : Nat) (s : State) : Host.Outcome State Fault Refusal :=
  .next (s.mapDev (hostRow specEncForce t encForceBody))

/-- Drop the ENC_FORCE of an abandoned command (08 R256). -/
def discardForce (t : Nat) (d : Dev) : Dev :=
  { d with enc := d.enc.map fun (sl, s) =>
    (sl, if s.force.any fun f => f.cmd == t && !f.deferred then { s with force := none } else s) }

/-- An ENC_FORCE not coded 90 ms after fetch completes, with the first frame triggered that counts for it, and stays pending
(08 R251, 05 R160). -/
def forceDefer (t : Nat) (d : Dev) : Dev :=
  match (d.enc.filterMap fun p => p.2.force).find? (fun f => f.cmd == t && f.lead && !f.deferred), findOutst d t with
  | some f, some c =>
    if d.tu.ns < c.ns + 90000000 then d
    else completeTag (some t) stSuccess (f.hit.getD 0xFFFFFFFF + 2 ^ 32) 0 { d with enc := d.enc.map fun (sl, s) =>
      (sl, { s with force := s.force.map fun f => if f.cmd = t then { f with deferred := true } else f }) }
  | _, _ => d

/-- COMMAND_DEFER_TIMEOUT (05 R160, 08 R251). -/
def commandDeferTimeout (t : Nat) (d : Dev) : Dev := forceDefer t (shadowDefer t d)

def execCommandDeferTimeout (t : Nat) (s : State) : Host.Outcome State Fault Refusal :=
  .next (s.mapDev (commandDeferTimeout t))

/-! ENC_CLOSE (08 R252). -/

def specEncClose : CmdSpec where
  op := .encClose
  layout := [(32, 0, 8)]
  checks e := [(32, decide (fld e 32 1 ≤ 1))]
  handle := .body

/-- The frames a session may still code after a close fetched at an instant: those ready or in progress, no later one. -/
def closeFrames (d : Dev) (s : EncSes) (fetch : Nat) : List Nat :=
  let ready := ((encFrames d s).map fun f => f.fin.frm).filter fun f => begunBy f fetch
  let here := (runningFrm d s.tap).toList.filter fun f => s.skip != some f.num && begunBy f fetch
  (ready ++ here).map Frm.num

/-- A session closes at once: only the DIRECT picture in progress is finished; BUFFERED pictures are discarded (08 R252). -/
def closeNow (s : EncSes) : EncSes :=
  { s with now := true, allow := (s.cur.map EncRow.num).toList, work := none, gop := [] }

def encCloseBody (c : Outst) (d : Dev) : Ans :=
  match encOf d c.e.handle.toNat with
  | none => .fail stInvalidHandle 4 0
  | some (slot, s) =>
    check (!(isTop d s && decide (1 < (ladderSessions d s.ladder).length))) stConflict <|
    let allow := if s.closing.isEmpty then closeFrames d s c.ns else s.allow
    let now := fld c.e 32 1 == 1
    let d := modEnc slot (fun s =>
      let s := { s with closing := s.closing ++ [c.tag], allow }
      if now then closeNow s else s) (if now then encFloor slot 0 d else d)
    .stay (setObjSt s.handle 3 d) .stepped

def execEncClose (t : Nat) (s : State) : Host.Outcome State Fault Refusal :=
  .next (s.mapDev (hostRow specEncClose t encCloseBody))

/-- The end-of-sequence NAL unit of a stream whose last access unit went without it (08 R252). -/
def sendEos (s : EncSes) (d : Dev) : Dev :=
  if eoAv1 s.cfg || s.now || s.eos || s.count = 0 then d
  else
    let num := s.last.getD 0
    let u : AuOut := { num, status := 0, pts := d.tu.ns, rap := false, damaged := false, bytes := eosUnit, segs := segsOf eosUnit.length }
    offerCompressed s.handle 0 num u.pts true eosUnit (offerRec s.handle u d)

/-- ENC_CLOSE_DONE: no frame is left to code. -/
def encCloseDone (slot : Nat) (d : Dev) : Dev :=
  match tabGet d.enc slot with
  | none => d
  | some s =>
    let busy := s.cur.isSome || !(encFrames d s).isEmpty || (runningFrame d s.tap).any fun n => s.allow.contains n
    if s.closing.isEmpty || busy then d else encRemove slot stSuccess (sendEos s d)

def execEncCloseDone (ses : Nat) (s : State) : Host.Outcome State Fault Refusal :=
  .next (s.mapDev (encCloseDone ses))

/-- Thermal shedding closes one session as IMMEDIATE: a DIRECT picture in progress is finished first (08 R255, R256). -/
def encShedOne (slot : Nat) (d : Dev) : Dev := 
  shedEnd slot (modEnc slot (fun s => { closeNow s with shed := true }) (encFloor slot 0 d))

/-- Thermal shedding of a session; a top takes its remaining members with it (08 R256). -/
def encShed (slot : Nat) (d : Dev) : Dev :=
  match tabGet d.enc slot with
  | none => d
  | some s =>
    let rest := if isTop d s then ((ladderSessions d s.ladder).map (·.1)).filter (· != slot) else []
    encShedOne slot (rest.foldl (fun d sl => encShedOne sl d) d)

end Sys2Proof.Machine
end

