-- ==== Sys2Proof/Machine/HolmRead.lean ====
section
/-!
DEFINITION. Machine/HolmRead.lean: reading a Holm Raw access unit (09 R257-R263, R277), with concealment
of damaged tiles (10 R291, R292).
-/
namespace Sys2Proof.Machine

/-- Bits of bytes, most significant first (09 R257). -/
def bitsOfBytes (l : List Byte) : List Bool := l.flatMap fun b => (List.range 8).map fun i => b.getLsbD (7 - i)

/-- The next n bits as a number; none where they run out. -/
def readBits : Nat → List Bool → Option (Nat × List Bool)
  | 0, l => some (0, l)
  | _ + 1, [] => none
  | n + 1, b :: l => (readBits n l).map fun (v, r) => (v + b2n b * 2 ^ n, r)

/-- One-bits, at most as many as the fuel, up to the zero-bit that ends them. -/
def readOnes : Nat → List Bool → Option (Nat × List Bool)
  | 0, l => some (0, l)
  | _ + 1, [] => none
  | _ + 1, false :: l => some (0, l)
  | n + 1, true :: l => (readOnes n l).map fun (v, r) => (v + 1, r)

/-- A residual code (09 R263). -/
def readResidual (k : Nat) (l : List Bool) : Option (Int × List Bool) :=
  match readOnes 24 l with
  | none => none
  | some (u, l) =>
    let m := if u < 24 then (readBits k l).map fun (v, r) => (u * 2 ^ k + v, r) else readBits 17 l
    m.map fun (m, r) => (if m % 2 = 0 then ((m / 2 : Nat) : Int) else -(((m + 1) / 2 : Nat) : Int), r)

/-- One sample of a block. -/
def readSample (t : Tile) (mode qi k x y : Nat) (img : Array Int) (l : List Bool) : Option (Int × List Bool) :=
  let p := holmPred t img x y
  match mode with
  | 0 =>
    let delta := holmStep t.bits qi
    (readResidual k l).map fun (q, r) => (max 0 (min (2 ^ t.bits - 1) (p + q * (2 * delta + 1))), r)
  | 1 => some (p, l)
  | _ => (readBits t.bits l).map fun (v, r) => ((v : Int), r)

/-- One block (09 R263); MODE 3 damages the tile (09 R277). -/
def readBlock (t : Tile) (bx bj : Nat) (img : Array Int) (l : List Bool) : Option (Array Int × List Bool) :=
  match readBits 2 l with
  | none => none
  | some (mode, l) =>
    let head := if mode = 0 then (readBits 8 l).map fun (v, r) => (v / 16, v % 16, r) else some (0, 0, l)
    match head with
    | none => none
    | some (qi, k, l) =>
      if mode = 3 then none
      else (blockSamples t bx bj).foldl
        (fun (acc : Option (Array Int × List Bool)) (x, y) =>
          acc.bind fun (img, l) =>
            (readSample t mode qi k x y img l).map fun (v, r) => (img.setIfInBounds (y * t.w + x) v, r)) (some (img, l))

/-- The samples of a tile from its payload. -/
def tileFrom (t : Tile) (payload : List Byte) : Option (Array Int) :=
  let bw := divUp t.w 32
  ((List.range (bw * divUp t.h 8)).foldl
    (fun (acc : Option (Array Int × List Bool)) k => acc.bind fun (img, l) => readBlock t (k % bw) (k / bw) img l)
    (some (Array.replicate (t.w * t.h) 0, bitsOfBytes payload))).map (·.1)

/-- What a header says (09 R258). -/
structure HolmHead where
  geo     : Geo
  frm     : Frm
  cw      : Nat
  ch      : Nat
  streams : List Nat
  axis    : List Byte
  /-- where the tile index begins -/
  index   : Nat
  auBytes : Nat

/-- A header that passes its checks: SYNC, VERSION 1 and HDR_CHECK (09 R277). -/
def readHead (l : List Byte) : Option HolmHead :=
  let axisLen := le l 54 2
  let embLen := le l 56 4
  let n := divUp (128 + axisLen + embLen) 4 * 4
  if l.take 4 != [0x48, 0x4F, 0x4C, 0x4D] || le l 4 1 != 1 || l.length < n + 4 ||
      le l n 4 != (crc32c (l.take n)).toNat then none
  else
    let streams := (List.range 2).filter fun s => bitOf (le l 50 1) s
    let geo : Geo := { bits := le l 7 1, streams := if bitOf (le l 50 1) 1 then 2 else 1, samples := le l 44 2, height := le l 46 2 }
    let tm : Timing := { eo := le l 32 4, ed := le l 36 4, ls := le l 40 4 }
    let start := bitsOf (le l 16 8) 0 48 * 1000000000 + le l 24 4
    let frm : Frm :=
      { port := le l 53 1, num := le l 8 4, t := start - tm.eo, tm, status := le l 12 4, lines := [], next0 := 0, next1 := 0
        emb := [], filled := 0, lastNs := 0, delayed := false, crcErrs := 0, fe := [] }
    some { geo, frm, cw := le l 48 1, ch := le l 49 1, streams, axis := (l.drop 128).take axisLen, index := n + 4
           auBytes := le l 60 4 }

/-- A tile read and checked: its samples, or none where it is damaged (09 R277). -/
def readTileAt (l : List Byte) (h : HolmHead) (ix s tx ty : Nat) : Option (Array Int) :=
  let at' := le l (h.index + 4 * ix) 4
  let b := l.drop at'
  let n := le b 12 4
  let w := tileW h.geo tx
  let th := tileH h.geo ty
  if b.length < 20 + n || b.take 2 != [0x48, 0x54] || le b (16 + n) 4 != (crc32c (b.take (16 + n))).toNat ||
      le b 2 1 != s || le b 3 1 != tx || le b 4 1 != ty || le b 6 2 + 1 != w || le b 8 2 + 1 != th then none
  else tileFrom { w, h := th, bits := h.geo.bits, cw := h.cw, ch := h.ch, v := fun _ _ => 0 } ((b.drop 16).take n)

/-- The tiles of an access unit in index order: stream, column and row. -/
def tileOrder (g : Geo) (streams : List Nat) : List (Nat × Nat × Nat) :=
  (List.range (tilesY g)).flatMap fun ty => (List.range (tilesX g)).flatMap fun tx => streams.map fun s => (s, tx, ty)

/-- The co-located samples that conceal a tile, and its entry of the error map (10 R292, R297). -/
def concealTile (prev : Option (Geo × Frm)) (g : Geo) (s tx ty : Nat) : Array Int × Nat :=
  let w := tileW g tx
  let th := tileH g ty
  match prev with
  | some (pg, pf) =>
    if pg = g then
      (((List.range th).flatMap fun y => (((codesOf pf g pf.fe s (256 * ty + y)).2.drop (1024 * tx)).take w).map
        fun (c : Nat) => (c : Int)).toArray, 1)
    else (Array.replicate (w * th) (2 ^ (g.bits - 1)), 2)
  | none => (Array.replicate (w * th) (2 ^ (g.bits - 1)), 2)

/-- Line y of a stream from the tiles of its row. -/
def tileLine (g : Geo) (tiles : List ((Nat × Nat × Nat) × Array Int)) (s y : Nat) : List Nat :=
  (List.range (tilesX g)).flatMap fun tx =>
    match tiles.find? fun t => t.1 == (s, tx, y / 256) with
    | none => []
    | some t => (List.range (tileW g tx)).map fun x => (t.2.getD (y % 256 * tileW g tx + x) 0).toNat

/-- Where a tile of an access unit lies: its index entry, and its bytes. -/
def tileExtent (l : List Byte) (h : HolmHead) (ix : Nat) : (Nat × Nat) × (Nat × Nat) :=
  let at' := le l (h.index + 4 * ix) 4
  ((h.index + 4 * ix, 4), (at', 20 + le (l.drop at') 12 4))

/-- The tiles of an access unit that lie where they should and fail TILE_CHECK (11 R303, R311). -/
def tileMismatches (l : List Byte) (h : HolmHead) : Nat :=
  (List.range (tileOrder h.geo h.streams).length).countP fun ix =>
    let b := l.drop (tileExtent l h ix).2.1
    let n := le b 12 4
    decide (20 + n ≤ b.length) && b.take 2 == [0x48, 0x54] && !holmCheckOk (b.take (20 + n))

/-- A frame read from an access unit: concealed where tiles are damaged or lost, with its error map. -/
def readHolm (l : List Byte) (h : HolmHead) (prev : Option (Geo × Frm)) (lost : Nat → Bool) : Frm × List Nat :=
  let g := h.geo
  let tiles := (tileOrder g h.streams).zipIdx.map fun ((s, tx, ty), ix) =>
    match (if lost ix then none else readTileAt l h ix s tx ty) with
    | some img => ((s, tx, ty), img, 0)
    | none => let (img, e) := concealTile prev g s tx ty; ((s, tx, ty), img, e)
  let imgs := tiles.map fun t => (t.1, t.2.1)
  let lines := h.streams.flatMap fun s => (List.range (g.height + 1)).map fun y => (s, y, packLine g.bits (tileLine g imgs s y))
  ({ h.frm with lines, next0 := g.height + 1, next1 := g.height + 1 }, tiles.map fun t => t.2.2)

/-- Input up to the next header that checks, and how many bytes lie before it (10 R288, R291). -/
def findHead : List Byte → Option (Nat × HolmHead)
  | [] => none
  | b :: l => match readHead (b :: l) with
    | some h => some (0, h)
    | none => (findHead l).map fun (n, h) => (n + 1, h)

end Sys2Proof.Machine
end

