-- ==== Sys2Proof/Machine/DecBits.lean ====
section
/-!
DEFINITION. Machine/DecBits.lean: the units of HEVC and AV1 byte streams, what the decoder accepts, the lost
areas of a picture and their concealment (10 R279, R280, R288, R291-R293, R297).
-/
namespace Sys2Proof.Machine

/-! Units of a run of input (10 R288, R291). -/

/-- A NAL unit or an OBU: where it begins in the run, its bytes as far as none is lost, and whether that is all of it. -/
structure CodedUnit where
  at'   : Nat
  bytes : List Byte
  whole : Bool

/-- Where the first lost byte lies in a stretch; holes are offset and length. -/
def lostFrom (holes : List (Nat × Nat)) (a b : Nat) : Option Nat :=
  (holes.filter fun (o, n) => decide (0 < n) && decide (o < b) && decide (a < o + n)).foldl
    (fun (m : Option Nat) x => match m with
      | none => some x.1
      | some k => some (min k x.1)) none

/-- The unit in a stretch of a run; none where it begins in lost bytes. -/
def unitAt (holes : List (Nat × Nat)) (run : List Byte) (a b : Nat) : Option CodedUnit :=
  let e := (lostFrom holes a b).getD b
  if e ≤ a then none else some { at' := a, bytes := (run.drop a).take (e - a), whole := e == b }

/-- Offsets just past each start code of Annex B. -/
def startCodes : Nat → List Byte → List Nat
  | i, a :: b :: c :: l => (if a == 0 && b == 0 && c == 1 then [i + 3] else []) ++ startCodes (i + 1) (b :: c :: l)
  | _, _ => []

/-- The NAL units of a run. -/
def nals (holes : List (Nat × Nat)) (run : List Byte) : List CodedUnit :=
  let s := startCodes 0 run
  (s.zip ((s.drop 1).map (· - 3) ++ [run.length])).filterMap fun (a, b) => unitAt holes run a b

def nalKind (u : CodedUnit) : Nat := bitsOf (le u.bytes 0 1) 1 6
def nalTid (u : CodedUnit) : Nat := le u.bytes 1 1 % 8 - 1

/-- A NAL unit of the base layer whose header can be parsed (10 R279, R291). -/
def nalOk (u : CodedUnit) : Bool :=
  decide (2 ≤ u.bytes.length) && decide (le u.bytes 0 1 < 128) && le u.bytes 0 1 % 2 == 0 && decide (1 ≤ le u.bytes 1 1) &&
  decide (le u.bytes 1 1 < 8)

/-- A slice segment. -/
def isSlice (u : CodedUnit) : Bool := nalOk u && decide (nalKind u < 32)

/-- A NAL unit ahead of the first slice of an access unit: delimiter, parameter set, prefix SEI, or reserved for that place. -/
def opensUnit (u : CodedUnit) : Bool :=
  let k := nalKind u
  nalOk u && (decide (32 ≤ k) && decide (k ≤ 35) || k == 39 || decide (41 ≤ k) && decide (k ≤ 44) ||
    decide (48 ≤ k) && decide (k ≤ 55))

/-- Where the access unit at the front of a run ends: at the delimiter or first slice of the next (10 R288). -/
def hevcEnd : Bool → List CodedUnit → Option Nat
  | _, [] => none
  | seen, u :: l =>
    if isSlice u then (if seen && 128 ≤ le u.bytes 2 1 then some (u.at' - 3) else hevcEnd true l)
    else if seen && opensUnit u then some (u.at' - 3)
    else hevcEnd seen l

/-- A number in leb128, with its bytes; n bounds them. -/
def readLeb : Nat → List Byte → Option (Nat × Nat)
  | 0, _ => none
  | _, [] => none
  | n + 1, b :: l =>
    if b.toNat < 128 then some (b.toNat, 1) else (readLeb n l).map fun (v, k) => (b.toNat - 128 + 128 * v, k + 1)

def obuKind (u : CodedUnit) : Nat := bitsOf (le u.bytes 0 1) 3 4

/-- The OBUs of a run from an offset, and where a header cannot be parsed; n bounds them. -/
def obus (holes : List (Nat × Nat)) (run : List Byte) : Nat → Nat → List CodedUnit × Option Nat
  | 0, o => ([], some o)
  | n + 1, o =>
    if run.length ≤ o then ([], none)
    else
      let b := le (run.drop o) 0 1
      let h := 1 + bitsOf b 2 1
      match readLeb 8 (run.drop (o + h)) with
      | none => ([], some o)
      | some (v, k) =>
        if 128 ≤ b || !(bitOf b 1) || (lostFrom holes o (o + h + k)).isSome then ([], some o)
        else
          let e := min (o + h + k + v) run.length
          let r := obus holes run n e
          ((unitAt holes run o e).toList ++ r.1, r.2)

/-- A run that begins with an OBU without a size (10 R279). -/
def noSize (run : List Byte) : Bool := let b := le run 0 1; !run.isEmpty && decide (b < 128) && !bitOf b 1

/-- The next temporal delimiter from an offset. -/
def findDelimiter : Nat → List Byte → Option Nat
  | i, a :: b :: l => if a == 0x12 && b == 0 then some i else findDelimiter (i + 1) (b :: l)
  | _, _ => none

/-- Where the temporal unit at the front of a run ends (10 R288, R291). -/
def av1End (holes : List (Nat × Nat)) (run : List Byte) : Option Nat :=
  let (l, bad) := obus holes run run.length 0
  match l.find? fun u => obuKind u == 2 && decide (0 < u.at') with
  | some u => some u.at'
  | none => bad.bind fun o => findDelimiter (o + 1) (run.drop (o + 1))

/-- The OBUs of each frame of a temporal unit: a frame or a frame header, and the tile groups after it. -/
def frameGroups : List CodedUnit → List (List CodedUnit)
  | [] => []
  | u :: l =>
    if obuKind u = 3 || obuKind u = 6 then (u :: l.takeWhile fun x => obuKind x == 4 || obuKind x == 7) :: frameGroups l
    else frameGroups l

/-! What is accepted, and how pictures are held (10 R279, R280, R290). -/

/-- The constraint flags of Main 4:2:2 10 and of Main 4:4:4 10 in H.265: max_12bit, max_10bit, max_8bit, max_422chroma,
max_420chroma, max_monochrome, intra, one_picture_only, lower_bit_rate (PRESUMED, log 101). -/
def tenBit422 : List Bool := [true, true, false, true, false, false, false, false, true]
def tenBit444 : List Bool := [true, true, false, false, false, false, false, false, true]

/-- R279 takes the sequence: its profile, its level and its tools. -/
def accepted (av1 : Bool) (h : SeqHead) : Bool :=
  !h.extra &&
  (if av1 then decide (h.profile ≤ 1) && (decide (h.level ≤ 19) || h.level == 31)
    else (h.profile == 1 || h.profile == 2 || (h.profile == 4 && (h.limits == tenBit422 || h.limits == tenBit444))) &&
      (decide (h.level ≤ 186) || h.level == 255))

/-- The held format of a sequence, 0xFF for none (10 R280). A sequence without chroma is held as 4:2:0 (DESIGN CHOICE, log 102). -/
def heldFormat (h : SeqHead) : Nat :=
  let n := max h.depthY h.depthC
  if 10 < n then 0xFF
  else match h.chroma with
    | 2 => 0x13
    | 3 => 0x14
    | _ => if n ≤ 8 then 0x10 else 0x11

/-- Why a sequence is unsupported in a session, 0 where it is not (10 R290): the session's MAX_W, MAX_H, FORMAT and DPB_FRAMES. -/
def unsupported (av1 : Bool) (maxW maxH fmt dpb : Nat) (h : SeqHead) : Nat :=
  if maxW + 1 < h.width || maxH + 1 < h.height then 1
  else if fmt < heldFormat h then 2
  else if dpb + 1 < h.pool then 3
  else if !accepted av1 h then 4
  else 0

/-- Luma samples across and down that a sample of a component covers. -/
def compStep (h : SeqHead) (k : Nat) : Nat × Nat :=
  if k = 0 || h.chroma = 3 then (1, 1) else if h.chroma = 2 then (2, 1) else (2, 2)

/-- Bit depth of a component. -/
def compDepth (h : SeqHead) (k : Nat) : Nat := if k = 0 then h.depthY else h.depthC

/-- Samples of a component across and down. -/
def compSize (h : PicHead) (k : Nat) : Nat × Nat :=
  let s := compStep h.seq k
  (divUp h.width s.1, divUp h.height s.2)

/-- Mid-grey in every component (10 R292). -/
def greyComps (h : PicHead) : List (List Nat) :=
  (List.range 3).map fun k => List.replicate ((compSize h k).1 * (compSize h k).2) (2 ^ (compDepth h.seq k - 1))

/-- A code in the container of the held format: in 10-bit formats the code fills ten bits from the top, in [15:6] (10 R280, 07
R213). -/
def heldCode (fmt depth code : Nat) : List Byte :=
  if fmt = 0x10 then toLE 1 code else toLE 2 (code * 2 ^ (10 - depth) * 64)

/-- The planes of a picture in its held format (10 R280). -/
def heldPlanes (h : PicHead) (comps : List (List Nat)) : List Byte :=
  let fmt := heldFormat h.seq
  let at' (k x y : Nat) : List Byte :=
    heldCode fmt (compDepth h.seq k) ((((comps[k]?).getD [])[y * (compSize h k).1 + x]?).getD 0)
  let rows (k : Nat) (f : Nat → Nat → List Byte) : List Byte :=
    let l := (List.range (compSize h k).2).map fun y => (List.range (compSize h k).1).flatMap fun x => f x y
    layRows ((l.headD []).length) l
  if fmt = 0x14 then rows 0 (at' 0) ++ rows 1 (at' 1) ++ rows 2 (at' 2)
  else rows 0 (at' 0) ++ rows 1 fun x y => at' 1 x y ++ at' 2 x y

/-! Lost areas and their concealment (10 R291, R292, R297). -/

/-- The stretches of CTUs or superblocks that are lost, in the order of the tiles: between parts, and from an error to the next
part at which decoding goes on. -/
def lostParts (run : PartHead → Nat × Bool) (total : Nat) : Nat → Bool → List PartHead → List (Nat × Nat)
  | pos, _, [] => if pos < total then [(pos, total)] else []
  | pos, broken, q :: l =>
    if broken && !q.restart then lostParts run total pos true l
    else
      let r := run q
      (if pos < q.start then [(pos, q.start)] else []) ++ lostParts run total (max q.start r.1) (!r.2) l

/-- A part's bytes, as far as its unit has them. -/
def partBytes (units : List CodedUnit) (q : PartHead) : List Byte := ((((units[q.unit]?).map CodedUnit.bytes).getD []).drop q.off).take q.len

/-- How a part decodes: data that run out do not end where they should. -/
def runPart (h : PicHead) (units : List CodedUnit) (q : PartHead) : Nat × Bool :=
  let b := partBytes units q
  let r := Config.decodePart h q.start b
  (r.1, r.2 && b.length == q.len)

/-- Places of the CTUs or superblocks of a picture in the order of its tiles. -/
def scanPlaces (columns rows : List Nat) : List (Nat × Nat) :=
  let starts (l : List Nat) : List (Nat × Nat) := (List.range l.length).map fun i => ((l.take i).foldl (· + ·) 0, (l[i]?).getD 0)
  (starts rows).flatMap fun r => (starts columns).flatMap fun c =>
    (List.range r.2).flatMap fun y => (List.range c.2).map fun x => (c.1 + x, r.1 + y)

/-- The CTUs or superblocks of a picture that are lost; those not decoded when an engine met a fault are lost too (10 R299). -/
def lostBlocks (h : PicHead) (units : List CodedUnit) (fault : Option Nat) : List (Nat × Nat) :=
  let places := scanPlaces h.columns h.rows
  let n := places.length
  let l := lostParts (runPart h units) n 0 false h.parts ++ (match fault with
    | some k => [(k, n)]
    | none => [])
  (places.zipIdx.filter fun (_, i) => l.any fun (a, b) => decide (a ≤ i) && decide (i < b)).map (·.1)

/-- 64 x 64 units of a picture across and down (10 R297). -/
def mapSize (h : PicHead) : Nat × Nat := (divUp h.width 64, divUp h.height 64)

/-- A luma sample lies in a lost block, or in a unit lost to a memory error. -/
def sampleLost (h : PicHead) (blocks : List (Nat × Nat)) (units : List Nat) (x y : Nat) : Bool :=
  blocks.contains (x / 2 ^ h.seq.unit, y / 2 ^ h.seq.unit) || units.contains (y / 64 * (mapSize h).1 + x / 64)

/-- A unit has a lost sample. -/
def unitLost (h : PicHead) (blocks : List (Nat × Nat)) (units : List Nat) (n : Nat) : Bool :=
  let x := n % (mapSize h).1
  let y := n / (mapSize h).1
  units.contains n || blocks.any fun b =>
    decide (b.1 * 2 ^ h.seq.unit < 64 * (x + 1)) && decide (64 * x < (b.1 + 1) * 2 ^ h.seq.unit) &&
    decide (b.2 * 2 ^ h.seq.unit < 64 * (y + 1)) && decide (64 * y < (b.2 + 1) * 2 ^ h.seq.unit)

/-- Lost samples copied from the co-located samples of a picture, or mid-grey (10 R292). -/
def conceal (h : PicHead) (lost : Nat → Nat → Bool) (from' : List (List Nat)) (comps : List (List Nat)) : List (List Nat) :=
  comps.zipIdx.map fun (l, k) =>
    let src := (from'[k]?).getD []
    let w := max 1 (compSize h k).1
    let s := compStep h.seq k
    l.zipIdx.map fun (v, i) => if lost (i % w * s.1) (i / w * s.2) then (src[i]?).getD v else v

/-! Pool pictures (10 R290, R293). -/

/-- Output positions apart. -/
def pocGap (a b : Int) : Nat := (a - b).natAbs

/-- The available pool picture nearest in output order to a position, the earlier on a tie (10 R293). -/
def nearestPic (pool : List PoolPic) (poc : Int) : Option PoolPic :=
  (pool.filter fun x => !x.lost).foldl (fun (b : Option PoolPic) x => match b with
    | none => some x
    | some y =>
      if pocGap x.poc poc < pocGap y.poc poc || (pocGap x.poc poc = pocGap y.poc poc && x.poc < y.poc) then some x else b) none

/-- A reference of a picture: the pool picture that stands for it, none for mid-grey, and whether it is a substitute. -/
structure ActRef where
  pic   : Option PoolPic
  subst : Bool

/-- A reference, or its substitute where it was never received or is lost: what position it had, where that is known (10 R293). -/
def actRef (pool : List PoolPic) (cur : Int) (found : Option PoolPic) (at' : Option Int) : ActRef :=
  match found with
  | some x => if x.lost then { pic := nearestPic pool x.poc, subst := true } else { pic := some x, subst := false }
  | none => { pic := nearestPic pool (at'.getD cur), subst := true }

/-- POC of a picture of H.265 from its lsb and the POC it counts from. -/
def pocOf (prev : Int) (bits lsb : Nat) : Int :=
  let m : Int := 2 ^ bits
  let pl := prev % m
  let l : Int := lsb
  if l < pl && m ≤ 2 * (pl - l) then prev - pl + m + l
  else if pl < l && m < 2 * (l - pl) then prev - pl - m + l
  else prev - pl + l

/-- A long-term reference of H.265: the whole POC, or its lsb. -/
def isLongRef (bits : Nat) (r : Nat × Bool × Bool) (poc : Int) : Bool :=
  if r.2.1 then poc == (r.1 : Int) else poc % (2 ^ bits : Int) == (r.1 : Int)

end Sys2Proof.Machine
end

