-- ==== Sys2Proof/Machine/DecodeSes.lean ====
section
/-!
DEFINITION. Machine/DecodeSes.lean: decode sessions: admission, input, references and output order,
presentation and its records, and engine faults (10). The syntax of HEVC and AV1 rests on their standards,
as opaque functions of the bytes; what the spec makes of it stands here.
-/
namespace Sys2Proof.Machine

/-! Fields of DEC_OPEN (10 R284). -/

def doCodec (c : List Byte) : Nat := le c 0 1
def doHolm (c : List Byte) : Bool := doCodec c == 2
def doAny (c : List Byte) : Bool := le c 1 1 == 1
def doPts (c : List Byte) : Bool := le c 2 1 == 1
def doHost (c : List Byte) : Bool := bitOf (le c 3 1) 0
def doHead (c : List Byte) : Bool := bitOf (le c 3 1) 1
def doIsle (c : List Byte) : Bool := bitOf (le c 3 1) 2
def doRt (c : List Byte) : Bool := doHead c || doIsle c
def doMaxW (c : List Byte) : Nat := le c 4 2
def doMaxH (c : List Byte) : Nat := le c 6 2
def doFps (c : List Byte) : Nat := le c 8 2
def doDpb (c : List Byte) : Nat := le c 10 1
def doOut (c : List Byte) : Nat := le c 11 1
def doFormat (c : List Byte) : Nat := le c 12 1
def doPort (c : List Byte) : PortId := portOf (le c 13 1)
def doIsleOf (c : List Byte) : Nat := le c 14 1
def doPrio (c : List Byte) : Nat := le c 15 1
def doKbps (c : List Byte) : Nat := le c 16 4
def doBuf (c : List Byte) : Nat := le c 20 4
def doOffset (c : List Byte) : Int := signed 64 (le c 24 8)
def doRing (c : List Byte) : Bool := le c 32 8 != 0
def doSlots (c : List Byte) : Nat := le c 42 2
def doVector (c : List Byte) : Nat := le c 44 2
def doPics (c : List Byte) : Bool := le c 46 1 == 1

def modDec (slot : Nat) (f : DecSes → DecSes) (d : Dev) : Dev := { d with dec := tabMod d.dec slot f }
def decOf (d : Dev) (h : Nat) : Option (Nat × DecSes) := d.dec.find? fun p => p.2.handle == h

/-- Planes of a held format; a Holm Raw picture holds one plane for each of its streams (10 R280, 07 R213). -/
def heldShape (fmt w h streams : Nat) : List (Nat × Nat) := planeShape fmt w h 16 streams

/-- Slot stride of a session's ring (10 R296). -/
def decStride (c : List Byte) : Nat :=
  divUp (12288 + (if doPics c then planesBytes (heldShape (doFormat c) (doMaxW c + 1) (doMaxH c + 1) 1) else 0)) 4096 * 4096

/-! DEC_OPEN (10 R284-R286). -/

/-- Step 1 of R22: ranges and combinations (10 R284, R285). The ranges of the ring hold without a ring too (DEDUCED, log 99). -/
def decValid (c : List Byte) : Bool :=
  let holm := doHolm c
  decide (doCodec c ≤ 2) && decide (le c 1 1 ≤ 1) && decide (le c 2 1 ≤ 1) && decide (1 ≤ le c 3 1) && decide (le c 3 1 ≤ 7) &&
  !(doHead c && doIsle c) && (!doIsle c || holm) && (doHost c == doRing c) &&
  (if holm then decide (255 ≤ doMaxW c) && decide (doMaxW c ≤ 32767) else decide (127 ≤ doMaxW c) && decide (doMaxW c ≤ 16383)) &&
  (if holm then decide (15 ≤ doMaxH c) && decide (doMaxH c ≤ 16383) else decide (63 ≤ doMaxH c) && decide (doMaxH c ≤ 8703)) &&
  decide (1 ≤ doFps c) && decide (doFps c ≤ 1000) &&
  (match doCodec c with
    | 0 => decide (doDpb c ≤ 15)
    | 1 => doDpb c == 8
    | _ => decide (doDpb c ≤ 1)) &&
  decide (1 ≤ doOut c) && decide (doOut c ≤ 7) &&
  (if holm then doFormat c == 0x21 else [0x10, 0x11, 0x13, 0x14].contains (doFormat c)) &&
  (if doIsle c then decide (le c 13 1 < 4) && decide (doIsleOf c < 4) && doIsleOf c != le c 13 1
    else le c 13 1 == 0 && doIsleOf c == 0) &&
  decide (1 ≤ doKbps c) && doBuf c % 4096 == 0 && decide (1048576 ≤ doBuf c) &&
  decide (1 ≤ doSlots c) && decide (doSlots c ≤ 0xFF) && decide (doVector c ≤ 2047) && decide (le c 46 1 ≤ 1) &&
  le c 32 8 % 16 == 0 && zeroAt c 47 81 &&
  (!doRt c || decide ((doMaxW c + 1) * (doMaxH c + 1) * doFps c ≤ 2000000000))

/-- Reference storage per pixel, in eighths of a byte (08 R248, 10 R286). -/
def decEighths (fmt : Nat) : Nat := if fmt = 0x21 then 16 else fmtEighths fmt

/-- Free rate of a decode engine (10 R281). -/
def decFree (d : Dev) (e : Nat) : Nat := if gatedUnit d rcDec e then 0 else 2000 - heldOf d rcDec e

/-- Best fit for an RT1 session (10 R281, 08 R231). -/
def placeDec (d : Dev) (need : Nat) : Option Nat :=
  ([0, 1].filter fun e => decide (need ≤ decFree d e) && !gatedUnit d rcDec e).foldl (fun (b : Option Nat) e => match b with
    | none => some e
    | some x => if decFree d e < decFree d x then some e else b) none

/-- What a session reserves (10 R286). -/
def decWants (c : List Byte) (engine : Option Nat) : List (Nat × Nat × Nat) :=
  let a := (doMaxW c + 1) * (doMaxH c + 1)
  let r := doFps c
  let s := decEighths (doFormat c)
  let n := doDpb c + 1 + (doOut c + 1)
  let rate := divUp (a * r) 1000000
  let refs := if doHolm c then 2 else 4
  (if doIsle c then [(rcIsle, doIsleOf c, divUp (a * r + 8192 * divUp (doMaxH c + 1) 16 * r) 1000000)] else []) ++
  (match engine with
    | some e => [(rcDec, e, rate)]
    | none => []) ++
  [(rcDecSes, unitAll, 1)] ++
  (if doRt c then [(rcHbmBw, unitAll, divUp (r * a * s * refs + 2 * doKbps c * 125 * 8) 8000000)] else []) ++
  [(rcHbmCap, unitAll, divUp (n * a * s + 8 * doBuf c) (8 * 2 ^ 20)), (rcLagoon, unitAll, 128)] ++
  (if doRt c then [(rcHost, 0, if doRing c then divUp (decStride c * r) 1000000 else 0),
    (rcPower, unitAll, divUp rate 2)] else [])

def specDecOpen : CmdSpec where
  op := .decOpen
  layout := []
  data := structData 128
  inner e :=
    let c := fit 128 e.data
    if !decValid c then some stInvalidField
    else if doRing c && decide (e.ringBytes < (doSlots c + 1) * decStride c) then some stLength else none

/-- The Isle and the port context are free to be played into (10 R283, R285). -/
def playFree (d : Dev) (c : List Byte) : Bool :=
  let p := doPort c
  isleAvail d (doIsleOf c) && !(port d p).enabled && !capturing d p && (port d p).play.isNone

/-- The port context of a session that plays into an Isle (10 R283). -/
def startPlay (c : List Byte) (slot : Nat) (d : Dev) : Dev :=
  if doIsle c then
    modPort (doPort c) (fun k => { k with
      play := some slot, playDrop := 0, isle := doIsleOf c, memory := true, area := [], bits := 16, streams := 1
      samples := doMaxW c, height := doMaxH c, emb := 0 }) d
  else d

def decOpenBody (c : Outst) (d : Dev) : Ans :=
  let cfg := fit 128 c.e.data
  check (decide (d.pwr.state < 2) && (!doIsle cfg || playFree d cfg)) stConflict <|
  if doIsle cfg && 3 ≤ memoryBindings d (doIsleOf cfg) (doPort cfg) then
    .fail stExhausted 0xFF (resExt rcIsle (doIsleOf cfg) 1 0)
  else
    let need := divUp ((doMaxW cfg + 1) * (doMaxH cfg + 1) * doFps cfg) 1000000
    let engine := if doRt cfg then placeDec d need else none
    if doRt cfg && engine.isNone then
      .fail stExhausted 0xFF (resExt rcDec unitAll (max 1 (need - max (decFree d 0) (decFree d 1))) (decFree d 0 + decFree d 1))
    else match freeSlot d 8 16 with
      | none => .fail stExhausted 0xFF (resExt rcDecSes unitAll 1 0)
      | some slot =>
        let (hd, d) := openObj 8 slot c.qp 1 d
        withAdmission hd (doRt cfg) false (decWants cfg engine) d fun d =>
          let ses : DecSes := { handle := hd, cfg, engine }
          okAns (startPlay cfg slot { d with dec := tabSet d.dec slot ses }) (res := hd) (ext := engine.getD 0xFF)

def execDecOpen (t : Nat) (s : State) : Host.Outcome State Fault Refusal :=
  .next (s.mapDev (hostRow specDecOpen t decOpenBody))

/-! Input (10 R287-R289). -/

/-- Free bytes of a session's input buffer. -/
def inFree (s : DecSes) : Nat := doBuf s.cfg - (s.input.map fun x => x.bytes.length).foldl (· + ·) 0

def noGeo : Geo := { bits := 0, streams := 0, samples := 0, height := 0 }

/-- What an EOS has in place of a picture. -/
def noPic : DecPic :=
  { width := 0, height := 0, format := 0, picType := 0, crop := [], errMap := [], substRef := false, filmGrain := false
    memErr := false, fault := false }

/-- The pool's pictures that wait go out, least POC first; n bounds them (10 R290, R294). -/
def bumpAll : Nat → DecSes → DecSes
  | 0, s => s
  | n + 1, s =>
    match (s.pool.filter PoolPic.wait).foldl (fun (b : Option PoolPic) x => match b with
      | none => some x
      | some y => if x.poc < y.poc then some x else b) none with
    | none => s
    | some x => bumpAll n { s with
        outq := s.outq ++ [x.out]
        pool := s.pool.map fun y => if y.out.id = x.out.id then { y with wait := false } else y }

/-- Pictures that neither wait for output nor serve as references leave the pool. -/
def tidyPool (s : DecSes) : DecSes := { s with pool := s.pool.filter fun x => x.wait || x.mark != 0 || !x.slots.isEmpty }

/-- DISCONTINUITY: what waits goes out, and every reference is unused (10 R294). -/
def dropRefs (s : DecSes) : DecSes := { bumpAll s.pool.length s with pool := [], start := true, prev := none }

/-- EOS: what waits goes out, and then a record of its own (10 R294). -/
def endStream (now ep : Nat) (x : DecIn) (s : DecSes) : DecSes :=
  let s := bumpAll s.pool.length s
  let o : DecOut :=
    { id := s.made, seq := x.seq, tag := x.tag, status := 64, p := 0, doneNs := now, pic := noPic, planes := [], axis := []
      frm := none, geo := noGeo, eos := true, ep }
  { s with start := true, made := s.made + 1, outq := s.outq ++ [o] }

/-- DISCONTINUITY and EOS as the decoder reaches them, at the front of its input (10 R294). -/
def reachMarks (now ep : Nat) (s : DecSes) : List DecIn → DecSes
  | [] => { s with input := [] }
  | x :: l =>
    let s := if x.disc then dropRefs s else s
    if !x.bytes.isEmpty then { s with input := { x with disc := false } :: l }
    else reachMarks now ep (if x.eos then endStream now ep x s else s) l

/-- The marks at the front of a session's input take effect. -/
def atMarks (d : Dev) (s : DecSes) : DecSes := reachMarks d.tu.ns d.pcie.epoch s s.input

/-! The session's HBM buffer: its pool and output pictures, then the input (10 R286; places: log 86). -/

/-- Bytes of a stored picture. -/
def storedBytes (c : List Byte) : Nat := (doMaxW c + 1) * (doMaxH c + 1) * decEighths (doFormat c) / 8

/-- Pictures for which the buffer has room (10 R286). -/
def decPlaces (c : List Byte) : Nat := doDpb c + 1 + (doOut c + 1)

/-- Who reads and writes for a session. -/
def decUser (s : DecSes) : MemUser := { handle := s.handle, cls := if doRt s.cfg then 1 else 2, frame := s.made }

/-- Device address of a picture's place. -/
def decAddr (d : Dev) (s : DecSes) (place : Nat) : Option Nat :=
  (hbmBuffer d s.handle).map fun b => slotAt b (storedBytes s.cfg) place

/-- Where the input begins in the buffer. -/
def inputBase (c : List Byte) : Nat := decPlaces c * (storedBytes c + 2048) + 2048

/-- A stretch of the input buffer, cut where it wraps. -/
def inputSpans (c : List Byte) (pos n : Nat) : List (Nat × Nat) :=
  let a := pos % max 1 (doBuf c)
  if a + n ≤ doBuf c then [(a, n)] else [(a, doBuf c - a), (0, n - (doBuf c - a))]

/-- A place that no picture takes. -/
def freePlace (s : DecSes) : Nat :=
  let used := s.pool.map (fun x => x.out.place) ++ (s.outq ++ s.shown).map DecOut.place
  ((List.range (used.length + 1)).find? fun i => !used.contains i).getD 0

/-- Bytes enter a session's input buffer. -/
def addInput (slot : Nat) (x : DecIn) (d : Dev) : Dev :=
  match tabGet d.dec slot with
  | none => d
  | some s =>
    let d := (inputSpans s.cfg s.inBytes x.bytes.length).foldl
      (fun d (a, n) => bufferWrite (decUser s) s.handle (inputBase s.cfg + a) n d) d
    modDec slot (fun s => atMarks d { s with
      input := s.input ++ [{ x with pos := s.inBytes }], inBytes := s.inBytes + x.bytes.length }) d

/-- A MEDIA_READ in ITEMS mode fetched before a command, into its session, is still at work (10 R289). -/
def readAhead (d : Dev) (c : Outst) : Bool :=
  (d.host.outst.takeWhile fun o => o.tag != c.tag).any fun o =>
    o.op == .mediaReadItems && fld o.e 36 4 == c.e.handle.toNat

def decSubmitLayout : List (Nat × Nat × Nat) := [(32, 0, 4), (36, 0, 96)]

def specDecSubmit : CmdSpec where
  op := .decSubmit
  layout := decSubmitLayout
  data := someData
  handle := .body

/-- A DEC_SUBMIT without data carries DISCONTINUITY or EOS (10 R287). -/
def specDecMark : CmdSpec where
  op := .decSubmit
  layout := decSubmitLayout
  checks e := [(32, fldBits e 32 1 2 != 0)]
  handle := .body

def decSubmitBody (c : Outst) (d : Dev) : Ans :=
  match decOf d c.e.handle.toNat with
  | none => .fail stInvalidHandle 4 0
  | some (slot, s) =>
    if readAhead d c then .stay d .fetched
    else
      let n := c.e.dataLen.toNat
      let room := inFree s
      if room < n then .done d 0x0500 (room * 2 ^ 32) 0
      else
        let fl := fld c.e 32 1
        let pts := fld c.e 40 8
        let x : DecIn :=
          { seq := s.subs + 1, tag := fld c.e 36 4, pts := if pts = 2 ^ 64 - 1 then none else some pts
            bytes := c.e.data.take n, disc := bitOf fl 1, eos := bitOf fl 2, mute := bitOf fl 3, auEnd := bitOf fl 0
            at' := d.tu.ns }
        okAns (addInput slot x (modDec slot (fun s => { s with subs := s.subs + 1 }) d)) (res := s.subs + 1 + (room - n) * 2 ^ 32)

/-- DEC_SUBMIT (10 R287). -/
def decSubmit (t : Nat) (d : Dev) : Dev :=
  if (findOutst d t).any fun c => c.e.dataLen == 0 then hostRow specDecMark t decSubmitBody d
  else hostRow specDecSubmit t decSubmitBody d

def execDecSubmit (t : Nat) (s : State) : Host.Outcome State Fault Refusal :=
  .next (s.mapDev (decSubmit t))

/-! Access units of the input (10 R288, R289, R291). -/

/-- Input up to the next mark: its bytes, those of them that are lost, and whether a unit must end with them. -/
structure InRun where
  bytes : List Byte
  holes : List (Nat × Nat)
  ended : Bool

def inRun : Nat → List DecIn → InRun
  | _, [] => { bytes := [], holes := [], ended := false }
  | o, x :: l =>
    let holes := x.holes.map fun (a, n) => (o + a, n)
    if x.auEnd || x.eos || (l.head?.any DecIn.disc) then { bytes := x.bytes, holes, ended := true }
    else
      let r := inRun (o + x.bytes.length) l
      { bytes := x.bytes ++ r.bytes, holes := holes ++ r.holes, ended := r.ended }

/-- Holes of the bytes from k on. -/
def holesFrom (k : Nat) (l : List (Nat × Nat)) : List (Nat × Nat) :=
  l.filterMap fun (a, n) => if a + n ≤ k then none else some (a - k, a + n - max a k)

/-- Release the first n bytes of the input (10 R288); a submission whose EOS is still to come stays. -/
def release : Nat → List DecIn → List DecIn
  | 0, l => l
  | _, [] => []
  | n + 1, x :: l =>
    if n + 1 < x.bytes.length then
      { x with bytes := x.bytes.drop (n + 1), holes := holesFrom (n + 1) x.holes, pos := x.pos + n + 1 } :: l
    else
      let r := release (n + 1 - x.bytes.length) l
      if x.eos then { x with bytes := [], holes := [] } :: r else r

/-- The first picture that begins in the front submission has begun: it takes the PTS. -/
def takePts (l : List DecIn) : List DecIn :=
  match l with
  | x :: r => { x with pts := none } :: r
  | [] => []

/-- The next access unit of a session's input. -/
inductive NextAu where
  /-- Holm Raw: bytes before it, its header, and its bytes -/
  | holm (before : Nat) (h : HolmHead) (used : Nat)
  /-- HEVC or AV1: its units, and the bytes it takes -/
  | coded (units : List CodedUnit) (used : Nat)
  /-- bytes in which no access unit begins -/
  | garbage (used : Nat)

/-- Bytes that a unit takes, with what lies before it. -/
def NextAu.all : NextAu → Nat
  | .holm b _ n => b + n
  | .coded _ n => n
  | .garbage n => n

/-- The next access unit, none where it is not complete (10 R288): the boundaries stand in the bytes, and AU_END ends the
last. -/
def nextAu (s : DecSes) : Option NextAu :=
  let r := inRun 0 s.input
  if r.bytes.isEmpty then none
  else match doCodec s.cfg with
    | 2 => match findHead r.bytes with
      | none => if r.ended then some (.garbage r.bytes.length) else none
      | some (k, h) =>
        let n := ((r.bytes.drop k).take h.auBytes).length
        if n < h.auBytes && !r.ended then none else some (.holm k h n)
    | 1 => match av1End r.holes r.bytes with
      | some n => some (.coded ((obus r.holes (r.bytes.take n) n 0).1) n)
      | none => if r.ended then some (.coded ((obus r.holes r.bytes r.bytes.length 0).1) r.bytes.length) else none
    | _ =>
      let l := nals r.holes r.bytes
      match hevcEnd false l with
      | some n => some (.coded (l.filter fun u => decide (u.at' < n)) n)
      | none => if r.ended then some (.coded l r.bytes.length) else none

/-- Byte n of the input: its submission. -/
def inputAt : Nat → List DecIn → Option DecIn
  | _, [] => none
  | n, x :: l => if n < x.bytes.length then some x else inputAt (n - x.bytes.length) l

/-- The instant at which a unit of n bytes was complete in the buffer: with its last byte where a mark ends it, else with the
start of the next. -/
def completeAt (s : DecSes) (n : Nat) : Nat :=
  let r := inRun 0 s.input
  ((inputAt (if r.bytes.length ≤ n then n - 1 else n) s.input).map DecIn.at').getD 0

/-- P of a picture (10 R295). -/
def presentAt (s : DecSes) (now : Nat) (pts : Option Nat) : Nat :=
  if !doPts s.cfg then now
  else match pts, s.lastP with
    | some t, _ => unsigned 64 ((t : Int) + doOffset s.cfg)
    | none, some p => (p + 1000000000 / doFps s.cfg) % 2 ^ 64
    | none, none => Config.firstPts s.handle

/-- The submission in which an access unit begins. -/
def beginsIn (s : DecSes) (u : NextAu) : Option DecIn :=
  match u with
  | .holm b _ _ => inputAt b s.input
  | _ => s.input.head?

/-- The deadline of an access unit (10 R295): its P, or 40 ms after it is complete. -/
def deadline (d : Dev) (s : DecSes) (u : NextAu) : Nat :=
  if doPts s.cfg then presentAt s d.tu.ns ((beginsIn s u).bind DecIn.pts) else completeAt s u.all + 40000000

/-- Pictures held for destinations: waiting for P, or kept by a head (10 R295). -/
def outHeld (s : DecSes) : Nat := (s.outq.filter fun o => !o.eos).length + s.shown.length

/-- A session's deadline where it has an access unit to decode and room for its picture. -/
def readyAt (d : Dev) (s : DecSes) : Option Nat :=
  if doOut s.cfg + 1 ≤ outHeld s then none else (nextAu s).map (deadline d s)

/-- The RT1 session whose picture an engine decodes: the earliest deadline, the lower slot on a tie (10 R295; log 96). -/
def rtHead (d : Dev) (e : Nat) : Option Nat :=
  let l := d.dec.filterMap fun (slot, s) => if s.engine = some e then (readyAt d s).map fun t => (slot, t) else none
  (l.foldl (fun (b : Option (Nat × Nat)) x => match b with
    | none => some x
    | some y => if x.2 < y.2 || (x.2 = y.2 && x.1 < y.1) then some x else b) none).map (·.1)

/-- An engine may decode a session's picture: an RT1 session's on its own engine in its turn, a DF session's on either engine
while no RT1 picture is ready there (10 R281, R295). -/
def engineTakes (d : Dev) (e slot : Nat) (s : DecSes) : Bool :=
  decide (e < 2) && !gatedUnit d rcDec e && (readyAt d s).isSome &&
  (if s.engine.isSome then rtHead d e == some slot else (rtHead d e).isNone)

/-- The input bytes that come back as poison are lost like those a MEDIA_READ marks (12 R327; DESIGN CHOICE, log 103). -/
def readInput (slot : Nat) (s : DecSes) (n : Nat) (d : Dev) : Dev :=
  let part (acc : Dev × List DecIn × Nat) (x : DecIn) : Dev × List DecIn × Nat :=
    let k := min acc.2.2 x.bytes.length
    let (d, lost, _) := (inputSpans s.cfg x.pos k).foldl (fun (a : Dev × List Nat × Nat) (sp : Nat × Nat) =>
      let (d, l) := bufferRead (decUser s) s.handle (inputBase s.cfg + sp.1) sp.2 a.1
      (d, a.2.1 ++ l.map (· + a.2.2), a.2.2 + sp.2)) (acc.1, [], 0)
    (d, acc.2.1 ++ [{ x with holes := x.holes ++ lost.map fun o => (o, 32) }], acc.2.2 - k)
  let (d, l, _) := s.input.foldl part (d, [], n)
  modDec slot (fun s => { s with input := l }) d

/-! One picture (10 R290-R299). -/

/-- DEC_STATUS of a picture as decoded (10 R296, R297, R299). -/
def decStatus (p : DecPic) : Nat :=
  b2n (p.errMap.any fun e => e == 1 || e == 2) + b2n (p.errMap.any (· == 3)) * 2 + b2n p.substRef * 4 + b2n p.fault * 16 +
    b2n p.memErr * 32 + b2n p.filmGrain * 128

/-- What a picture's reference reads meet: the units that read lost bytes, and the pictures that hold them. -/
structure RefReads where
  dev   : Dev
  units : List Nat
  lost  : List Nat

/-- A unit reads a reference out of HBM. -/
def readRef (s : DecSes) (refs : List ActRef) (n : Nat) (r : RefReads) (x : Nat × Nat × Nat) : RefReads :=
  match (refs[x.1]?).bind ActRef.pic with
  | none => r
  | some p => match decAddr r.dev s p.out.place with
    | none => r
    | some a =>
      let (d, l) := hbmRead (decUser s) (a + x.2.1) x.2.2 r.dev
      if l.isEmpty then { r with dev := d } else { dev := d, units := n :: r.units, lost := p.out.id :: r.lost }

/-- Every unit of a picture reads its references. -/
def readRefsOf (s : DecSes) (h : PicHead) (bytes : List (List Byte)) (refs : List ActRef) (d : Dev) : RefReads :=
  (List.range ((mapSize h).1 * (mapSize h).2)).foldl (fun r n => (Config.decodeReads h bytes n).foldl (readRef s refs n) r)
    { dev := d, units := [], lost := [] }

/-- A unit's entry of the error map (10 R297). -/
def mapEntry (h : PicHead) (bytes : List (List Byte)) (refs : List ActRef) (lost : Nat → Bool) (filled n : Nat) : Nat :=
  if lost n then filled
  else if (Config.decodeReads h bytes n).any fun x => match refs[x.1]? with
      | some r => r.subst || r.pic.any fun p => p.out.pic.errMap.any (· != 0)
      | none => false then 3
  else 0

/-- Where and how a picture's access unit entered: its submission, and P. -/
structure PicFrom where
  seq  : Nat
  tag  : Nat
  p    : Nat

/-- A picture of HEVC or AV1 decoded with its references: what is lost is concealed from the picture nearest to it in output
order that has its size, and the picture goes into its place of the buffer (10 R291-R293, R297, R299). The pictures found
poisoned leave the reference set. -/
def buildPic (slot : Nat) (s : DecSes) (h : PicHead) (units : List CodedUnit) (refs : List ActRef) (poc : Int) (key : Bool)
    (src : PicFrom) (d : Dev) : PoolPic × Dev :=
  let bytes := units.map CodedUnit.bytes
  let r := readRefsOf s h bytes refs d
  let blocks := lostBlocks h units s.fault
  let pool := s.pool.filter fun x => !r.lost.contains x.out.id
  let near := nearestPic (pool.filter fun x => x.w == h.width && x.h == h.height && x.out.pic.format == heldFormat h.seq) poc
  let samples := Config.decodeSamples h bytes (refs.map fun x => (x.pic.map PoolPic.comps).getD (greyComps h))
  let comps := conceal h (sampleLost h blocks r.units) ((near.map PoolPic.comps).getD (greyComps h)) samples
  let pic : DecPic :=
    { width := h.width - 1, height := h.height - 1, format := heldFormat h.seq, picType := if key then 0 else max 1 h.kind
      crop := h.crop
      errMap := (List.range ((mapSize h).1 * (mapSize h).2)).map
        (mapEntry h bytes refs (unitLost h blocks r.units) (if near.isSome then 1 else 2))
      substRef := refs.any ActRef.subst, filmGrain := h.seq.grain, memErr := !r.units.isEmpty, fault := s.fault.isSome }
  let out : DecOut :=
    { id := s.made, seq := src.seq, tag := src.tag, status := decStatus pic, p := src.p, doneNs := d.tu.ns, pic
      planes := heldPlanes h comps, axis := [], frm := none, geo := noGeo, eos := false, place := freePlace s, ep := d.pcie.epoch }
  let d := match decAddr r.dev s out.place with
    | some a => hbmWrite (decUser s) a (h.width * h.height * decEighths pic.format / 8) r.dev
    | none => r.dev
  let d := modDec slot (fun s => { s with
    made := s.made + 1, fault := none
    pool := s.pool.map fun x => if r.lost.contains x.out.id then { x with lost := true } else x }) d
  ({ out, poc, mark := 0, slots := [], w := h.width, h := h.height, comps, key, wait := false, age := 0, lost := false }, d)

/-- DEC_UNSUPPORTED (10 R290), once for each run of unsupported sequences. -/
def raiseUnsupported (slot cause : Nat) (d : Dev) : Dev :=
  match tabGet d.dec slot with
  | none => d
  | some s => if s.skipping then d else raise evCodec 0x31 s.handle cause (modDec slot (fun s => { s with skipping := true }) d)

/-- A session leaves a picture out: before its start, or up to a supported key (10 R290, R293). -/
def leavesOut (s : DecSes) (key : Bool) : Bool := !key && (s.skipping || (s.start && !doAny s.cfg))

/-! HEVC (10 R290, R293: RPS and bumping, H.265). -/

/-- The short-term and the long-term pool pictures of a picture's RPS keep their marks; others lose theirs. -/
def hevcMarks (h : PicHead) (poc : Int) (s : DecSes) : DecSes :=
  let mark (x : PoolPic) : Nat :=
    if x.mark = 0 then 0
    else if h.long.any fun r => isLongRef h.seq.pocBits r x.poc then 2
    else if x.mark = 1 && h.short.any fun r => poc + r.1 == x.poc then 1
    else 0
  { s with pool := s.pool.map fun x => { x with mark := mark x } }

/-- The references that a picture may use, in the order of its RPS. -/
def hevcRefs (h : PicHead) (poc : Int) (s : DecSes) : List ActRef :=
  ((h.short.filter (·.2)).map fun r =>
    actRef s.pool poc (s.pool.find? fun x => x.mark == 1 && x.poc == poc + r.1) (some (poc + r.1))) ++
  ((h.long.filter fun r => r.2.2).map fun r =>
    actRef s.pool poc (s.pool.find? fun x => x.mark == 2 && isLongRef h.seq.pocBits r x.poc) (if r.2.1 then some (r.1 : Int) else none))

/-- One picture goes out while more wait than the sequence lets, or one has waited too long; n bounds them. -/
def bumpDue (h : SeqHead) : Nat → DecSes → DecSes
  | 0, s => s
  | n + 1, s =>
    let l := s.pool.filter PoolPic.wait
    if h.reorder < l.length || (h.latency != 0 && l.any fun x => decide (h.latency ≤ x.age)) then
      match l.foldl (fun (b : Option PoolPic) x => match b with
        | none => some x
        | some y => if x.poc < y.poc then some x else b) none with
      | none => s
      | some x => bumpDue h n { s with
          outq := s.outq ++ [x.out]
          pool := s.pool.map fun y => if y.out.id = x.out.id then { y with wait := false } else y }
    else s

/-- What a picture's output status and its place in the sequence rest on: its NAL unit type. -/
def isIrap (k : Nat) : Bool := decide (16 ≤ k) && decide (k ≤ 23)

/-- The pool ahead of a picture: at the first of a sequence what waits goes out, or is dropped as a CRA picture or its
no_output_of_prior_pics_flag asks; else what the RPS leaves. -/
def hevcBefore (h : PicHead) (k : Nat) (fresh : Bool) (poc : Int) (s : DecSes) : DecSes :=
  if fresh then
    let s := if k = 21 || h.noPrior then s else bumpAll s.pool.length s
    { s with pool := [] }
  else bumpDue h.seq s.pool.length (tidyPool (hevcMarks h poc s))

/-- A decoded picture joins the pool, and what is due goes out. -/
def hevcAfter (h : PicHead) (x : PoolPic) (wait : Bool) (s : DecSes) : DecSes :=
  let pool := if wait then s.pool.map fun y => if y.wait then { y with age := y.age + 1 } else y else s.pool
  bumpDue h.seq (pool.length + 1) { s with pool := pool ++ [{ x with mark := 1, wait }] }

/-- The picture of an access unit of HEVC. True where the unit is discarded. -/
def decodeHevc (slot : Nat) (units : List CodedUnit) (src : PicFrom) (mute : Bool) (d : Dev) : Bool × Dev :=
  let slices := units.filter isSlice
  match tabGet d.dec slot, slices with
  | some s, u :: _ =>
    match Config.pictureHead false s.psets [] (slices.map CodedUnit.bytes) with
    | none => (true, d)
    | some h =>
      let k := nalKind u
      let key := isIrap k
      let cause := unsupported false (doMaxW s.cfg) (doMaxH s.cfg) (doFormat s.cfg) (doDpb s.cfg) h.seq
      let fresh := key && (k < 21 || s.start)
      let rasl := k == 8 || k == 9
      if cause != 0 then (true, raiseUnsupported slot cause d)
      else if leavesOut s key || (rasl && s.noRasl) then (true, d)
      else
        let poc := if fresh then (h.poc : Int) else pocOf (if s.start then 0 else s.prevPoc) h.seq.pocBits h.poc
        let s' := hevcBefore h k fresh poc s
        let d := modDec slot (fun _ => s') d
        let (x, d) := buildPic slot s' h slices (if key then [] else hevcRefs h poc s') poc key src d
        let counts := nalTid u = 0 && !(6 ≤ k && k ≤ 9) && !(k ≤ 14 && k % 2 = 0)
        (false, modDec slot (fun s => hevcAfter h x (h.shown && !mute) { s with
          start := false, skipping := false, noRasl := if key then fresh else s.noRasl
          prevPoc := if counts then poc else s.prevPoc, lastP := if h.shown then some src.p else s.lastP }) d)
  | _, _ => (false, d)

/-- An end-of-sequence or end-of-bitstream NAL unit: the next picture is a first one. -/
def endsSequence (units : List CodedUnit) : Bool := units.any fun u => nalOk u && (nalKind u == 36 || nalKind u == 37)

/-- Parameter sets, or a sequence header, that a session keeps; one that comes again counts as the latest. -/
def keepSets (new : List (List Byte)) (s : DecSes) : DecSes :=
  { s with psets := (s.psets.filter fun x => !new.contains x) ++ new }

/-! AV1 (10 R290, R293: refresh_frame_flags, show_frame, show_existing_frame). -/

/-- The pool picture of a reference slot. -/
def slotPic (s : DecSes) (i : Nat) : Option PoolPic := s.pool.find? fun x => x.slots.contains i

/-- The slots as the headers of AV1 rest on them. -/
def slotTable (s : DecSes) : List (Nat × Nat × Nat) :=
  (List.range 8).map fun i => match slotPic s i with
    | some x => (x.w, x.h, x.poc.toNat)
    | none => (0, 0, 0)

/-- The references of a frame: a missing one stood at the order hint that the header gives its slot, or the slot's own. -/
def av1Refs (h : PicHead) (s : DecSes) : List ActRef :=
  h.slots.map fun i =>
    let hint := if h.seq.hints then ((h.refHints.find? fun x => x.1 == i).map fun x => (x.2 : Int)) else none
    actRef s.pool h.poc (slotPic s i) hint

/-- A frame takes the slots that it refreshes; pictures that none holds leave the pool. -/
def refreshSlots (mask id : Nat) (s : DecSes) : DecSes :=
  tidyPool { s with pool := s.pool.map fun x => { x with
    slots := (x.slots.filter fun i => !bitOf mask i) ++ (if x.out.id = id then (List.range 8).filter fun i => bitOf mask i else []) } }

/-- A picture goes out. -/
def outputPic (o : DecOut) (s : DecSes) : DecSes := { s with outq := s.outq ++ [o], lastP := some o.p }

/-- One frame of a temporal unit of AV1. True where it is discarded. -/
def decodeAv1 (slot : Nat) (units : List CodedUnit) (src : PicFrom) (mute : Bool) (d : Dev) : Bool × Bool × Dev :=
  match tabGet d.dec slot with
  | none => (false, false, d)
  | some s =>
    match Config.pictureHead true s.psets (slotTable s) (units.map CodedUnit.bytes) with
    | none => (true, false, d)
    | some h =>
      let cause := unsupported true (doMaxW s.cfg) (doMaxH s.cfg) (doFormat s.cfg) (doDpb s.cfg) h.seq
      match h.existing with
      | some i => match slotPic s i with
        | none => (true, false, d)
        | some x =>
          if s.skipping || (s.start && !doAny s.cfg) then (true, false, d)
          else
            let o := { x.out with id := s.made, seq := src.seq, tag := src.tag, p := src.p, doneNs := d.tu.ns, ep := d.pcie.epoch }
            (false, true, modDec slot (fun s =>
              let s := if mute then s else outputPic o { s with made := s.made + 1 }
              if x.key then refreshSlots 255 x.out.id s else s) d)
      | none =>
        let key := h.ftype == 0
        if cause != 0 then (true, false, raiseUnsupported slot cause d)
        else if leavesOut s key then (true, false, d)
        else
          let (x, d) := buildPic slot s h units (av1Refs h s) h.poc key src d
          (false, h.shown, modDec slot (fun s =>
            let s := refreshSlots h.refresh x.out.id { s with start := false, skipping := false, pool := s.pool ++ [x] }
            if h.shown && !mute then outputPic x.out s else s) d)

/-- Every frame of a temporal unit; the first that is shown takes the unit's P, and one shown after it the P that follows. -/
def decodeFrames (slot : Nat) (src : PicFrom) (mute : Bool) : List (List CodedUnit) → Dev → Bool × Dev
  | [], d => (false, d)
  | g :: l, d =>
    let (out, shown, d) := decodeAv1 slot g src mute d
    let next := match tabGet d.dec slot with
      | some s => if shown then { src with p := presentAt s d.tu.ns none } else src
      | none => src
    let (rest, d) := decodeFrames slot next mute l d
    (out || rest, d)

/-! Holm Raw (10 R280, R291, R292). -/

/-- The planes of a Holm Raw picture as RAW_U16 (10 R280). -/
def holmPlanes (g : Geo) (f : Frm) (streams : List Nat) : List Byte :=
  streams.flatMap fun s =>
    layRows (2 * (g.samples + 1)) ((List.range (g.height + 1)).map fun y => (codesOf f g [] s y).2.flatMap (toLE 2))

/-- SYNC marks in bytes: the access units whose headers failed (10 R291). -/
def syncCount : List Byte → Nat
  | [] => 0
  | b :: l => (if (b :: l).take 4 == [0x48, 0x4F, 0x4C, 0x4D] then 1 else 0) + syncCount l

/-- A SYNC with another VERSION (10 R279). -/
def otherVersion : List Byte → Bool
  | [] => false
  | b :: l => ((b :: l).take 4 == [0x48, 0x4F, 0x4C, 0x4D] && decide (5 ≤ (b :: l).length) && le (b :: l) 4 1 != 1) ||
      otherVersion l

/-- A Holm Raw access unit decoded: damaged, lost or undecoded tiles are concealed, and each check that fails counts (10 R291,
R292, R299; 11 R303, R311). -/
def decodeHolm (slot : Nat) (h : HolmHead) (au : List Byte) (holes : List (Nat × Nat)) (src : PicFrom) (mute : Bool) (d : Dev) :
    Bool × Dev :=
  match tabGet d.dec slot with
  | none => (false, d)
  | some s =>
    if doMaxW s.cfg < h.geo.samples || doMaxH s.cfg < h.geo.height then (true, raiseUnsupported slot 1 d)
    else
      let meets (x : Nat × Nat) : Bool := (lostFrom holes x.1 (x.1 + x.2)).isSome
      let lost (ix : Nat) : Bool :=
        meets (tileExtent au h ix).1 || meets (tileExtent au h ix).2 || s.fault.any fun k => decide (k ≤ ix)
      let (f, errs) := readHolm au h (if doDpb s.cfg = 1 then s.prev else none) lost
      let d := (List.range (tileMismatches au h)).foldl (fun d _ => bumpInteg 9 d) d
      let pic : DecPic :=
        { width := h.geo.samples, height := h.geo.height, format := 0x21, picType := 0, crop := [0, 0, 0, 0], errMap := errs
          substRef := false, filmGrain := false, memErr := false, fault := s.fault.isSome }
      let o : DecOut :=
        { id := s.made, seq := src.seq, tag := src.tag, status := decStatus pic, p := src.p, doneNs := d.tu.ns, pic
          planes := holmPlanes h.geo f h.streams, axis := h.axis, frm := some f, geo := h.geo, eos := false, place := freePlace s
          ep := d.pcie.epoch }
      let d := match decAddr d s o.place with
        | some a => hbmWrite (decUser s) a (2 * (h.geo.samples + 1) * (h.geo.height + 1) * h.streams.length) d
        | none => d
      (false, modDec slot (fun s =>
        let s := { s with
          start := false, skipping := false, made := s.made + 1, fault := none
          prev := if doDpb s.cfg = 1 then some (h.geo, f) else none }
        if mute then { s with lastP := some o.p } else outputPic o s) d)

/-! DEC_PICTURE_DONE (10 R288-R295). -/

/-- The front access unit leaves the input, discarded or decoded. -/
def consume (slot : Nat) (n lost : Nat) (d : Dev) : Dev :=
  modDec slot (fun s => atMarks d { s with input := release n s.input, discards := s.discards + lost, fault := none }) d

/-- The Holm Raw headers in bytes that are discarded: each counts, and one of another VERSION is unsupported. -/
def skipHolm (slot : Nat) (l : List Byte) (d : Dev) : Dev :=
  if l.isEmpty then d
  else
    let d := (List.range (syncCount l)).foldl (fun d _ => bumpInteg 9 d) d
    let d := if otherVersion l then raiseUnsupported slot 4 d else d
    modDec slot (fun s => { s with discards := s.discards + max 1 (syncCount l) }) d

/-- The next access unit of a session is decoded. -/
def decodeNext (slot : Nat) (d : Dev) : Dev :=
  match tabGet d.dec slot with
  | none => d
  | some s0 => match nextAu s0 with
    | none => d
    | some u0 =>
      let d := readInput slot s0 u0.all d
      match tabGet d.dec slot with
      | none => d
      | some s => match nextAu s with
        | none => d
        | some u =>
          let r := inRun 0 s.input
          let x := beginsIn s u
          let src : PicFrom :=
            { seq := (x.map DecIn.seq).getD 0, tag := (x.map DecIn.tag).getD 0, p := presentAt s d.tu.ns (x.bind DecIn.pts) }
          let mute := x.any DecIn.mute
          match u with
          | .garbage n => consume slot n 0 (skipHolm slot r.bytes d)
          | .holm b h n =>
            let d := skipHolm slot (r.bytes.take b) d
            let d := modDec slot (fun s => { s with input := takePts (release b s.input) }) d
            let (out, d) := decodeHolm slot h ((r.bytes.drop b).take n) (holesFrom b r.holes) src mute d
            consume slot n (b2n out) d
          | .coded units n =>
            let av1 := doCodec s.cfg == 1
            let sets := units.filter fun u => if av1 then obuKind u == 1 else nalOk u && 32 ≤ nalKind u && nalKind u ≤ 34
            let d := modDec slot (fun s => { keepSets (sets.map CodedUnit.bytes) s with input := takePts s.input }) d
            let (out, d) :=
              if !av1 then decodeHevc slot units src mute d
              else if noSize r.bytes || units.any (fun u => obuKind u == 8) then (true, raiseUnsupported slot 4 d)
              else decodeFrames slot src mute (frameGroups units) d
            let d := if !av1 && endsSequence units then modDec slot (fun s => { s with start := true }) d else d
            consume slot n (b2n out) d

/-- DEC_PICTURE_DONE: an engine finishes the next access unit of a session whose turn it is. -/
def decPictureDone (slot e : Nat) (d : Dev) : Dev :=
  match tabGet d.dec slot with
  | none => d
  | some s => if engineTakes d e slot s then decodeNext slot d else d

def execDecPictureDone (ses engine : Nat) (s : State) : Host.Outcome State Fault Refusal :=
  .next (s.mapDev (decPictureDone ses engine))

/-! Presentation and records (10 R294-R297). -/

/-- The 2-bit entries of an error map, four in a byte (10 R297). -/
def mapBytes (m : List Nat) : List Byte :=
  (List.range (divUp m.length 4)).map fun i =>
    BitVec.ofNat 8 (((List.range 4).map fun j => (m[4 * i + j]?).getD 0 % 4 * 4 ^ j).foldl (· + ·) 0)

/-- FRAME_NUM of a picture (10 R296). -/
def decFrameNum (s : DecSes) (o : DecOut) : Nat := (o.frm.map Frm.num).getD s.count

/-- The record of a picture, or of an EOS, without its sequence number's BUSY (10 R296). -/
def decRecord (s : DecSes) (o : DecOut) (status seq : Nat) : List Byte :=
  let head := pack [(8, seq % 2 ^ 63), (4, o.seq), (4, o.tag), (4, status)]
  let streams := if o.geo.height = 0 then 1 else o.planes.length / max 1 (pitchOf (2 * (o.geo.samples + 1)) * (o.geo.height + 1))
  let shape := heldShape o.pic.format (o.pic.width + 1) (o.pic.height + 1) streams
  let pitch (k : Nat) : Nat := if doPics s.cfg then ((shape[k]?).map fun x => pitchOf x.1).getD 0 else 0
  let crop (k : Nat) : Nat := (o.pic.crop[k]?).getD 0
  let body := if o.eos then (List.range 52).map fun i => Config.eosField s.handle s.count (20 + i)
    else pack [(4, (o.frm.map Frm.status).getD 0), (8, o.p), (4, o.doneNs), (4, decFrameNum s o), (2, o.pic.width),
      (2, o.pic.height), (1, o.pic.format), (1, o.pic.picType), (2, o.pic.errMap.length),
      (4, (o.pic.errMap.filter (· != 0)).length), (2, crop 0), (2, crop 1), (2, crop 2), (2, crop 3), (4, pitch 0), (4, pitch 1),
      (4, pitch 2)]
  head ++ body ++ pack [(4, s.discards), (180, 0)]

/-- The record takes the next ring slot: SEQ with BUSY, the map and the planes, and the record last; or it is discarded with its
number used, where delivery has stopped since or a sector of the planes is lost (10 R296, 07 R220, 02 R562, 12 R327). -/
def decRing (slot : Nat) (o : DecOut) (status : Nat) (d : Dev) : Dev :=
  match tabGet d.dec slot with
  | none => d
  | some s =>
    if !doRing s.cfg then d
    else
      let seq := s.seq + 1
      let (d, lost) := match decAddr d s o.place with
        | some a => if doPics s.cfg && !o.eos then
            hbmRead (decUser s) a (min (storedBytes s.cfg) o.planes.length) d else (d, [])
        | none => (d, [])
      if deliversFrom o.ep d && lost.isEmpty then
        let status := status + (if s.dropSeen < s.dropped then 512 else 0)
        let r := decRecord s o status seq
        let body := fit 12288 (r ++ mapBytes o.pic.errMap) ++ (if doPics s.cfg then o.planes else [])
        let body := if o.eos then r else body
        let d := emit (ringBusy s.handle (doSlots s.cfg) seq s.wrote) d
        let d := modDec slot (fun s => { s with
          seq, discards := 0, dropSeen := s.dropped, wrote := tabSet s.wrote (ringSlot (doSlots s.cfg) seq) seq }) d
        notify (doVector s.cfg) (emit (.ring s.handle (ringSlot (doSlots s.cfg) seq) seq body) d)
      else
        raise evCodec 0x34 s.handle (decFrameNum s o + seq % 2 ^ 31 * 2 ^ 32)
          (modDec slot (fun s => { s with seq, dropped := s.dropped + 1 }) d)

/-- A head shows or has selected a picture of a session. -/
def headHolds (d : Dev) (slot id : Nat) : Bool :=
  let is (v : Option HeadVid) : Bool := match v with
    | some (.dec sl o) => sl == slot && o.id == id
    | _ => false
  d.heads.toList.any fun h => is h.vid || is h.sel

/-- A Holm Raw picture enters its Isle as a through-memory frame of PLAY_PORT, with its own geometry; lost sectors enter as zero
and mark LINK_ERR (10 R283, 12 R327). -/
def playFrame (s : DecSes) (o : DecOut) (d : Dev) : Dev :=
  match o.frm with
  | none => d
  | some f =>
    let p := doPort s.cfg
    let (d, lost) := match decAddr d s o.place with
      | some a => hbmRead (decUser s) a (2 * (o.geo.samples + 1) * (o.geo.height + 1) * o.geo.streams) d
      | none => (d, [])
    let cut (x : Nat × Nat × List Byte) : Nat × Nat × List Byte :=
      let at' := 2 * (o.geo.samples + 1) * ((o.geo.height + 1) * x.1 + x.2.1)
      let here := (lost.map fun sec => 32 * sec - (decAddr d s o.place).getD 0).filter fun b => decide (at' ≤ b)
      let codes := unpackLine o.geo.bits (o.geo.samples + 1) x.2.2
      (x.1, x.2.1, packLine o.geo.bits (codes.zipIdx.map fun (v, i) =>
        if here.any fun b => decide (b - at' ≤ 2 * i) && decide (2 * i < b - at' + 32) then 0 else v))
    let f := if lost.isEmpty then f else { f with lines := f.lines.map cut, status := f.status ||| 8 }
    let r : AxRec := { port := p.val, num := f.num, ents := [], raw := some o.axis }
    let d := modPort p (fun k => { k with closed := nowPclk d }) { d with axrec := d.axrec ++ [r] }
    handShared p { f with port := p.val, geo := some o.geo } d

/-- What waits for output before the first EOS, least P first (10 R294, R295). -/
def nextOut (s : DecSes) : Option DecOut :=
  match s.outq.takeWhile fun o => !o.eos with
  | [] => s.outq.head?
  | o :: l => some (l.foldl (fun b x => if x.p < b.p then x else b) o)

/-- A picture is presented to every destination (10 R282, R295, R296). ISLE_DROPPED stands in the record that follows a drop: the
dropped frame's own has gone (DESIGN CHOICE, log 104). -/
def present (slot : Nat) (s : DecSes) (o : DecOut) (d : Dev) : Dev :=
  let late := decide (o.p < o.doneNs)
  let num := decFrameNum s o
  let d := modDec slot (fun s => { s with outq := s.outq.filter fun x => x.id != o.id }) d
  let d := if doIsle s.cfg then playFrame s o d else d
  let isleDrop := doIsle s.cfg && (port d (doPort s.cfg)).playDrop != 0
  let d := if isleDrop then modPort (doPort s.cfg) (fun k => { k with playDrop := 0 }) d else d
  let status := o.status + b2n late * 8 + b2n isleDrop * 256
  let d := decRing slot o status d
  let d := modDec slot (fun s => { s with
    count := s.count + 1
    shown := if doHead s.cfg then o :: s.shown.filter (fun x => headHolds d slot x.id) else [] }) d
  let d := if bitOf o.status 0 || bitOf o.status 2 then
      raise evCodec 0x30 s.handle (num + (o.pic.errMap.filter (· != 0)).length % 2 ^ 16 * 2 ^ 32) d
    else d
  if late then raise evCodec 0x35 s.handle num d else d

/-- DEC_PICTURE_PRESENT (10 R295). -/
def decPicturePresent (slot : Nat) (d : Dev) : Dev :=
  match tabGet d.dec slot with
  | none => d
  | some s =>
    match nextOut s with
    | none => d
    | some o =>
      if o.eos then decRing slot o 64 (modDec slot (fun s => { s with outq := s.outq.filter fun x => x.id != o.id }) d)
      else if o.p ≤ d.tu.ns then present slot s o d
      else d

def execDecPicturePresent (ses : Nat) (s : State) : Host.Outcome State Fault Refusal :=
  .next (s.mapDev (decPicturePresent ses))

/-! DEC_CLOSE and faults (10 R298, R299). -/

/-- The play of a session into its Isle ends: what counted on the port's frames becomes active (10 R283, 05 R160). -/
def endPlay (c : List Byte) (d : Dev) : Dev :=
  if doIsle c then
    let p := doPort c
    let d := modPort p (fun k => { k with play := none, memory := false, area := [] }) d
    flushShadows p (modIsle (isleOf (doIsleOf c)) (fun k => { k with
      wait := k.wait.filter (· != p.val), tm := k.tm.filter fun r => r.port != p.val }) d)
  else d

/-- A session leaves: what waits is discarded and its reservations return. -/
def decRemove (slot : Nat) (d : Dev) : Dev :=
  match tabGet d.dec slot with
  | none => d
  | some s =>
    let d := endPlay s.cfg d
    let d := { d with heads := d.heads.map fun (h : Head) =>
      match h.sel with
      | some (.dec sl _) => if sl = slot then { h with sel := none } else h
      | _ => h }
    stopReads (fun r => r.items && r.dec == s.handle)
      (returnResv s.handle (closeObj s.handle { d with dec := tabDel d.dec slot }))

def specDecClose : CmdSpec where
  op := .decClose
  layout := []
  handle := .body

def decCloseBody (c : Outst) (d : Dev) : Ans :=
  match decOf d c.e.handle.toNat with
  | none => .fail stInvalidHandle 4 0
  | some (slot, s) => okAns (decRemove slot d) (res := s.count % 2 ^ 32)

def execDecClose (t : Nat) (s : State) : Host.Outcome State Fault Refusal :=
  .next (s.mapDev (hostRow specDecClose t decCloseBody))

/-- Thermal shedding closes a session (10 R302). -/
def decShed (slot : Nat) (d : Dev) : Dev :=
  match tabGet d.dec slot with
  | none => d
  | some s => raise evCodec 0x33 s.handle s.count (decRemove slot d)

/-- The session whose picture an engine decodes: the RT1 session in its turn, else the first DF session with an access unit that
the other engine has not begun (10 R281; DESIGN CHOICE, log 105: which DF picture an engine decodes is not stated). -/
def engineSession (d : Dev) (e : Nat) : Option Nat :=
  match rtHead d e with
  | some slot => some slot
  | none =>
    let l := (d.dec.filter fun p => p.2.engine.isNone && (readyAt d p.2).isSome).map (·.1)
    if e = 0 || (rtHead d 0).isSome || gatedUnit d rcDec 0 then l.head? else l[1]?

/-- The engine resets; what it had not decoded of the picture in progress is concealed (10 R299). -/
def decEngineReset (e cause : Nat) (d : Dev) : Dev :=
  let d := match engineSession d e with
    | some sl => { modDec sl (fun s => { s with fault := some (Config.faultUnits d.free) }) d with free := d.free + 1 }
    | none => d
  raise evCodec 0x32 0 (e + cause * 2 ^ 8) d

def execDecParityError (e : DecEng) (s : State) : Host.Outcome State Fault Refusal :=
  .next (s.mapDev (decEngineReset e.val 1))

/-- DEC_PICTURE_TIMEOUT (10 R299): an RT1 picture is not complete 50 ms after its deadline. -/
def decPictureTimeout (slot : Nat) (d : Dev) : Dev :=
  match tabGet d.dec slot with
  | none => d
  | some s =>
    match s.engine, readyAt d s with
    | some e, some t => if t + 50000000 ≤ d.tu.ns then decEngineReset e 2 d else d
    | _, _ => d

def execDecPictureTimeout (ses : Nat) (s : State) : Host.Outcome State Fault Refusal :=
  .next (s.mapDev (decPictureTimeout ses))

end Sys2Proof.Machine
end

