-- ==== Sys2Proof/Machine/Compose.lean ====
section
/-!
DEFINITION. Machine/Compose.lean: what a display head shows: the video plane, the overlays and the output
picture (15 R397-R400).
-/
namespace Sys2Proof.Machine

/-! Fields of HEAD_CONFIG (15 R400). -/

def hcTarget (c : List Byte) : Nat := le c 0 1
def hcFmt (c : List Byte) : Nat := le c 1 1
def hcFull (c : List Byte) : Bool := bitOf (le c 2 1) 0
def hcMatrix (c : List Byte) : Nat := bitsOf (le c 2 1) 1 2
def hcSdi (c : List Byte) : Nat := le c 4 1
def hcDpRate (c : List Byte) : Nat := bitsOf (le c 5 1) 0 4
def hcDpLanes (c : List Byte) : Nat := bitsOf (le c 5 1) 4 4
def hcMode (c : List Byte) : Nat := le c 6 1
def hcPrio (c : List Byte) : Nat := le c 7 1
def hcVideo (c : List Byte) : Nat := le c 8 4
def hcW (c : List Byte) : Nat := le c 12 2 + 1
def hcH (c : List Byte) : Nat := le c 14 2 + 1
def hcHTotal (c : List Byte) : Nat := le c 16 2 + 1
def hcVTotal (c : List Byte) : Nat := le c 18 2 + 1
def hcKhz (c : List Byte) : Nat := le c 28 4
def hcNum (c : List Byte) : Nat := le c 32 4
def hcDen (c : List Byte) : Nat := le c 36 4
def hcPhase (c : List Byte) : Nat := le c 40 4
def hcMinHz (c : List Byte) : Nat := le c 44 2
def hcStatic (c : List Byte) : Nat := le c 46 1
def hcX (c : List Byte) : Nat := le c 48 2
def hcY (c : List Byte) : Nat := le c 50 2
def hcBg (c : List Byte) : Nat := le c 52 4
/-- Descriptor of overlay i. -/
def hcOv (c : List Byte) (i : Nat) : List Byte := (c.drop (56 + 16 * i)).take 16
def ovFmt (o : List Byte) : Nat := le o 0 1
def ovAlpha (o : List Byte) : Nat := le o 1 1
def ovW (o : List Byte) : Nat := le o 4 2 + 1
def ovH (o : List Byte) : Nat := le o 6 2 + 1
def ovX (o : List Byte) : Nat := le o 8 2
def ovY (o : List Byte) : Nat := le o 10 2
/-- Bytes per pixel of an overlay FORMAT (15 R398). -/
def ovBpp (o : List Byte) : Nat :=
  match ovFmt o with
  | 0 => 0
  | 1 => 2
  | 2 => 3
  | _ => 4
/-- S of an overlay (15 R402). -/
def ovBytes (o : List Byte) : Nat := ovW o * ovH o * ovBpp o

/-! The video plane (15 R399 steps 1 and 2). -/

/-- A picture with what its codes mean: format, size as held, crop offset, visible size, range and matrix. -/
structure VidPic where
  fmt    : Nat
  w      : Nat
  h      : Nat
  left   : Nat
  top    : Nat
  seenW  : Nat
  seenH  : Nat
  full   : Bool
  matrix : Nat
  planes : List Byte

/-- The planes of a video frame as they are held. -/
def vidPlanes : HeadVid → List Byte
  | .tap tf => tapPlanes tf.fin tf.snap
  | .dec _ o => o.planes

/-- A video frame with its planes as read. -/
def vidPic (planes : List Byte) : HeadVid → VidPic
  | .tap tf =>
    let c := tf.snap.cfg
    { fmt := tapFormat c, w := outW c + 1, h := outH c + 1, left := 0, top := 0, seenW := outW c + 1, seenH := outH c + 1
      full := tapFull c, matrix := tapMatrix c, planes }
  | .dec ses o =>
    let crop (k : Nat) : Nat := (o.pic.crop[k]?).getD 0
    let conv := (Config.streamConv ses o.id).toNat
    { fmt := o.pic.format, w := o.pic.width + 1, h := o.pic.height + 1, left := crop 0, top := crop 2
      seenW := o.pic.width + 1 - crop 0 - crop 1, seenH := o.pic.height + 1 - crop 2 - crop 3
      full := bitOf conv 0, matrix := conv / 2, planes }

/-- A code as a normalised value (the inverse of 07 R215). -/
def unquant (full chroma : Bool) (n code : Nat) : Rat :=
  let s : Rat := ((2 ^ (n - 8) : Nat) : Rat)
  let top : Rat := ((2 ^ n - 1 : Nat) : Rat)
  let c : Rat := (code : Rat)
  match full, chroma with
  | false, false => (c / s - 16) / 219
  | false, true => (c / s - 128) / 224
  | true, false => c / top
  | true, true => (c - ((2 ^ (n - 1) : Nat) : Rat)) / top

/-- R, G, B from Y, Cb, Cr (the inverse of 07 R214). -/
def yccToRgb (m : Nat) (y cb cr : Rat) : List Rat :=
  let r := y + cr / f24Const (1 / (2 * (1 - kr m)))
  let b := y + cb / f24Const (1 / (2 * (1 - kb m)))
  [r, (y - f24Const (kr m) * r - f24Const (kb m) * b) / f24Const (1 - kr m - kb m), b]

/-- The normalised R, G, B of a pixel of a video picture. -/
def vidRgb (v : VidPic) (x y : Nat) : List Rat :=
  let shape := planeShape v.fmt v.w v.h 16 1
  let at' (plane col line size : Nat) : Nat :=
    le v.planes (planesBytes (shape.take plane) + pitchOf (((shape[plane]?).map (·.1)).getD 0) * line + col * size) size
  let n := if v.fmt = 0x10 || v.fmt = 0x12 || v.fmt = 0x03 then 8 else 10
  match v.fmt with
  | 0x02 => (List.range 3).map fun k => unquant v.full false 10 (bitsOf (at' 0 x y 4) (10 * k) 10)
  | 0x03 => (List.range 3).map fun k => unquant v.full false 8 (at' 0 (3 * x + k) y 1)
  | _ =>
    let code (plane col line : Nat) : Nat := if n = 8 then at' plane col line 1 else at' plane col line 2 / 64
    let luma := unquant v.full false n (code 0 x y)
    if v.fmt = 0x14 then yccToRgb v.matrix luma (unquant v.full true n (code 1 x y)) (unquant v.full true n (code 2 x y))
    else
      let line := if v.fmt = 0x10 || v.fmt = 0x11 then y / 2 else y
      let last := v.w / 2 - 1
      let c (k : Nat) : Rat :=
        let one (i : Nat) : Rat := unquant v.full true n (code 1 (2 * min i last + k) line)
        if x % 2 = 0 then one (x / 2) else (one (x / 2) + one (x / 2 + 1)) / 2
      yccToRgb v.matrix luma (c 0) (c 1)

/-! Overlays and layers (15 R398, R399 steps 3 and 4). -/

/-- A byte of an overlay bank. -/
def bankByte (head i : Nat) (bank : List Byte) (k : Nat) : Nat := ((bank[k]?).getD (Config.overlayByte head i k)).toNat

/-- Normalised R, G, B and alpha of an overlay pixel; none outside the overlay. -/
def ovPixel (head i : Nat) (o bank : List Byte) (x y : Nat) : Option (List Rat × Rat) :=
  if ovFmt o = 0 || x < ovX o || y < ovY o || ovX o + ovW o ≤ x || ovY o + ovH o ≤ y then none
  else
    let base := ((y - ovY o) * ovW o + (x - ovX o)) * ovBpp o
    let word := (List.range (ovBpp o)).foldl (fun n k => n + bankByte head i bank (base + k) * 2 ^ (8 * k)) 0
    let part (lo n : Nat) : Rat := ((bitsOf word lo n : Nat) : Rat) / ((2 ^ n - 1 : Nat) : Rat)
    let (rgb, a) : List Rat × Rat := match ovFmt o with
      | 1 => ([part 11 5, part 5 6, part 0 5], 1)
      | 2 => ([part 0 8, part 8 8, part 16 8], 1)
      | 3 => ([part 16 8, part 8 8, part 0 8], part 24 8)
      | _ => ([part 0 10, part 10 10, part 20 10], part 30 2)
    some (rgb, a * ((ovAlpha o : Nat) : Rat) / 255)

/-- c = α × o + (1 − α) × c. -/
def blend (o : Option (List Rat × Rat)) (c : List Rat) : List Rat :=
  match o with
  | none => c
  | some (rgb, a) => (rgb.zip c).map fun (x, y) => a * x + (1 - a) * y

/-- The composed normalised R, G, B of a pixel of the active area. -/
def headRgb (head : Nat) (cfg : List Byte) (vid : Option VidPic) (ov0 ov1 : List Byte) (x y : Nat) : List Rat :=
  let bg : List Rat := (List.range 3).map fun k => ((bitsOf (hcBg cfg) (10 * k) 10 : Nat) : Rat) / 1023
  let base := match vid with
    | some v =>
      if hcX cfg ≤ x && hcY cfg ≤ y && x < hcX cfg + v.seenW && y < hcY cfg + v.seenH then
        vidRgb v (v.left + (x - hcX cfg)) (v.top + (y - hcY cfg))
      else bg
    | none => bg
  blend (ovPixel head 1 (hcOv cfg 1) ov1 x y) (blend (ovPixel head 0 (hcOv cfg 0) ov0 x y) base)

/-! The output picture (15 R399 step 5). -/

/-- Y, Cb, Cr under 07 R214, not rounded. -/
def rgbToYcc (m : Nat) (p : List Rat) : List Rat :=
  let c (k : Nat) : Rat := (p[k]?).getD 0
  let y := f24Const (kr m) * c 0 + f24Const (1 - kr m - kb m) * c 1 + f24Const (kb m) * c 2
  [y, (c 2 - y) * f24Const (1 / (2 * (1 - kb m))), (c 0 - y) * f24Const (1 / (2 * (1 - kr m)))]

/-- The picture of the active area in OUT_FMT, in the layout of 07 R213. -/
def composePlanes (head : Nat) (cfg : List Byte) (v : Option VidPic) (ov0 ov1 : List Byte) : List Byte :=
  let w := hcW cfg
  let h := hcH cfg
  let fmt := hcFmt cfg
  let shape := planeShape fmt w h 16 1
  let row (i : Nat) : Nat := ((shape[i]?).map (·.1)).getD 0
  let rgb (x y : Nat) : List Rat := headRgb head cfg v ov0 ov1 x y
  let lines (i : Nat) (f : Nat → List Byte) : List Byte := layRows (row i) ((List.range h).map f)
  let q (n : Nat) (e : Rat) : Nat := quantQ (hcFull cfg) false n e
  match fmt with
  | 0x02 => lines 0 fun y => (List.range w).flatMap fun x =>
      let p := rgb x y
      toLE 4 (q 10 ((p[0]?).getD 0) + q 10 ((p[1]?).getD 0) * 2 ^ 10 + q 10 ((p[2]?).getD 0) * 2 ^ 20 + 3 * 2 ^ 30)
  | 0x03 => lines 0 fun y => (List.range w).flatMap fun x => (rgb x y).flatMap fun e => toLE 1 (q 8 e)
  | _ =>
    let ycc (x y k : Nat) : Rat := ((rgbToYcc (hcMatrix cfg) (rgb x y))[k]?).getD 0
    let n := if fmt = 0x12 then 8 else 10
    let put (code : Nat) : List Byte := if n = 8 then toLE 1 code else toLE 2 (code * 64)
    let chroma (e : Rat) : List Byte := put (quantQ (hcFull cfg) true n e)
    let luma := lines 0 fun y => (List.range w).flatMap fun x => put (q n (ycc x y 0))
    if fmt = 0x14 then
      luma ++ (lines 1 fun y => (List.range w).flatMap fun x => chroma (ycc x y 1)) ++
        (lines 2 fun y => (List.range w).flatMap fun x => chroma (ycc x y 2))
    else
      luma ++ lines 1 fun y => (List.range (w / 2)).flatMap fun i =>
        [1, 2].flatMap fun k =>
          chroma ((ycc (2 * i - 1) y k + 2 * ycc (2 * i) y k + ycc (min (2 * i + 1) (w - 1)) y k) / 4)

end Sys2Proof.Machine
end

