-- ==== Sys2Proof/Machine/Memory.lean ====
section
/-!
DEFINITION. Machine/Memory.lean: byte memories, refresh, training, the scrubs of HBM and Lagoon, bank pressure
and the memory settings (12 R329-R341).
-/
namespace Sys2Proof.Machine

/-! Byte memories in canonical form. -/

/-- What an unlisted address reads as. -/
def emptyByte : Byte := 0

/-- Read one byte. -/
def memRead : List Host.Cell → Nat → Byte
  | [], _ => emptyByte
  | (k, b) :: l, a => if a = k then b else memRead l a

/-- Write one byte, keeping addresses rising and no empty byte listed. -/
def memWrite : List Host.Cell → Nat → Byte → List Host.Cell
  | [], a, v => if v = emptyByte then [] else [(a, v)]
  | (k, b) :: l, a, v =>
    if a < k then (if v = emptyByte then (k, b) :: l else (a, v) :: (k, b) :: l)
    else if a = k then (if v = emptyByte then l else (a, v) :: l)
    else (k, b) :: memWrite l a v

/-- Write bytes from an address up. -/
def memWriteBytes (m : List Host.Cell) : Nat → List Byte → List Host.Cell
  | _, [] => m
  | a, v :: vs => memWriteBytes (memWrite m a v) (a + 1) vs

/-- Read n bytes from an address up, little-endian. -/
def memReadLe (m : List Host.Cell) (a n : Nat) : Nat := leNat ((List.range n).map fun i => memRead m (a + i))

/-- Every address is above a bound, addresses rise and no byte is empty. -/
def cellsAbove : Nat → List Host.Cell → Bool
  | _, [] => true
  | n, (k, b) :: l => decide (n ≤ k) && b != emptyByte && cellsAbove (k + 1) l

/-- The canonical form of a byte memory. -/
def cellsWf (m : List Host.Cell) : Bool := cellsAbove 0 m

/-- The canonical form of every memory of the machine. -/
def Mem.wf (m : Mem) : Bool := cellsWf m.lagoon && cellsWf m.win0 && cellsWf m.win1 && cellsWf m.tcm0 && cellsWf m.tcm1

/-! Refresh and training (12 R329, R330). -/

def hbmRefresh (pc : Nat) (d : Dev) : Dev :=
  if hbmRuns d && pc < hbmPcs d then bumpMem (pc / 32 * 16 + 7) 1 d else d

/-- HBM_REFRESH: one of the 16 banks of each stack ID is refreshed. -/
def execHbmRefresh (pc bank : Nat) (s : State) : Host.Outcome State Fault Refusal :=
  .next (s.mapDev fun d => if bank < 48 then hbmRefresh pc d else d)

/-- HBM_TRAINING: less margin than before keeps the previous settings. -/
def hbmTraining (pc margin : Nat) (d : Dev) : Dev :=
  if hbmRuns d && pc < hbmPcs d then
    let d := bumpMem (pc / 32 * 16 + 8) 1 d
    if ((d.hbm.margin.getD pc none).any fun m => margin < m) then
      raise evMemory 4 0 (pc / 32 + pc % 32 * 2 ^ 8) d
    else modHbm (fun h => { h with margin := h.margin.setIfInBounds pc (some margin) }) d
  else d

def execHbmTraining (pc margin : Nat) (s : State) : Host.Outcome State Fault Refusal :=
  .next (s.mapDev (hbmTraining pc margin))

/-! Patrol scrub (12 R331). -/

/-- Bits flip: in the DRAM, or in the entry of a write queue (12 R325, R326). A poisoned sector stays so. -/
def flip (u : Upset) (h : Hbm) : Hbm :=
  if u.queued then { h with queue := h.queue.map fun q => if q.sec = u.sec then { q with bad := true } else q }
  else if h.poison.contains u.sec then h
  else { h with upset := tabSet h.upset u.sec u.bits }

/-- What the row says has flipped: elsewhere, and in the sector that the scrub comes to. -/
def flips (r : EccRead) (d : Dev) : Dev :=
  let own : List Upset :=
    if r.uncorrectable then [{ sec := d.hbm.pos, bits := 0, queued := false }]
    else if r.corrected != 0 then [{ sec := d.hbm.pos, bits := r.corrected, queued := false }] else []
  modHbm (fun h => (r.upsets ++ own).foldl (fun h u => flip u h) h) d

/-- A sector found corrected is written back (12 R328, R331, R336). -/
def scrubCorrected (sec bits : Nat) (d : Dev) : Dev :=
  memCorrected scrubUser 2 11 bits sec (modHbm (fun h => { h with
    passCorr := h.passCorr + 1, upset := h.upset.filter fun x => x.1 != sec }) d)

/-- A sector found uncorrectable is poisoned and logged (12 R327, R331). -/
def scrubUncorrectable (sec : Nat) (d : Dev) : Dev :=
  memLost scrubUser 2 2 sec (bumpStack (secPlace d sec) 13
    (modHbm (fun h => setPoison sec { h with passUnc := h.passUnc + 1 }) d))

/-- The scrub's read of a sector: skipped where a write to it is queued; one already poisoned is counted (12 R331). -/
def scrubSector (sec : Nat) (d : Dev) : Dev :=
  if (queued d sec).isSome then d
  else if d.hbm.poison.contains sec then bumpStack (secPlace d sec) 14 d
  else match tabGet d.hbm.upset sec with
    | none => d
    | some 0 => scrubUncorrectable sec d
    | some bits => scrubCorrected sec bits d

/-- The end of a pass (12 R331): SCRUB_PASS, and a new pass begins at address 0. -/
def scrubPassEnd (d : Dev) : Dev :=
  let det := d.hbm.passCorr % 2 ^ 32 + d.hbm.passUnc % 2 ^ 32 * 2 ^ 32
  let d := bumpMem 9 1 (modHbm (fun h => { h with pos := 0, passCorr := 0, passUnc := 0, rows := [] }) d)
  let d := if d.ident.b24 then d else bumpMem 25 1 d
  raise evMemory 5 0 det d

/-- SCRUB_READ: the next sector in ascending order. -/
def scrubRead (r : EccRead) (d : Dev) : Dev :=
  if !hbmRuns d then d
  else
    let d := flips r d
    let d := modHbm (fun h => { h with pos := h.pos + 1 }) (scrubSector d.hbm.pos d)
    if hbmBytes d ≤ 32 * d.hbm.pos then scrubPassEnd d else d

def execScrubRead (r : EccRead) (s : State) : Host.Outcome State Fault Refusal :=
  .next (s.mapDev (scrubRead r))

/-! Lagoon (12 R337-R339). -/

/-- Bytes of Lagoon: 64 banks of 3 MiB. -/
def lagoonBytes : Nat := 64 * 3 * 2 ^ 20

/-- Bank of a Lagoon offset (12 R337). -/
def lagoonBank (o : Nat) : Nat := bitsOf o 6 6 ^^^ bitsOf o 12 6

/-- The 8 bytes of a lost word of a line that still waits in its port's line store are delivered as zero; the line's check
no longer matches (12 R339, 11 R307). -/
def loseStored (w : StoreWord) (d : Dev) : Dev :=
  let p := portOf w.port
  let k := port d p
  let waits := (k.store.filter fun t => nowPclk d < t).length
  match k.cur with
  | none => d
  | some f =>
    let lines := f.lines.zipIdx.map fun (l, i) =>
      if f.lines.length ≤ i + waits && l.1 == w.stream && l.2.1 == w.line then
        (l.1, l.2.1, l.2.2.zipIdx.map fun (b, j) => if j / 8 = w.byte / 8 then 0 else b)
      else l
    modPort p (fun k => { k with cur := some { f with lines } }) d

/-- A Lagoon word is lost: it is poisoned and logged, by its reader or by the scrub (12 R328, R338-R340). -/
def lagoonLost (u : MemUser) (source off : Nat) (holds : Option StoreWord) (d : Dev) : Dev :=
  let w := off / 8
  let unit := lagoonBank off
  let d := bumpMem 33 1 (modHbm (fun h => { h with
    lagPoison := if h.lagPoison.contains w then h.lagPoison else w :: h.lagPoison }) d)
  let d := match holds with
    | some w => loseStored w d
    | none => d
  memUe u source 0xFF unit (logMem u source 2 0xFF unit off 0 d)

/-- A port's line store is read, RT0. -/
def storeUser (d : Dev) (w : StoreWord) : MemUser :=
  { handle := portHandle (portOf w.port), cls := 0, frame := ((port d (portOf w.port)).cur.map Frm.num).getD 0 }

/-- LAGOON_SCRUB: the next word, every 10 s over all of them (12 R338). -/
def lagoonScrub (r : LagRead) (d : Dev) : Dev :=
  if !hbmRuns d then d
  else
    let d := r.reads.foldl (fun d x => lagoonLost (storeUser d x.2) 4 (8 * (x.1 / 8)) (some x.2) d) d
    let off := 8 * d.hbm.lagPos
    let d := if d.hbm.lagPoison.contains d.hbm.lagPos then bumpMem 34 1 d
      else if r.uncorrectable then lagoonLost scrubUser 5 off r.holds d
      else if r.corrected != 0 then
        bumpMem 32 1 (logMem scrubUser 5 1 0xFF (lagoonBank off) off (r.corrected % 16) d)
      else d
    let d := modHbm (fun h => { h with lagPos := h.lagPos + 1 }) d
    if lagoonBytes ≤ 8 * d.hbm.lagPos then bumpMem 35 1 (modHbm (fun h => { h with lagPos := 0 }) d) else d

def execLagoonScrub (r : LagRead) (s : State) : Host.Outcome State Fault Refusal :=
  .next (s.mapDev (lagoonScrub r))

/-- LAGOON_REPAIR (12 R339): the firmware rewrites a poisoned table word from its HBM copy. -/
def execLagoonRepair (off : Nat) (copy : Dword) (s : State) : Host.Outcome State Fault Refusal :=
  let w := off / 8
  if s.dev.hbm.lagPoison.contains w then
    .next { s with
      mem := { s.mem with lagoon := memWriteBytes s.mem.lagoon (8 * w) (toLE 8 copy.toNat) }
      dev := modHbm (fun h => { h with lagPoison := h.lagPoison.filter (· != w) }) s.dev }
  else .next s

/-! Bank pressure (12 R335). -/

/-- FCLK in 100 ms. -/
def pressureFclk : Nat := 120000000

/-- One pseudo-channel's DF wait over the interval. -/
def pressureOne (waits : List Nat) (d : Dev) (c : Nat) : Dev :=
  let w := min ((waits[c]?).getD 0) pressureFclk
  if hbmPcs d ≤ c then d
  else
    let d := bumpMem (c / 32 * 16 + 5) w (bumpMem (36 + c) w d)
    if pressureFclk < 2 * w then raise evMemory 3 0 (c / 32 + c % 32 * 2 ^ 8 + w * 100 / pressureFclk * 2 ^ 16) d else d

/-- BANK_PRESSURE_INTERVAL: the DF wait FCLK of each pseudo-channel, and the longest wait of each stack. -/
def bankPressureInterval (waits longest : List Nat) (d : Dev) : Dev :=
  if !hbmRuns d then d
  else
    let d := (List.range 64).foldl (pressureOne waits) d
    (List.range 2).foldl (fun d i =>
      if hbmPcs d ≤ 32 * i then d
      else modHbm (fun h => { h with
        cnt := h.cnt.setIfInBounds (16 * i + 6) (max (h.cnt.getD (16 * i + 6) 0) (min ((longest[i]?).getD 0) (2 ^ 64 - 1))) }) d) d

def execBankPressureInterval (waits longest : List Nat) (s : State) : Host.Outcome State Fault Refusal :=
  .next (s.mapDev (bankPressureInterval waits longest))

/-! Settings (12 R336). -/

def specFeatureSetMemory : CmdSpec where
  op := .featureSetMemory
  layout := [(32, 0, 8), (36, 0, 24)]
  checks e :=
    [(36, decide (1 ≤ fld e 36 1) && decide (fld e 36 1 ≤ 168)), (37, decide (fld e 37 1 ≤ 3) || fld e 37 1 == 0xFF),
     (38, fld e 38 1 != 0)]

/-- FEATURE_SET MEMORY: SCRUB_HOURS and CE_ROW_LIMIT at once, HASH_PRESET for the next reset. -/
def featureSetMemoryBody (c : Outst) (d : Dev) : Ans :=
  okAns (modHbm (fun h => { h with hours := fld c.e 36 1, hash := fld c.e 37 1, ceLimit := fld c.e 38 1 }) d)

def execFeatureSetMemory (t : Nat) (s : State) : Host.Outcome State Fault Refusal :=
  .next (s.mapDev (hostRow specFeatureSetMemory t featureSetMemoryBody))

/-- CDW9 of MEMORY as stored, and the preset in force (12 R336). -/
def memoryFeature (d : Dev) : Nat := d.hbm.hours + d.hbm.hash * 2 ^ 8 + d.hbm.ceLimit * 2 ^ 16 + d.hbm.preset * 2 ^ 32

end Sys2Proof.Machine
end

