-- ==== Sys2Proof/Machine/Media.lean ====
section
/-!
DEFINITION. Machine/Media.lean: media ports, recording sessions and MEDIA_READ (13).
-/
namespace Sys2Proof.Machine

abbrev stExtentFull : Nat := 0x0700
abbrev stMediaRead : Nat := 0x0701
abbrev stCommitPending : Nat := 0x0702

/-! Media ports (13 R342-R345). -/

def medium (d : Dev) (m : MediaId) : Medium := d.media[m]
def modMedium (m : MediaId) (f : Medium → Medium) (d : Dev) : Dev := { d with media := d.media.set m (f (medium d m)) }
def mediumHandle (m : Nat) : Nat := mkHandle 0x0A 0 m
def mediaOf (n : Nat) : MediaId := ⟨n % 2, Nat.mod_lt _ (by decide)⟩

/-- MEDIUM_STATE (13 R361). -/
def mediumEvent (m : MediaId) (cause : Nat) (d : Dev) : Dev :=
  raise evMedia 1 (mediumHandle m.val) ((medium d m).state + cause * 2 ^ 8) d

/-- Media ports have power outside REEF (13 R362). -/
def mediaPowered (d : Dev) : Bool := d.boot.stage != 11 && d.pwr.state != 3

def mediumInserted (m : MediaId) (d : Dev) : Dev :=
  if (medium d m).state = 0 && mediaPowered d then
    mediumEvent m 1 (modMedium m (fun x => { x with state := 1 }) d)
  else d

def execMediumInserted (m : MediaId) (s : State) : Host.Outcome State Fault Refusal :=
  .next (s.mapDev (mediumInserted m))

def mediumInitDone (m : MediaId) (info : Option MediumInfo) (d : Dev) : Dev :=
  if (medium d m).state != 1 || !mediaPowered d then d
  else match info with
    | some i => mediumEvent m 1 (modMedium m (fun x => { x with state := 2, info := some i, nsid := 0 }) d)
    | none => mediumEvent m 4 (modMedium m (fun x => { x with state := 4, info := none, nsid := 0 }) d)

def execMediumInitDone (m : MediaId) (info : Option MediumInfo) (s : State) : Host.Outcome State Fault Refusal :=
  .next (s.mapDev (mediumInitDone m info))

/-! Sessions and streams (13 R346, R348). -/

def roMode (c : List Byte) : Nat := le c 0 1
def roMedia (c : List Byte) : Nat := le c 1 1
def roCount (c : List Byte) : Nat := le c 2 1 + 1
def roPrio (c : List Byte) : Nat := le c 3 1
def roCommitMs (c : List Byte) : Nat := le c 4 2
def roLow (c : List Byte) : Nat := le c 6 2
def roSession (c : List Byte) : Nat := le c 8 8
def roSource (c : List Byte) (i : Nat) : Nat := le c (16 + 4 * i) 4
def roAppTag (c : List Byte) : Nat := le c 48 2

def modRec (h : Nat) (f : RecSes → RecSes) (d : Dev) : Dev := { d with recs := tabMod d.recs h f }
def recOf (d : Dev) (h : Nat) : Option RecSes := (tabGet d.recs h).filter fun s => !s.gone

/-- The stream of a session on a port. -/
def RecSes.on (s : RecSes) (m : Nat) : Option RecStream := if m = 0 then s.s0 else s.s1
def RecSes.put (s : RecSes) (m : Nat) (x : RecStream) : RecSes :=
  if m = 0 then { s with s0 := some x } else { s with s1 := some x }

def modStream (h m : Nat) (f : RecStream → RecStream) (d : Dev) : Dev :=
  modRec h (fun s => match s.on m with
    | some x => s.put m (f x)
    | none => s) d

/-- Block size of a medium. -/
def lbsOf (d : Dev) (m : Nat) : Nat := (((d.media[m]?).bind Medium.info).map MediumInfo.lbs).getD 512

/-- Queued extent space of a stream, bytes (13 R352). -/
def extSpace (x : RecStream) : Nat := x.base + (x.exts.map (·.2)).foldl (· + ·) 0 - x.off

/-- Bytes of a session in staging: written on every live stream they leave it (13 R350). -/
def stagedBytes (s : RecSes) : Nat :=
  let n (x : Option RecStream) : Nat := match x with
    | some x => if x.failed then 0 else x.off - x.written
    | none => 0
  if roMode s.cfg = 2 then n s.s0 + n s.s1 else max (n s.s0) (n s.s1)

/-- FAILED_PORTS (13 R354). -/
def failedPorts (s : RecSes) : Nat := b2n (s.s0.any RecStream.failed) + b2n (s.s1.any RecStream.failed) * 2

/-- RESULT and EXT_RESULT of REC_COMMIT and REC_CLOSE (13 R354). -/
def recResult (s : RecSes) : Nat × Nat :=
  let done (x : Option RecStream) : Nat := (x.map RecStream.extDone).getD 0 % 2 ^ 16
  let com (x : Option RecStream) : Nat := (x.map RecStream.committed).getD 0 % 2 ^ 64
  (failedPorts s + s.state * 2 ^ 8 + done s.s0 * 2 ^ 32 + done s.s1 * 2 ^ 48, com s.s0 + com s.s1 * 2 ^ 64)

/-- Status of a commit or close (13 R355). -/
def recStatus (s : RecSes) : Nat := if s.state = 2 then stMediaWrite else if s.state = 1 then stMediaPartial else stSuccess

/-- A position is durable on a stream, or the stream has failed. -/
def reached (x : Option RecStream) (goal : Option Nat) : Bool :=
  match x, goal with
  | some x, some n => x.failed || decide (n ≤ x.committed)
  | _, _ => true

/-- The session object closes: it names nothing more and its reservations return; what remains to be
written is written out (13 R357). -/
def recGone (h : Nat) (d : Dev) : Dev :=
  returnResv h (closeObj h (modRec h (fun s => { s with gone := true }) d))

/-- A session that is gone leaves when nothing is owed for it. -/
def recDrop (h : Nat) (d : Dev) : Dev :=
  match tabGet d.recs h with
  | some s => if s.gone && s.waits.isEmpty && s.flushes.isEmpty then { d with recs := tabDel d.recs h } else d
  | none => d

/-- One commit or close that waits: it completes when its position is durable, or when the session is
DEGRADED; REC_DURABLE follows one that has completed with COMMIT_PENDING (13 R354, R355, R357). -/
def settleOne (h : Nat) (d : Dev) (w : RecWait) : Dev :=
  match tabGet d.recs h with
  | none => d
  | some s =>
    let drop (d : Dev) : Dev := modRec h (fun s => { s with waits := s.waits.filter fun x => x.tag != w.tag }) d
    let (res, ext) := recResult s
    if w.owed then
      let ev (m : Nat) (x : Option RecStream) (goal : Option Nat) (d : Dev) : Dev := match x, goal with
        | some x, some _ => if x.failed then d else raise evMedia 6 h (x.committed % 2 ^ 48 + m * 2 ^ 48) d
        | _, _ => d
      if reached s.s0 w.to0 && reached s.s1 w.to1 then drop (ev 1 s.s1 w.to1 (ev 0 s.s0 w.to0 d))
      else
        -- each stream is reported when its own items become durable
        let one (m : Nat) (x : Option RecStream) (goal : Option Nat) (d : Dev) : Dev :=
          if goal.isSome && reached x goal then
            ev m x goal (modRec h (fun s => { s with waits := s.waits.map fun y =>
              if y.tag = w.tag then (if m = 0 then { y with to0 := none } else { y with to1 := none }) else y }) d)
          else d
        one 1 s.s1 w.to1 (one 0 s.s0 w.to0 d)
    else if s.state = 2 || (reached s.s0 w.to0 && reached s.s1 w.to1) then
      let d := completeTag (some w.tag) (recStatus s) res ext (drop d)
      if w.close then recGone h d else d
    else d

/-- Everything that a change of a session's streams completes. -/
def settleRec (h : Nat) (d : Dev) : Dev :=
  match tabGet d.recs h with
  | none => d
  | some s => recDrop h (modRec h (fun s => { s with
      flushes := s.flushes.filter fun f => !(reached s.s0 f.2.1 && reached s.s1 f.2.2) }) (s.waits.foldl (settleOne h) d))

/-- A Flush is sent where one is wanted, every Write up to there has completed and none covers it (13 R348). -/
def flushNow (h m : Nat) (d : Dev) : Dev :=
  match (tabGet d.recs h).bind fun s => s.on m with
  | none => d
  | some x =>
    let best := x.flushing.foldl max x.committed
    if !x.failed && decide (x.want ≤ x.written) && decide (best < x.want) then
      emit (.nvme m 0x00 h 0 []) (modStream h m (fun x => { x with
        flushing := x.flushing ++ [x.written], flushNs := x.flushNs ++ [d.tu.ns] }) d)
    else d

/-- A Flush is wanted for everything in staging, or for what is written (13 R348). -/
def wantFlush (h : Nat) (staged : Bool) (d : Dev) : Dev :=
  [0, 1].foldl (fun d m =>
    flushNow h m (modStream h m (fun x => { x with want := max x.want (if staged then x.off else x.written) }) d)) d

/-! Items (13 R346-R348, R353). -/

/-- The bytes of an item, zero padded to whole blocks (13 R346). -/
def itemBytes (lbs kind src flags session streamSeq srcSeq off : Nat) (u : AuOut) : List Byte :=
  let segs := if kind = 1 then u.segs else if kind = 3 then segsOf u.bytes.length else []
  let h := pack [(4, 0x54494B56), (1, 1), (1, kind), (1, src), (1, flags), (8, session), (4, streamSeq), (4, srcSeq), (8, u.pts),
    (4, u.num), (4, u.status), (4, u.bytes.length), (2, segs.length), (2, 0), (8, off), (4, 0)]
  let h := h ++ toLE 4 (crc32c h).toNat
  let b := h ++ u.bytes ++ (cutBytes segs u.bytes).flatMap fun s => toLE 8 (crc64Xz s).toNat
  fit (divUp b.length lbs * lbs) b

/-- Protection information of a block (13 R347; the field order of NVMe is PRESUMED). -/
def blockPi (appTag lba : Nat) (b : List Byte) : List Byte :=
  toLE 8 (crc64Nvme b).toNat ++ toLE 2 appTag ++ toLE 6 lba

/-- Where the bytes from a stream offset go: pieces inside the extents, each at most a number of bytes. -/
def extPieces (lbs most : Nat) : List (Nat × Nat) → Nat → List Byte → List (Nat × List Byte)
  | [], _, _ => []
  | (slba, n) :: es, off, b =>
    if n ≤ off then extPieces lbs most es (off - n) b
    else
      let here := b.take (n - off)
      let rest := b.drop (n - off)
      (pieces most here).zipIdx.map (fun (p, i) => (slba + (off + most * i) / lbs, p)) ++
        (if rest.isEmpty then [] else extPieces lbs most es 0 rest)

/-- Bytes of a Write as they leave: with protection information where it is in use. -/
def wireBytes (d : Dev) (m lba appTag : Nat) (b : List Byte) : List Byte :=
  let lbs := lbsOf d m
  if ((d.media[m]?).map Medium.pi).getD false then
    (pieces lbs b).zipIdx.flatMap fun (p, i) => p ++ blockPi appTag (lba + i) p
  else b

/-- Largest Write: min(MDTS, 1 MiB) in whole blocks. -/
def mostWrite (d : Dev) (m : Nat) : Nat :=
  let lbs := lbsOf d m
  max lbs (min ((((d.media[m]?).bind Medium.info).map MediumInfo.mdts).getD lbs) (2 ^ 20) / lbs * lbs)

/-- What the media port reads of a unit, and, where it may not write all of it, how many bytes of the item it may. -/
structure PortRead where
  dev   : Dev
  bytes : List Byte
  most  : Option Nat

/-- Offset in an item of the first segment or Holm Raw part in which bytes were lost or whose check fails. -/
def refusedAt (u : AuOut) (segs : List Nat) (got : List Byte) (lost : List Nat) : Nat :=
  let ends := (List.range segs.length).map fun i => (segs.take (i + 1)).sum
  let bad (i : Nat) : Bool :=
    let e := ends.getD i 0
    let b := (got.take e).drop (e - segs.getD i 0)
    lost.any (fun o => decide (o < e) && decide (e - segs.getD i 0 < o + 32)) ||
      (match u.checks[i]? with
        | some c => crc64Xz b != c
        | none => u.holm && i != 1 && !holmCheckOk b)
  64 + match (List.range segs.length).find? bad with
    | some i => ends.getD i 0 - segs.getD i 0
    | none => 0

/-- Segment checks, or HDR_CHECK and TILE_CHECK, of a unit that fail: how many, of the header, and STREAM_CHECK's kind (11 R303,
R315). -/
def unitBad (u : AuOut) (got : List Byte) : Nat × Bool × Nat :=
  if u.holm then let x := badHolm u.segs got; (x.1, x.2, 2) else (badSegs u.segs u.checks got, false, 1)

/-- The media port reads a unit out of staging and verifies it: on a mismatch, or poison, it reads once more, and refuses the
blocks of the segment or tile that fails again (11 R309; 12 R327). Staging is where the source completed the unit (DESIGN CHOICE, log
106). -/
def portRead (h m : Nat) (u : AuOut) (d : Dev) : PortRead :=
  let user : MemUser := { handle := h, cls := 1, frame := u.num }
  let fails (got : List Byte) (lost : Bool) : Bool :=
    lost || (((d.media[m]?).map Medium.pi).getD false && ((unitBad u got).1 != 0 || (unitBad u got).2.1))
  let (d, got, lost) := readUnit user u.addr u.bytes d
  if !fails got lost then { dev := d, bytes := got, most := none }
  else
    let (d, l) := if u.addr = 0 then (d, []) else hbmRead user u.addr u.bytes.length d
    let holes := l.map fun sec => 32 * sec - u.addr
    let again := zeroLost holes u.bytes
    if !fails again (!l.isEmpty) then { dev := bumpInteg 12 d, bytes := again, most := none }
    else
      let (n, hdr, kind) := unitBad u again
      { dev := streamCheck h u.num 3 1 false (b2n hdr) (streamCheck h u.num kind 1 false n d), bytes := again
        most := some (refusedAt u u.segs again holes) }

/-- An item joins a stream and its Writes are sent (13 R348), as far as the port may write it (11 R309). -/
def writeItem (h m : Nat) (mk : RecStream → List Byte) (most : Option Nat) (d : Dev) : Dev :=
  match tabGet d.recs h with
  | none => d
  | some s =>
    match s.on m with
    | none => d
    | some x =>
      let b := mk x
      let lbs := lbsOf d m
      let sent := (most.map fun n => b.take (n / lbs * lbs)).getD b
      let ws := if sent.isEmpty then [] else extPieces lbs (mostWrite d m) x.exts (x.off - x.base) sent
      let d := ws.foldl (fun d w => emit (.nvme m 0x01 h w.1 (wireBytes d m w.1 (roAppTag s.cfg) w.2)) d) d
      modStream h m (fun x => { x with
        seq := x.seq + 1, off := x.off + b.length
        items := x.items ++ [{ off := x.off, len := b.length, writes := ws, retried := false, sent := d.tu.ns }] }) d

/-- EXTENTS_LOW once, until space has risen again (13 R353). -/
def lowCheck (h m : Nat) (d : Dev) : Dev :=
  match tabGet d.recs h with
  | none => d
  | some s =>
    match s.on m with
    | none => d
    | some x =>
      let lim := roLow s.cfg * 2 ^ 20
      let sp := extSpace x
      if lim = 0 || x.failed then d
      else if sp < lim then
        if x.low then d
        else raise evMedia 4 h (m + sp / 2 ^ 20 % 2 ^ 32 * 2 ^ 32) (modStream h m (fun x => { x with low := true }) d)
      else if lim < sp then modStream h m (fun x => { x with low := false }) d
      else d

/-- Live streams an item goes to: both in MIRROR, by SRC_SEQ in STRIPE (13 R351). -/
def itemStreams (s : RecSes) (srcSeq : Nat) : List Nat :=
  ([0, 1].filter fun m => (s.on m).any fun x => !x.failed).filter fun m => roMode s.cfg != 2 || srcSeq % 2 == m

/-! Stream failures (13 R355). -/

/-- A stream fails: the mode decides what becomes of the session. -/
def streamFail (h m cause : Nat) (d : Dev) : Dev :=
  match tabGet d.recs h with
  | none => d
  | some s =>
    match s.on m with
    | none => d
    | some x =>
      if x.failed then d
      else
        let d := modStream h m (fun x => { x with failed := true, items := [], flushing := [], flushNs := [] }) d
        let other := (s.on (1 - m)).any fun y => !y.failed
        let state := if roMode s.cfg = 1 && other then 1 else 2
        let d := modRec h (fun s => { s with state, ready := if state = 2 then [] else s.ready }) d
        let d := if s.gone then d else setObjSt h 4 d
        let ports := failedPorts ((tabGet d.recs h).getD s)
        let d := if state = 1 then raise evMedia 2 h (m + cause * 2 ^ 8) d else raise evMedia 3 h ports d
        settleRec h d

/-- A REC_CLOSE of the session that waits for its step was fetched before the unit was completed (13 R357). -/
def afterClose (d : Dev) (h : Nat) (u : AuOut) : Bool :=
  d.host.outst.any fun c => c.op == .recClose && c.phase == .fetched && c.e.handle.toNat == h && decide (c.ns < u.at')

/-- An item is written on one of its streams: the port reads the unit, and a refused block fails the stream (11 R309; 13 R355). -/
def itemTo (h : Nat) (u : AuOut) (mk : List Byte → RecStream → List Byte) (m : Nat) (d : Dev) : Dev :=
  let r := portRead h m u d
  let d := lowCheck h m (writeItem h m (mk r.bytes) r.most r.dev)
  if r.most.isSome then streamFail h m 4 d else d

/-- REC_ITEM_READY: the oldest unit of a source becomes an item, or is discarded whole (13 R348, R353). -/
def recItemReady (h src : Nat) (d : Dev) : Dev :=
  match tabGet d.recs h with
  | none => d
  | some s =>
    match s.ready.find? fun r => r.1 == src && !afterClose d h r.2, s.srcs[src]? with
    | some (_, u), some q =>
      let d := modRec h (fun s => { s with
        ready := (s.ready.takeWhile fun r => r.1 != src) ++ ((s.ready.dropWhile fun r => r.1 != src).drop 1) }) d
      if s.state = 2 then d
      else
        let ms := itemStreams s q.seq
        let lbs := lbsOf d (ms.head?.getD 0)
        let flags := b2n u.rap + b2n q.gap * 2 + b2n u.damaged * 4
        let mk (b : List Byte) (x : RecStream) : List Byte :=
          itemBytes lbs q.kind src flags (roSession s.cfg) x.seq q.seq x.off { u with bytes := b }
        let len := (mk u.bytes { exts := [], base := 0, extDone := 0, seq := 0, off := 0, items := [], written := 0, committed := 0,
                                 flushing := [], want := 0, failed := false, low := false }).length
        let noRoom := ms.any fun m => (s.on m).any fun x => decide (extSpace x < len)
        let full := decide (s.staging < stagedBytes s + len)
        let drop := noRoom || full
        let d := modRec h (fun s => { s with
          srcs := s.srcs.zipIdx.map fun (y, i) => if i = src then { y with seq := y.seq + 1, gap := drop } else y }) d
        if drop then raise evMedia 5 h (src + (if noRoom then 1 else 2) * 2 ^ 8 + q.seq % 2 ^ 32 * 2 ^ 32) d
        else ms.foldl (fun d m => itemTo h u mk m d) d
    | _, _ => d

def execRecItemReady (ses src : Nat) (s : State) : Host.Outcome State Fault Refusal :=
  .next (s.mapDev (recItemReady ses src))

/-- Every stream on a medium fails. -/
def mediumFail (m : MediaId) (cause : Nat) (d : Dev) : Dev :=
  d.recs.foldl (fun d p => streamFail p.1 m.val cause d) d

/-- Every NVMe command of a port counts as failed (13 R343). -/
def portFail (m : MediaId) (d : Dev) : Dev :=
  let x := medium d m
  let d := (d.reads.filter fun r => r.port == m.val).foldl (fun d r => readEnd r stMediaRead true d) d
  let d := modMedium m (fun x => { x with attach := none }) d
  let d := mediumFail m 1 d
  completeTag (x.attach.map (·.1)) stConflict 0 0 d

def mediumRemoved (m : MediaId) (d : Dev) : Dev :=
  if (medium d m).state = 0 then d
  else if !mediaPowered d then modMedium m (fun x => { x with state := 0 }) d
  else portFail m (mediumEvent m 2 (modMedium m (fun x => { x with state := 0, info := none, nsid := 0, pi := false }) d))

def execMediumRemoved (m : MediaId) (s : State) : Host.Outcome State Fault Refusal :=
  .next (s.mapDev (mediumRemoved m))

def mediaLinkDown (m : MediaId) (fatal : Bool) (d : Dev) : Dev :=
  if (medium d m).state = 0 || (medium d m).state = 4 || !mediaPowered d then d
  else portFail m (mediumEvent m (if fatal then 5 else 3)
    (modMedium m (fun x => { x with state := 4, info := none, nsid := 0, pi := false }) d))

def execMediaLinkDown (m : MediaId) (fatal : Bool) (s : State) : Host.Outcome State Fault Refusal :=
  .next (s.mapDev (mediaLinkDown m fatal))

/-! MEDIA_ATTACH (13 R345). -/

def mediaArg (e : Sqe) : MediaId := mediaOf (hIdx e.handle.toNat)

def specMediaAttachAttach : CmdSpec where
  op := .mediaAttachAttach
  layout := [(32, 0, 64)]
  checks e := [(33, decide (fld e 33 1 ≤ 2)), (34, fld e 34 2 == 0 || (decide (10 ≤ fld e 34 2) && decide (fld e 34 2 ≤ 1000)))]
  handle := .fixed 0x0A 2

/-- The namespace can be attached (13 R342, R345). -/
def nsOk (i : MediumInfo) (nsid mode : Nat) : Bool :=
  i.nsid == nsid && nsid != 0 && (i.lbs == 512 || i.lbs == 4096) && [0, 8, 16].contains i.mdSize && (mode != 1 || i.pi64)

def mediaAttachAttachBody (c : Outst) (d : Dev) : Ans :=
  let m := mediaArg c.e
  let x := medium d m
  let mode := fld c.e 33 1
  check (match x.info with
    | some i => x.state != 2 || nsOk i (fld c.e 36 4) mode
    | none => true) stInvalidField <|
  check (x.state == 2 && x.attach.isNone && decide (d.pwr.state < 2)) stConflict <|
  let pi := mode != 2 && (x.info.map MediumInfo.pi64).getD false
  let lim := if fld c.e 34 2 = 0 then 250 else fld c.e 34 2
  .stay (emit (.nvme m.val 0x80 0 0 []) (modMedium m (fun x => { x with attach := some (c.tag, fld c.e 36 4, pi, lim) }) d)) .stepped

def execMediaAttachAttach (t : Nat) (s : State) : Host.Outcome State Fault Refusal :=
  .next (s.mapDev (hostRow specMediaAttachAttach t mediaAttachAttachBody))

def ioQueuesCreated (m : MediaId) (d : Dev) : Dev :=
  match (medium d m).attach with
  | none => d
  | some (t, nsid, pi, lim) =>
    if (medium d m).state != 2 then d
    else completeTag (some t) stSuccess 0 0
      (modMedium m (fun x => { x with state := 3, nsid, pi, limitMs := lim, attach := none }) d)

def execIoQueuesCreated (m : MediaId) (s : State) : Host.Outcome State Fault Refusal :=
  .next (s.mapDev (ioQueuesCreated m))

/-- A recording session writes to a medium. -/
def mediumUsed (d : Dev) (m : MediaId) : Bool := d.recs.any fun p => !p.2.gone && (p.2.on m.val).isSome

def specMediaAttachDetach : CmdSpec where
  op := .mediaAttachDetach
  layout := [(32, 0, 8)]
  handle := .fixed 0x0A 2

def mediaAttachDetachBody (c : Outst) (d : Dev) : Ans :=
  let m := mediaArg c.e
  check ((medium d m).state == 3 && (medium d m).detach.isNone && !mediumUsed d m) stConflict <|
  .stay (emit (.nvme m.val 0x81 0 0 []) (emit (.nvme m.val 0x00 0 0 [])
    (modMedium m (fun x => { x with detach := some c.tag, detachNs := d.tu.ns }) d))) .stepped

def execMediaAttachDetach (t : Nat) (s : State) : Host.Outcome State Fault Refusal :=
  .next (s.mapDev (hostRow specMediaAttachDetach t mediaAttachDetachBody))

/-- NVME_SHUTDOWN_DONE: the controller reports shutdown complete, or TIMEOUT_MS has passed (13 R345). -/
def nvmeShutdownDone (m : MediaId) (reported : Bool) (d : Dev) : Dev :=
  match (medium d m).detach with
  | none => d
  | some t =>
    if !reported && decide (d.tu.ns < (medium d m).detachNs + (medium d m).limitMs * 1000000) then d
    else completeTag (some t) stSuccess 0 0 (modMedium m (fun x => { x with
      detach := none, nsid := 0, pi := false, state := if x.state = 3 then 2 else x.state }) d)

def execNvmeShutdownDone (m : MediaId) (reported : Bool) (s : State) : Host.Outcome State Fault Refusal :=
  .next (s.mapDev (nvmeShutdownDone m reported))

def specMediaAttachInfo : CmdSpec where
  op := .mediaAttachInfo
  layout := [(32, 0, 8)]
  data := someData
  handle := .fixed 0x0A 2

/-- The structure of MEDIA_ATTACH INFO (13 R345). -/
def mediumInfoBytes (d : Dev) (m : MediaId) : List Byte :=
  let x := medium d m
  match x.info with
  | none => [BitVec.ofNat 8 x.state] ++ zeros 255
  | some i =>
    fit 256 (pack [(1, x.state), (1, i.linkRate), (1, i.linkWidth), (1, b2n i.pi64), (4, i.lbs), (2, i.mdSize), (2, i.tempK),
      (4, x.nsid), (8, i.nsze), (4, i.mdts), (4, mediaCapacity d m.val)] ++ fit 20 i.sn ++ fit 40 i.mn ++ fit 8 i.fr)

def mediaAttachInfoBody (c : Outst) (d : Dev) : Ans :=
  okAns (writeData c (mediumInfoBytes d (mediaArg c.e)) d)

def execMediaAttachInfo (t : Nat) (s : State) : Host.Outcome State Fault Refusal :=
  .next (s.mapDev (hostRow specMediaAttachInfo t mediaAttachInfoBody))

/-! REC_OPEN (13 R349, R350). -/

/-- r_s as a fraction, P_s, D_s as a fraction and SEGMAX_s of a source (13 R350). -/
structure SrcRate where
  kind : Nat
  rn   : Nat
  rd   : Nat
  p    : Nat
  dn   : Nat
  dd   : Nat
  segs : Nat

/-- Frames of an audio stream's period, stride and sample rate (16 R423). -/
def asPeriod (s : AudSes) : Nat := le s.cfg 8 2 + 1
def asStride (s : AudSes) : Nat := divUp (64 + asPeriod s * le s.cfg 6 1 * (if le s.cfg 2 1 = 0 then 4 else 2)) 4096 * 4096
def fsOf (code : Nat) : Nat := if code = 0 then 48000 else if code = 1 then 96000 else 192000
/-- Bits of a TDM slot, and PDM_GAIN (16 R418). -/
def acSlotBits (c : List Byte) : Nat := le c 5 1
def acGain (c : List Byte) : Nat := le c 12 1

/-- The 24-bit sample of a slot or channel (16 R413, R414). -/
def audValue (c : List Byte) : AudIn → Int
  | .slot w =>
    if acSlotBits c = 16 then signed 16 (w % 2 ^ 16) * 256
    else if acSlotBits c = 24 then signed 24 (w % 2 ^ 24)
    else signed 24 (w / 2 ^ 8 % 2 ^ 24)
  | .density ones bits =>
    let q : Rat := (2 * ((ones : Nat) : Rat) / ((max 1 bits : Nat) : Rat) - 1) * ((2 ^ (23 + acGain c) : Nat) : Rat)
    max (-8388607) (min 8388607 (rndAway q))

/-- The channels of a mask in a frame, ascending (16 R424). -/
def audPick (c : List Byte) (mask : Nat) (f : AudFrame) : List Int :=
  ((List.range 16).filter (bitOf mask)).map fun k => ((f[k]?).map (audValue c)).getD 0

/-- Frame i of a port is muted (16 R417). -/
def audMuted (x : AudPort) (i : Nat) : Bool :=
  (x.lost && decide (x.lostAt ≤ i)) || x.muted.any fun m => decide (m.1 ≤ i) && decide (i < m.2)

/-- The samples of frames from a first one, those of muted frames 0. -/
def audSamples (x : AudPort) (mask first : Nat) (frames : List AudFrame) : List (List Int) :=
  frames.zipIdx.map fun (f, i) => (audPick x.cfg mask f).map fun v => if audMuted x (first + i) then 0 else v

def asRate (d : Dev) (s : AudSes) : Nat := fsOf (le (((d.auds[s.port]?).map AudPort.cfg).getD []) 3 1)

/-- What REC_OPEN needs to know of a source; none where the handle names none. -/
def srcRate (d : Dev) (h : Nat) : Option SrcRate :=
  match encOf d h, holmOf d h, d.auss.find? fun p => p.2.handle == h && !p.2.play && !p.2.shed with
  | some (_, s), _, _ =>
    let p := eoMaxAu s.cfg
    let (dn, dd) := if eoRc s.cfg = 0 then (p * s.rate.1, s.rate.2) else (eoMax s.cfg * 125, 1)
    some { kind := 1, rn := s.rate.1, rd := s.rate.2, p, dn, dd
           segs := divUp p 65536 + (if eoDirect s.cfg then ctus s.h else 0) }
  | _, some (_, s), _ =>
    let p := auMax s.cfg s.geo
    some { kind := 2, rn := hoFps s.cfg, rd := 1, p, dn := p * hoFps s.cfg, dd := 1, segs := 0 }
  | _, _, some (_, s) =>
    let q := divUp (asRate d s) (asPeriod s)
    some { kind := 3, rn := q, rd := 1, p := asStride s, dn := asStride s * q, dd := 1, segs := divUp (asStride s) 65536 }
  | _, _, _ => none

/-- I_s (13 R350). -/
def itemMax (lbs : Nat) (r : SrcRate) : Nat := divUp (64 + r.p + 8 * r.segs) lbs * lbs

/-- rate_s as a fraction (13 R350). -/
def itemRate (lbs : Nat) (r : SrcRate) : Nat × Nat :=
  (r.dn * r.rd + r.rn * (64 + lbs + 8 * r.segs) * r.dd, r.dd * r.rd)

def fracSum (l : List (Nat × Nat)) : Nat × Nat := l.foldl (fun a b => (a.1 * b.2 + b.1 * a.2, a.2 * b.2)) (0, 1)

/-- What one port carries of the sum: all of it, or a stripe's share (13 R350). -/
def portRate (mode lbs : Nat) (rs : List SrcRate) : Nat × Nat :=
  if mode = 2 then fracSum (rs.map fun r =>
    let (n, k) := itemRate lbs r
    (n * divUp r.rn (2 * r.rd) * r.rd, k * max 1 r.rn))
  else fracSum (rs.map (itemRate lbs))

/-- Ports that a MEDIA bitmap names. -/
def mediaPorts (b : Nat) : List Nat := [0, 1].filter fun m => bitOf b m

/-- Staging of a session, bytes. -/
def recStaging (lbs : Nat) (rs : List SrcRate) : Nat :=
  let (n, k) := fracSum (rs.map (itemRate lbs))
  divUp n (10 * k) + (rs.map fun r => 2 * itemMax lbs r).foldl (· + ·) 0

/-- The reservations of a session (13 R350). -/
def recWants (c : List Byte) (lbs : Nat) (rs : List SrcRate) : List (Nat × Nat × Nat) :=
  let ports := mediaPorts (roMedia c)
  let (pn, pk) := portRate (roMode c) lbs rs
  let (sn, sk) := fracSum (rs.map (itemRate lbs))
  let each := divUp pn (pk * 1000000)
  let bw := divUp (2 * sn * pk + ports.length * pn * sk) (sk * pk * 1000000)
  [(rcHbmBw, unitAll, bw), (rcHbmCap, unitAll, divUp (recStaging lbs rs) (2 ^ 20)), (rcLagoon, unitAll, 64)] ++
  ports.map (fun m => (rcMedia, m, each)) ++ [(rcPower, unitAll, divUp (each * ports.length * 2) 10)]

/-- Step 1 of R22 (13 R349). -/
def recValid (c : List Byte) : Bool :=
  let n := roCount c
  let srcs := (List.range n).map (roSource c)
  decide (roMode c ≤ 2) && (if roMode c = 0 then roMedia c == 1 || roMedia c == 2 else roMedia c == 3) && decide (le c 2 1 ≤ 7) &&
  (roCommitMs c == 0 || (decide (10 ≤ roCommitMs c) && decide (roCommitMs c ≤ 10000))) && roSession c != 0 &&
  zeroAt c (16 + 4 * n) (32 - 4 * n) && decide srcs.Nodup && roAppTag c != 0xFFFF && zeroAt c 50 78

def specRecOpen : CmdSpec where
  op := .recOpen
  layout := []
  data := structData 128
  inner e := innerCheck (recValid (fit 128 e.data))

/-- The recording sessions a source feeds. -/
def feeds (d : Dev) (h : Nat) : Nat := (d.recs.filter fun p => !p.2.gone && p.2.srcs.any fun x => x.handle == h).length

/-- A stream before its first extent. -/
def emptyStream : RecStream :=
  { exts := [], base := 0, extDone := 0, seq := 0, off := 0, items := [], written := 0, committed := 0, flushing := []
    want := 0, failed := false, low := true }

def attachedOk (d : Dev) (m : Nat) : Bool := (d.media[m]?).any fun x => x.state == 3 && x.detach.isNone

def recOpenBody (c : Outst) (d : Dev) : Ans :=
  let cfg := fit 128 c.e.data
  let hs := (List.range (roCount cfg)).map (roSource cfg)
  let rs := hs.filterMap (srcRate d)
  let ports := mediaPorts (roMedia cfg)
  let lbs := lbsOf d (ports.head?.getD 0)
  let same := lbsOf d 0 == lbsOf d 1 && (d.media[0]).pi == (d.media[1]).pi
  check (rs.length == hs.length) stInvalidHandle <|
  check (hs.all fun h => decide (feeds d h < 4)) stInvalidField <|
  check (ports.all (attachedOk d) && (roMode cfg == 0 || same) && decide (d.pwr.state < 2)) stConflict <|
  match freeSlot d 0x0B 16 with
  | none => .fail stExhausted 0xFF (resExt rcMedia unitAll 1 0)
  | some slot =>
    let (h, d) := openObj 0x0B slot c.qp 1 d
    withAdmission h true false (recWants cfg lbs rs) d fun d =>
      let ses : RecSes :=
        { handle := h, cfg, ready := [], staging := recStaging lbs rs, state := 0, waits := [], closing := false, gone := false
          srcs := (hs.zip rs).map fun (h, r) => { handle := h, kind := r.kind, seq := 0, gap := false }
          s0 := if ports.contains 0 then some emptyStream else none
          s1 := if ports.contains 1 then some emptyStream else none, lastNs := d.tu.ns }
      okAns { d with recs := tabSet d.recs h ses } (res := h)

def execRecOpen (t : Nat) (s : State) : Host.Outcome State Fault Refusal :=
  .next (s.mapDev (hostRow specRecOpen t recOpenBody))

/-! REC_EXTENTS (13 R352). -/

def specRecExtents : CmdSpec where
  op := .recExtents
  layout := [(32, 0, 8)]
  checks e := [(24, e.dataLen.toNat % 16 == 0), (32, decide (fld e 32 1 ≤ 1))]
  data := someData
  handle := .body

/-- The entries of an extent list: first block, blocks, and whether the reserved bytes are 0. -/
def extEntries (n : Nat) (l : List Byte) : List (Nat × Nat × Bool) :=
  (List.range (n / 16)).map fun i => (le l (16 * i) 8, le l (16 * i + 8) 4 + 1, zeroAt l (16 * i + 12) 4)

/-- Blocks that any session has queued or in use on a medium. -/
def extsOn (d : Dev) (m : Nat) : List (Nat × Nat) :=
  let lbs := lbsOf d m
  d.recs.flatMap fun p => match p.2.on m with
    | some x => if x.failed then [] else x.exts.map fun e => (e.1, e.2 / lbs)
    | none => []

/-- The first entry that leaves the namespace, overlaps, or sets reserved bytes. -/
def badExtent (nsze : Nat) : List (Nat × Nat) → Nat → List (Nat × Nat × Bool) → Option Nat
  | _, _, [] => none
  | used, i, (a, n, ok) :: es =>
    if !ok || nsze < a + n || used.any (fun u => a < u.1 + u.2 && u.1 < a + n) then some i
    else badExtent nsze ((a, n) :: used) (i + 1) es

def recExtentsBody (c : Outst) (d : Dev) : Ans :=
  let h := c.e.handle.toNat
  let m := fld c.e 32 1
  match recOf d h with
  | none => .fail stInvalidHandle 4 0
  | some s =>
    match s.on m with
    | none => .fail stInvalidField 32 0
    | some x =>
      let es := extEntries c.e.dataLen.toNat c.e.data
      let nsze := (((d.media[m]?).bind Medium.info).map MediumInfo.nsze).getD 0
      match badExtent nsze (extsOn d m) 0 es with
      | some i => .fail stInvalidField 0xFF i
      | none =>
        check (!x.failed && !s.closing) stConflict <|
        if 1024 < x.exts.length + es.length then .fail stExtentFull 0xFF 0
        else
          let lbs := lbsOf d m
          let d := modStream h m (fun x => { x with exts := x.exts ++ es.map fun (a, n, _) => (a, n * lbs) }) d
          let d := lowCheck h m d
          let sp := (((tabGet d.recs h).bind fun s => s.on m).map extSpace).getD 0
          okAns d (res := sp / 2 ^ 20 % 2 ^ 32)

def execRecExtents (t : Nat) (s : State) : Host.Outcome State Fault Refusal :=
  .next (s.mapDev (hostRow specRecExtents t recExtentsBody))

/-! Writes, Flushes and commits (13 R348, R354, R355). -/

/-- Extents that the written bytes have passed leave the stream (13 R352, R354). -/
def retireExts (x : RecStream) : List (Nat × Nat) → RecStream
  | [] => { x with exts := [] }
  | e :: es =>
    if x.base + e.2 ≤ x.written then retireExts { x with base := x.base + e.2, extDone := x.extDone + 1 } es
    else { x with exts := e :: es }

/-- The oldest Write of a stream completes. -/
def writeDone (x : RecStream) : RecStream :=
  match x.items with
  | [] => x
  | i :: is =>
    match i.writes with
    | _ :: w :: ws => { x with items := { i with writes := w :: ws, retried := false, again := 0 } :: is }
    | _ =>
      let x := { x with items := is, written := i.off + i.len }
      retireExts x x.exts

/-- NVME_WRITE_DONE: it completes, is retried once where the controller allows it, or fails the stream. -/
def nvmeWriteDone (h : Nat) (m : MediaId) (ok retryable : Bool) (d : Dev) : Dev :=
  match tabGet d.recs h with
  | none => d
  | some s =>
    match (s.on m.val), ((s.on m.val).bind fun x => x.items.head?) with
    | some x, some i =>
      if x.failed then d
      else if ok then settleRec h (flushNow h m.val (modStream h m.val writeDone d))
      else match i.writes with
        | w :: _ =>
          if retryable && !i.retried then
            emit (.nvme m.val 0x01 h w.1 (wireBytes d m.val w.1 (roAppTag s.cfg) w.2)) (modStream h m.val (fun x => { x with
              items := { i with retried := true, again := d.tu.ns } :: x.items.drop 1 }) d)
          else streamFail h m.val 2 d
        | [] => streamFail h m.val 2 d
    | _, _ => d

def execNvmeWriteDone (ses : Nat) (m : MediaId) (ok retryable : Bool) (s : State) : Host.Outcome State Fault Refusal :=
  .next (s.mapDev (nvmeWriteDone ses m ok retryable))

/-- NVME_FLUSH_DONE: what it covers is durable; committed offsets advance and commits complete. -/
def nvmeFlushDone (h : Nat) (m : MediaId) (ok : Bool) (d : Dev) : Dev :=
  match (tabGet d.recs h).bind fun s => s.on m.val with
  | none => d
  | some x =>
    match x.flushing with
    | [] => d
    | n :: ns =>
      if x.failed then d
      else if ok then
        settleRec h (modStream h m.val (fun x => { x with
          flushing := ns, flushNs := x.flushNs.drop 1, committed := max x.committed n }) d)
      else streamFail h m.val 2 d

def execNvmeFlushDone (ses : Nat) (m : MediaId) (ok : Bool) (s : State) : Host.Outcome State Fault Refusal :=
  .next (s.mapDev (nvmeFlushDone ses m ok))

/-- A Write or Flush of a stream has been outstanding for a time: its first Write from its retry, every other from its item's
start. -/
def overLimit (x : RecStream) (now limit : Nat) : Bool :=
  x.items.any (fun i =>
    (!i.writes.isEmpty && decide ((if i.retried then i.again else i.sent) + limit ≤ now)) ||
    (decide (1 < i.writes.length) && decide (i.sent + limit ≤ now))) ||
  x.flushNs.any fun t => decide (t + limit ≤ now)

/-- NVME_TIMEOUT: a Write or Flush of the stream is over TIMEOUT_MS (13 R345, R355). -/
def nvmeTimeout (h : Nat) (m : MediaId) (d : Dev) : Dev :=
  match (tabGet d.recs h).bind fun s => s.on m.val with
  | none => d
  | some x => if overLimit x d.tu.ns ((medium d m).limitMs * 1000000) then streamFail h m.val 3 d else d

def execNvmeTimeout (ses : Nat) (m : MediaId) (s : State) : Host.Outcome State Fault Refusal :=
  .next (s.mapDev (nvmeTimeout ses m))

/-- COMMIT_TIMER: every COMMIT_MS a Flush of what has been written. -/
def commitTimer (h : Nat) (d : Dev) : Dev :=
  match tabGet d.recs h with
  | none => d
  | some s =>
    if roCommitMs s.cfg = 0 || s.gone || d.tu.ns < s.lastNs + roCommitMs s.cfg * 1000000 then d
    else wantFlush h false (modRec h (fun s => { s with lastNs := d.tu.ns }) d)

def execCommitTimer (ses : Nat) (s : State) : Host.Outcome State Fault Refusal :=
  .next (s.mapDev (commitTimer ses))

/-- A commit's target on each stream: what was complete in staging at an instant, its fetch (13 R354). -/
def target (at' : Nat) (x : Option RecStream) : Option Nat :=
  x.bind fun x => if x.failed then none
    else some (((x.items.find? fun i => decide (at' < i.sent)).map RecItem.off).getD x.off)

def addWait (h : Nat) (c : Outst) (close : Bool) (at' : Nat) (d : Dev) : Dev :=
  modRec h (fun s => { s with
    waits := s.waits ++ [{ tag := c.tag, qp := c.qp, close, to0 := target at' s.s0, to1 := target at' s.s1, ns := c.ns
                           owed := false }] }) d

def specRecCommit : CmdSpec where
  op := .recCommit
  layout := []
  handle := .body

def recCommitBody (c : Outst) (d : Dev) : Ans :=
  let h := c.e.handle.toNat
  match recOf d h with
  | none => .fail stInvalidHandle 4 0
  | some s =>
    let (res, ext) := recResult s
    if s.state = 2 || (reached s.s0 (target c.ns s.s0) && reached s.s1 (target c.ns s.s1)) then .done d (recStatus s) res ext
    else .stay (wantFlush h true (addWait h c false c.ns d)) .waiting

def execRecCommit (t : Nat) (s : State) : Host.Outcome State Fault Refusal :=
  .next (s.mapDev (hostRow specRecCommit t recCommitBody))

/-- REC_COMMIT_TIMEOUT: 100 ms after fetch a commit or close completes with COMMIT_PENDING (13 R354, R357). -/
def recCommitTimeout (t : Nat) (d : Dev) : Dev :=
  match d.recs.find? fun p => p.2.waits.any fun w => w.tag == t && !w.owed with
  | none => d
  | some (h, s) =>
    if s.waits.any fun w => w.tag == t && decide (d.tu.ns < w.ns + 100000000) then d
    else
      let (res, ext) := recResult s
      let d := modRec h (fun s => { s with waits := s.waits.map fun w => if w.tag = t then { w with owed := true } else w }) d
      let d := completeTag (some t) stCommitPending res ext d
      if s.waits.any fun w => w.tag == t && w.close then recGone h d else d

def execRecCommitTimeout (t : Nat) (s : State) : Host.Outcome State Fault Refusal :=
  .next (s.mapDev (recCommitTimeout t))

/-! REC_CLOSE (13 R357). -/

def specRecClose : CmdSpec where
  op := .recClose
  layout := [(32, 0, 8)]
  checks e := [(32, decide (fld e 32 1 ≤ 1))]
  handle := .body

/-- An END item on every live stream that has room for it (13 R346, R357). -/
def endItems (h : Nat) (d : Dev) : Dev :=
  match tabGet d.recs h with
  | none => d
  | some s =>
    [0, 1].foldl (fun d m =>
      match s.on m with
      | some x =>
        let u : AuOut := { num := 0, status := 0, pts := d.tu.ns, rap := false, damaged := false, bytes := [], segs := [] }
        if x.failed || extSpace x < lbsOf d m then d
        else writeItem h m (fun x => itemBytes (lbsOf d m) 4 0xFF 0 (roSession s.cfg) x.seq 0 x.off u) none d
      | none => d) d

/-- What becomes of staging at a close: IMMEDIATE discards what no Write has begun, and nothing completed after an instant, the
fetch, is taken (13 R357). -/
def recShut (h : Nat) (now : Bool) (at' : Nat) (d : Dev) : Dev :=
  let d := modRec h (fun s => { s with ready := s.ready.filter fun r => decide (r.2.at' ≤ at') }) d
  let d := if now then modRec h (fun s => { s with ready := [] }) d
    else match tabGet d.recs h with
      | none => d
      | some s => s.ready.foldl (fun d r => recItemReady h r.1 d) d
  let d := modRec h (fun s => { s with closing := true }) d
  wantFlush h true (endItems h d)

def recCloseBody (c : Outst) (d : Dev) : Ans :=
  let h := c.e.handle.toNat
  match recOf d h with
  | none => .fail stInvalidHandle 4 0
  | some s =>
    check (!s.closing) stConflict <|
    let (res, ext) := recResult s
    if s.state = 2 then .done (recDrop h (recGone h d)) stMediaWrite res ext
    else
      let d := addWait h c true d.tu.ns (recShut h (fld c.e 32 1 == 1) c.ns d)
      -- the END items join what the close waits for
      .stay (setObjSt h 3 (modRec h (fun s => { s with
        waits := s.waits.map fun w =>
          if w.tag = c.tag then { w with to0 := target d.tu.ns s.s0, to1 := target d.tu.ns s.s1 } else w }) d)) .stepped

/-- REC_CLOSE (13 R357); a session with nothing left to make durable closes at once. -/
def recClose (t : Nat) (d : Dev) : Dev :=
  let h := ((findOutst d t).map fun c => c.e.handle.toNat).getD 0
  settleRec h (hostRow specRecClose t recCloseBody d)

/-- A FLUSH of a pair issues a Flush for what the recording sessions opened from it have in staging, and waits until it is
durable (02 R57, R58; 13 R348; DEDUCED, log 107). -/
def flushRecs (c : Outst) (d : Dev) : Dev :=
  let mine := (d.recs.filter fun p => p.2.state != 2 && d.evt.objs.any fun o => o.handle == p.1 && o.opener == c.qp).map (·.1)
  mine.foldl (fun d h => settleRec h (wantFlush h true (modRec h (fun s => { s with
    flushes := s.flushes ++ [(c.tag, target d.tu.ns s.s0, target d.tu.ns s.s1)] }) d))) d

def execRecClose (t : Nat) (s : State) : Host.Outcome State Fault Refusal :=
  .next (s.mapDev (recClose t))

/-- Thermal shedding closes a session as IMMEDIATE; a waiting REC_CLOSE completes with THERMAL_SHED (13 R362). -/
def recShed (h : Nat) (d : Dev) : Dev :=
  match recOf d h with
  | none => d
  | some s =>
    let d := if s.closing then d else recShut h true d.tu.ns d
    let (res, ext) := recResult s
    let d := (s.waits.filter fun w => w.close && !w.owed).foldl (fun d w => completeTag (some w.tag) stThermal res ext d) d
    let d := modRec h (fun s => { s with waits := s.waits.filter fun w => !w.close || w.owed }) d
    raise evMedia 7 h (failedPorts s) (recDrop h (recGone h d))

/-! MEDIA_READ (13 R358, R359). -/

def mediaReadLayout : List (Nat × Nat × Nat) := [(32, 0, 16), (36, 0, 128)]

/-- Blocks a MEDIA_READ names. -/
def readBlocks (e : Sqe) : Nat := fld e 48 4 + 1

def specMediaReadBlocks : CmdSpec where
  op := .mediaReadBlocks
  layout := mediaReadLayout
  checks e := [(33, fld e 33 1 == 0), (36, fld e 36 4 == 0)]
  data := someData
  handle := .fixed 0x0A 2

def specMediaReadItems : CmdSpec where
  op := .mediaReadItems
  layout := mediaReadLayout
  handle := .fixed 0x0A 2

/-- A read begins: the medium is asked for the blocks. -/
def readBegin (c : Outst) (items : Bool) (d : Dev) : Ans :=
  let m := mediaArg c.e
  let r : MediaRead :=
    { cmd := c.tag, port := m.val, items, source := fld c.e 33 1, dec := fld c.e 36 4, slba := fld c.e 40 8
      blocks := readBlocks c.e, got := [], done := 0, count := 0, lost := 0, expect := none, moved := 0, failed := none }
  .stay (emit (.nvme m.val 0x02 0 r.slba []) { d with reads := d.reads ++ [r] }) .waiting

/-- The range lies in the attached namespace. -/
def rangeOk (d : Dev) (e : Sqe) : Bool :=
  match (medium d (mediaArg e)).info with
  | some i => decide (fld e 40 8 + readBlocks e ≤ i.nsze)
  | none => true

def mediaReadBlocksBody (c : Outst) (d : Dev) : Ans :=
  let m := mediaArg c.e
  check ((medium d m).state != 3 || rangeOk d c.e) stInvalidField <|
  check ((medium d m).state != 3 || decide (readBlocks c.e * lbsOf d m.val ≤ c.e.dataLen.toNat)) stLength <|
  check (attachedOk d m.val && decide (d.pwr.state < 2)) stConflict <|
  readBegin c false d

def execMediaReadBlocks (t : Nat) (s : State) : Host.Outcome State Fault Refusal :=
  .next (s.mapDev (hostRow specMediaReadBlocks t mediaReadBlocksBody))

/-- An earlier command names the same decode session and has not taken effect (10 R289, 02 R49). -/
def decAhead (d : Dev) (c : Outst) : Bool :=
  (d.host.outst.takeWhile fun o => o.tag != c.tag).any fun o =>
    (o.phase == .fetched && o.e.handle.toNat == fld c.e 36 4) || (o.op == .mediaReadItems && fld o.e 36 4 == fld c.e 36 4)

def mediaReadItemsBody (c : Outst) (d : Dev) : Ans :=
  let m := mediaArg c.e
  check (decOf d (fld c.e 36 4)).isSome stInvalidHandle <|
  check ((medium d m).state != 3 || rangeOk d c.e) stInvalidField <|
  check (attachedOk d m.val && decide (d.pwr.state < 2)) stConflict <|
  if decAhead d c then .stay d .fetched else readBegin c true d

def execMediaReadItems (t : Nat) (s : State) : Host.Outcome State Fault Refusal :=
  .next (s.mapDev (hostRow specMediaReadItems t mediaReadItemsBody))

/-- An item's header as it stands in blocks (13 R346); none where MAGIC, VERSION or HDR_CRC fails. -/
structure ItemHead where
  kind : Nat
  source : Nat
  session : Nat
  streamSeq : Nat
  pts : Nat
  bytes : Nat
  segs : Nat
  off : Nat

def readItemHead (b : List Byte) : Option ItemHead :=
  if le b 0 4 != 0x54494B56 || le b 4 1 != 1 || b.length < 64 || le b 60 4 != (crc32c (b.take 60)).toNat then none
  else some
    { kind := le b 5 1, source := le b 6 1, session := le b 8 8, streamSeq := le b 16 4, pts := le b 24 8
      bytes := le b 40 4, segs := le b 44 2, off := le b 48 8 }

/-- Bytes follow checks one by one: each ends a segment of at most 65,536 bytes. `c` is the CRC of the segment so far and `n`
its bytes. -/
def segWalk (c : Dword) (n : Nat) : List Nat → List Byte → Bool
  | [], l => l.isEmpty && n == 0
  | _ :: _, [] => false
  | k :: ks, b :: l =>
    let c := crc64Byte 0xC96C5795D7870F42 c b
    if (c ^^^ 0xFFFFFFFFFFFFFFFF).toNat = k then segWalk 0xFFFFFFFFFFFFFFFF 0 ks l
    else if 65536 ≤ n + 1 then false
    else segWalk c (n + 1) (k :: ks) l

/-- The segment checks of an item hold. A DIRECT unit ends segments at CTU rows, which the item does not list: each segment ends
where its check first holds (DEDUCED, log 109). -/
def segmentsHold (h : ItemHead) (b : List Byte) : Bool :=
  let p := (b.drop 64).take h.bytes
  let cuts := segsOf h.bytes
  let checks := (List.range h.segs).map fun i => le b (64 + h.bytes + 8 * i) 8
  if h.segs = cuts.length then ((cutBytes cuts p).zip checks).all fun (s, c) => c == (crc64Xz s).toNat
  else segWalk 0xFFFFFFFFFFFFFFFF 0 checks p

/-- Checks of an item that fail, and their counter: segments, or of Holm Raw the header and the tiles (11 R311; 13 R356). -/
def itemBad (h : ItemHead) (b : List Byte) : Nat × Nat :=
  if h.kind = 2 then
    let p := (b.drop 64).take h.bytes
    match readHead p with
    | none => (1, 9)
    | some hd => (tileMismatches p hd + (if (List.range (tileOrder hd.geo hd.streams).length).all fun i =>
        ((tileOrder hd.geo hd.streams)[i]?).any fun (s, tx, ty) => (readTileAt p hd i s tx ty).isSome then 0 else 1), 9)
  else (b2n (!segmentsHold h b), 10)

/-- What the next item of a read in ITEMS mode comes to. -/
inductive ReadNext where
  /-- more blocks are needed -/
  | more
  /-- the decode session has no room for it -/
  | full
  /-- no item header stands where the read began -/
  | notItem
  /-- the read ends here -/
  | stop
  /-- the read ends here, at an item of which n checks fail: the counter that counts them -/
  | failed (n counter : Nat)
  /-- blocks passed, and what is delivered of them -/
  | item (blocks : Nat) (give : Option DecIn) (next : Nat × Nat × Nat)

/-- The next item: continuity and checks of R356, then the source and the room of the session (13 R358). -/
def readNext (d : Dev) (lbs : Nat) (r : MediaRead) (room : Nat) : ReadNext :=
  let rest := r.got.drop r.done
  match rest with
  | [] => if r.blocks ≤ r.done then .stop else .more
  | (b0, lost0) :: _ =>
    match (if lost0 then none else readItemHead b0) with
    | none => if r.expect.isNone then .notItem else .stop
    | some h =>
      let n := divUp (64 + h.bytes + 8 * h.segs) lbs
      let goes := match r.expect with
        | none => true
        | some (ses, sq, off) => h.session == ses && h.streamSeq == sq && h.off == off
      if !goes || h.kind = 4 || r.blocks < r.done + n then .stop
      else if rest.length < n then .more
      else
        let b := (rest.take n).flatMap (·.1)
        -- the payload bytes of the blocks that are lost
        let holes := ((rest.take n).zipIdx.filter fun x => x.1.2).filterMap fun x =>
          let o := lbs * x.2 - 64
          if h.bytes ≤ o then none else some (o, min h.bytes (lbs * (x.2 + 1) - 64) - o)
        let lost := (rest.take n).any (·.2)
        let next := (h.session, h.streamSeq + 1, h.off + n * lbs)
        if !lost && (itemBad h b).1 != 0 then .failed (itemBad h b).1 (itemBad h b).2
        else if h.source != r.source then .item n none next
        else if room < h.bytes then .full
        else
          let x : DecIn :=
            { seq := 0, tag := 0, pts := some h.pts, bytes := (b.drop 64).take h.bytes, disc := false, eos := false, mute := false
              auEnd := true, holes, at' := d.tu.ns }
          .item n (some x) next

def setRead (r : MediaRead) (d : Dev) : Dev := { d with reads := d.reads.map fun x => if x.cmd = r.cmd then r else x }

/-- Deliver the items that have been read, as far as there is room (10 R289). -/
def pumpItems : Nat → MediaRead → Dev → Dev
  | 0, _, d => d
  | k + 1, r, d =>
    match decOf d r.dec with
    | none => readEnd r stSuccess true d
    | some (slot, s) =>
      match readNext d (lbsOf d r.port) r (inFree s) with
      | .more | .full => setRead r d
      | .notItem => readEnd r stInvalidField false d
      | .stop => readEnd r stSuccess false d
      | .failed n k => readEnd r stSuccess false ((List.range n).foldl (fun d _ => bumpInteg k d) d)
      | .item n give next =>
        let r := { r with done := r.done + n, expect := some next }
        match give with
        | none => pumpItems k r d
        | some x =>
          let r := { r with
            count := r.count + 1, lost := r.lost + b2n (!x.holes.isEmpty), moved := r.moved + x.bytes.length }
          let d := modDec slot (fun s => { s with subs := s.subs + 1 }) d
          pumpItems k r (addInput slot { x with seq := s.subs + 1 } d)

/-- NVME_READ_DONE in BLOCKS mode: data go to the buffer up to the first failed block, or to the boundary at which the read stops
(13 R359). -/
def readDoneBlocks (c : Outst) (r : MediaRead) (x : ReadResult) (d : Dev) : Dev :=
  let lbs := lbsOf d r.port
  let good := (match x.failedAt with
    | some n => x.blocks.take n
    | none => x.blocks).take (min (r.blocks - r.done) (if r.stop then (4096 - r.moved % 4096) / lbs else r.blocks))
  let bytes := good.flatMap (fit lbs)
  let d := if bytes.isEmpty then d else postOut (dataOut c (r.done * lbs) bytes) d
  let r := { r with done := r.done + good.length, count := r.count + good.length, moved := r.moved + bytes.length }
  if r.stop && r.moved % 4096 = 0 then readEnd r stSuccess true d
  else if x.failedAt.any fun n => decide (n = good.length) then
    readEnd { r with failed := some (r.slba + r.done) } stMediaRead true d
  else if r.blocks ≤ r.done then readEnd r stSuccess false d
  else setRead r d

/-- NVME_READ_DONE in ITEMS mode: a failed block is lost and reading goes on (13 R359). -/
def readDoneItems (r : MediaRead) (x : ReadResult) (d : Dev) : Dev :=
  let new := (x.blocks.zipIdx.map fun (b, i) => (fit (lbsOf d r.port) b, decide (x.failedAt = some i))).take (r.blocks - r.got.length)
  let failed := match r.failed, x.failedAt with
    | none, some i => some (r.slba + r.got.length + i)
    | f, _ => f
  let r := { r with got := r.got ++ new, failed }
  pumpItems (r.got.length + 1) r d

/-- NVME_READ_DONE (13 R359); a guard mismatch counts under 11 R311. -/
def nvmeReadDone (t : Nat) (x : ReadResult) (d : Dev) : Dev :=
  match d.reads.find? fun r => r.cmd == t, findOutst d t with
  | some r, some c =>
    let d := if x.guardErr then bumpInteg 13 d else d
    if r.items then readDoneItems r x d else readDoneBlocks c r x d
  | _, _ => d

def execNvmeReadDone (t : Nat) (r : ReadResult) (s : State) : Host.Outcome State Fault Refusal :=
  .next (s.mapDev (nvmeReadDone t r))

end Sys2Proof.Machine
end

