-- ==== Sys2Proof/Machine/Network.lean ====
section
/-!
DEFINITION. Machine/Network.lean: network ports, chain mode, media flows (14 R363-R366, R378-R384,
R389-R391), and the start of an eye scan, which O0-O3 make depend on a network link (03 R106).
-/
namespace Sys2Proof.Machine

def netHandle (n : NetId) : Nat := mkHandle 0x0C 0 n.val

/-! LINK_DIAG EYE_SCAN (03 R105, R106). -/

def linkDiagEyeScanBody (c : Outst) (d : Dev) : Ans :=
  let l := diagLane c.e
  if !pam4Lane d l && fld c.e 42 1 != 1 then .fail stInvalidField 42 0
  else
    check (scanAllowed d l (fun n => netUp d ⟨n % 2, Nat.mod_lt _ (by decide)⟩) && (lane d l).scan.isNone) stConflict <|
    .stay (modLane l (fun k => { k with scan := some c.tag, scanStop := false }) d) .waiting

def execLinkDiagEyeScan (t : Nat) (s : State) : Host.Outcome State Fault Refusal :=
  .next (s.mapDev (hostRow specLinkDiagEyeScan t linkDiagEyeScanBody))

/-- The eye scans on a network port's lanes stop with its link (03 R104). -/
def stopNetScans (n : NetId) (d : Dev) : Dev :=
  (List.finRange 36).foldl (fun d l =>
    if 32 ≤ l.val && (l.val - 32) / 2 == n.val && (lane d l).scan.isSome then modLane l (fun k => { k with scanStop := true }) d
    else d) d

/-! NET_CONFIG (14 R364). -/

def specNetConfig : CmdSpec where
  op := .netConfig
  layout := [(32, 0, 24), (36, 0, 48), (44, 0, 40), (52, 0, 64)]
  checks e :=
    (32, decide (fld e 32 1 ≤ 1)) ::
    (if fld e 32 1 = 0 then []
    else [(33, decide (fld e 33 1 ≤ 2)), (34, decide (fld e 34 1 ≤ 1)), (36, fldBits e 36 0 1 == 0),
      (48, decide (8 ≤ fld e 48 1) && decide (fld e 48 1 ≤ 30)), (56, fld e 34 1 == 1 || fld e 56 4 == 0)])
  handle := .fixed 0x0C 2
  admits := true

def netArg (e : Sqe) : NetId := ⟨hIdx e.handle.toNat % 2, Nat.mod_lt _ (by decide)⟩

/-- A flow or the PTP configuration uses a port. -/
def netUsed (d : Dev) (n : NetId) : Bool := ptpUses d n || d.flows.any fun p => bitOf (flPorts p.2.cfg) n.val

/-- A port stops: its link is gone, and what waits for its egress with it. -/
def netStop (n : NetId) (d : Dev) : Dev := stopNetScans n (modNet n (fun x => { x with up := false, txq := [] }) d)

/-! Egress (14 R366). -/

/-- The frame that an egress sends next of those that wait: a forwarded one, else firmware traffic. -/
def nextTx (q : List (Nat × List Byte)) : Option (Nat × List Byte) := (q.find? fun x => x.1 == 2).orElse fun _ => q.head?

/-- An egress that is free sends the next frame that waits, at 100 Gbit/s with preamble, FCS and gap. -/
def drainPort (n : NetId) (d : Dev) : Dev :=
  if !netUp d n || decide (d.tu.ns < (net d n).txFree) then d
  else match nextTx (net d n).txq with
    | none => d
    | some x =>
      let d := modNet n (fun p => { p with txq := p.txq.erase x, txFree := d.tu.ns + divUp ((x.2.length + 24) * 8) 100 }) d
      netOut n x.1 x.2 (if x.1 = 2 then bumpNet (otherNet n) 8 1 d else d)

/-- A frame waits for a port's egress. -/
def portSend (n : NetId) (kind : Nat) (bytes : List Byte) (d : Dev) : Dev :=
  drainPort n (modNet n (fun x => { x with txq := x.txq ++ [(kind, bytes)] }) d)

/-- Bytes that wait in a direction's queue of 256 KiB. -/
def fwdBytes (d : Dev) (n : NetId) : Nat := (((net d n).txq.filter fun x => x.1 == 2).map fun x => x.2.length).sum

/-! IGMP (14 R363, R383). -/

/-- DST_IP and SRC_FILTER of a flow on a port. -/
def flGroup (c : List Byte) (n : NetId) : List Byte := (c.drop (8 + 4 * n.val)).take 4
def flFilter (c : List Byte) (n : NetId) : List Byte := (c.drop (40 + 4 * n.val)).take 4

/-- A receive flow joins, or leaves (PRESUMED, log 110), its group on a port whose link is up. -/
def igmp (join : Bool) (f : Flow) (d : Dev) (n : NetId) : Dev :=
  let first := le (flGroup f.cfg n) 0 1
  if flKind f.cfg = 2 && bitOf (flPorts f.cfg) n.val && netUp d n && decide (224 ≤ first) && decide (first < 240) then
    portSend n 1 (Config.igmpReport n.val (flGroup f.cfg n) (flFilter f.cfg n) join) (bumpNet n 15 1 d)
  else d

def netConfigBody (c : Outst) (d : Dev) : Ans :=
  let n := netArg c.e
  let old := (net d n).cfg
  let cfg := toLE 32 (sqeBody c.e)
  let on := fld c.e 32 1 == 1
  let moved := (net d n).on && (!on || le old 1 1 != le cfg 1 1 || (old.drop 4).take 6 != (cfg.drop 4).take 6 || le old 12 4 != le cfg 12 4)
  let rechain := (net d n).on && le old 2 1 != (if on then le cfg 2 1 else 0)
  check (!(moved && netUsed d n) && !(rechain && decide (d.tu.ns < (net d n).fwd)) && decide (d.pwr.state < 2)) stConflict <|
  let mbps := if on && le cfg 2 1 == 1 then le cfg 24 4 else 0
  withAdmission (netHandle n) false false (if mbps = 0 then [] else [(rcNet, n.val, mbps)]) d fun d =>
    let d := if mbps = 0 then returnResv (netHandle n) d else d
    let d := if moved then netStop n d else d
    let d := if rechain then modNet n (fun x => { x with txq := [] }) d else d
    okAns (modNet n (fun x => { x with on, cfg := if on then cfg else [] }) d)

def execNetConfig (t : Nat) (s : State) : Host.Outcome State Fault Refusal :=
  .next (s.mapDev (hostRow specNetConfig t netConfigBody))

/-- NET_LINK (14 R390). -/
def netLinkChange (n : NetId) (up : Bool) (cause : Nat) (d : Dev) : Dev :=
  if !(net d n).on || (net d n).up == up || decide (2 ≤ d.pwr.state) then d
  else
    let old := masterOf d
    let d := if up then d.flows.foldl (fun d p => igmp true p.2 d n) (modNet n (fun x => { x with up := true, txFree := 0 }) d)
      else bumpNet n 16 1 (netStop n d)
    reselect old (raise evNetwork 1 (netHandle n) (b2n up + (if up then 0 else cause % 256) * 2 ^ 8) d)

def execNetLinkChange (n : NetId) (up : Bool) (cause : Nat) (s : State) : Host.Outcome State Fault Refusal :=
  .next (s.mapDev (netLinkChange n up cause))

/-- A frame for the firmware: 0 ARP, 1 ICMP, 2 IGMP, 3 unmatched, 4 PAUSE or PFC (14 R363, R365). -/
def firmwareProtocolRx (n : NetId) (f : EthFrame) (kind : Nat) (d : Dev) : Dev :=
  rxOn n (fun d =>
    if !f.fcsOk then bumpNet n 3 1 d
    else if kind = 4 then bumpNet n 6 1 d
    else if 3 ≤ kind then bumpNet n 7 1 d
    else match Config.answer kind n.val f.bytes with
      | none => d
      | some a =>
        let d := if kind = 2 then bumpNet n 15 1 d else d
        portSend n 1 a d) d

def execFirmwareProtocolRx (n : NetId) (f : EthFrame) (kind : Nat) (s : State) : Host.Outcome State Fault Refusal :=
  .next (s.mapDev (firmwareProtocolRx n f kind))

/-- CHAIN_DROP, with the frames dropped since the last event (14 R366, R390). -/
def chainDrop (n : NetId) (d : Dev) : Dev :=
  let d := bumpNet n 9 1 (modNet n (fun x => { x with drops := x.drops + 1 }) d)
  if bitOf d.evt.mask evNetwork then
    modNet n (fun x => { x with drops := 0 }) (raise evNetwork 7 (netHandle n) (min (net d n).drops (2 ^ 32 - 1)) d)
  else d

/-- A frame received on a chained port waits for the other port's egress, in its direction's queue of 256 KiB (14 R366). -/
def chainForward (n : NetId) (f : EthFrame) (d : Dev) : Dev :=
  if !(netUp d n && decide (d.pwr.state < 2)) then d
  else
    let d := if f.taken then d else bumpNet n 1 1 d
    if !f.fcsOk then (if f.taken then d else bumpNet n 3 1 d)
    else if !chained d || f.toUs || !netUp d (otherNet n) then d
    else if 262144 < fwdBytes d (otherNet n) + f.bytes.length then chainDrop n d
    else portSend (otherNet n) 2 f.bytes d

def execChainForward (n : NetId) (f : EthFrame) (s : State) : Host.Outcome State Fault Refusal :=
  .next (s.mapDev (chainForward n f))

/-! What flows carry (14 R378, R380). -/

/-- Bytes and pixels of a pgroup, of a VIDEO format (14 R378; RFC 4175). -/
def pgroup : Nat → Option (Nat × Nat)
  | 0x02 => some (15, 4)
  | 0x03 => some (3, 1)
  | 0x12 => some (4, 2)
  | 0x13 => some (5, 2)
  | 0x14 => some (15, 4)
  | _ => none

/-- Bytes per pixel of a tap FORMAT of VIDEO (07 R213). -/
def videoB : Nat → Nat
  | 0x02 => 4
  | 0x03 => 3
  | 0x12 => 2
  | 0x13 => 4
  | _ => 6

/-- Bytes of one line on the wire. -/
def lineBytes (fmt w : Nat) : Nat :=
  match pgroup fmt with
  | some (b, p) => divUp w p * b
  | none => 0

/-- Wire bytes beyond the RTP payload (14 R380). -/
def wireExtra (c : List Byte) : Nat := 86 + (if bitOf (flVlan c) 15 then 4 else 0)

/-- Channels of an audio stream, and bytes of a sample in a packet (16 R431). -/
def asChannels (s : AudSes) : Nat := popCount s.mask
def asSample (s : AudSes) : Nat := if le s.cfg 2 1 = 0 then 3 else 2

/-- Packets per second of an AUDIO flow, and frames in one (16 R422). -/
def asPps (s : AudSes) : Nat := if le s.cfg 10 1 = 1 then 8000 else 1000

/-- The source of a flow, as FLOW_OPEN needs it. -/
inductive FlowSrc where
  /-- VIDEO: its tap or none for a head, on or off, COLOUR or a NET head, format, size, rate -/
  | video (tap : Option (IsleId × TapId)) (on colour : Bool) (fmt w h num den : Nat)
  | unit (r : SrcRate) (holm : Bool)
  | dec
  | audio (s : AudSes)
  | anc (h : Nat)

def audOf (d : Dev) (h : Nat) : Option (Nat × AudSes) := d.auss.find? fun p => p.2.handle == h && !p.2.shed

/-- The source of a KIND that a handle names, none where the KIND does not suit it. -/
def flowSrc (d : Dev) (kind h : Nat) : Option FlowSrc :=
  match kind with
  | 0 =>
    match tapByHandle h with
    | some (i, t) =>
      let tp := tapOf d i t
      some (.video (some (i, t)) tp.on (!tp.on || tapSource tp.cfg == 0) (tapFormat tp.cfg) (outW tp.cfg + 1) (outH tp.cfg + 1)
        (tapFps tp.cfg * decK tp.cfg) (decM tp.cfg))
    | none =>
      if hType h = 0x0E && hIdx h < 4 then
        let x := (d.heads[hIdx h]?).getD {}
        some (.video none x.on (!x.on || hcTarget x.cfg == 7) (hcFmt x.cfg) (hcW x.cfg) (hcH x.cfg) (hcNum x.cfg) (hcDen x.cfg))
      else none
  | 1 => match srcRate d h with
    | some r => if r.kind = 3 then none else some (.unit r (r.kind == 2))
    | none => none
  | 2 => (decOf d h).map fun _ => .dec
  | 3 => match audOf d h with
    | some (_, s) => if s.play then none else some (.audio s)
    | none => none
  | 4 => if (tapByHandle h).isSome || (encOf d h).isSome || (holmOf d h).isSome then some (.anc h) else none
  | _ => none

/-- A handle names an object that exists (02 R52). -/
def handleKnown (d : Dev) (h : Nat) : Bool :=
  let fixed := match hType h with
    | 0x02 => 4 | 0x03 => 4 | 0x04 => 4 | 0x05 => 32 | 0x0A => 2 | 0x0C => 2 | 0x0E => 4 | 0x0F => 4 | 0x11 => 8
    | _ => 0
  decide (hIdx h < fixed) || d.evt.objs.any fun o => o.handle == h

/-- The tap whose rate an ANC flow must have: the source, or the source of an encode session. -/
def rateTap (d : Dev) (h : Nat) : Option Tap :=
  match tapByHandle h, encOf d h with
  | some (i, t), _ => some (tapOf d i t)
  | none, some (_, s) => (tapByHandle s.tap).map fun (i, t) => tapOf d i t
  | none, none => none

/-- Field ranges of FLOW_OPEN. -/
def flowValid (c : List Byte) : Bool :=
  let k := flKind c
  decide (k ≤ 4) && decide (1 ≤ flPorts c) && decide (flPorts c ≤ 3) &&
  decide (flSender c ≤ (if k = 0 then 2 else 0)) && decide (le c 3 1 < 64) &&
  within 256 8900 (flMtu c) && within 96 127 (flPt c) &&
  (if k = 0 || k = 4 then flNum c != 0 && flDen c != 0 else flTro c == 0 && flNum c == 0 && flDen c == 0) &&
  (k == 2 || zeroBytes c 40 8) && zeroBytes c 48 16

/-- What a flow's source must be beside its KIND: format, rate after decimation, sample rate (14 R379). -/
def flowSuits (d : Dev) (c : List Byte) : FlowSrc → Bool
  | .video _ on colour fmt _ _ num den =>
    !on || (colour && flNum c * den == num * flDen c && (match pgroup fmt with
      | some (b, _) => flMtu c % b == 0
      | none => false))
  | .audio s =>
    let fs := asRate d s
    decide (fs ≤ 96000) && (le s.cfg 10 1 == 0 || decide (asChannels s ≤ 8))
  | .anc h => (rateTap d h).all fun tp => !tp.on || flNum c * decM tp.cfg == tapFps tp.cfg * decK tp.cfg * flDen c
  | _ => true

/-- The source is enabled. -/
def flowSrcOn (d : Dev) : FlowSrc → Bool
  | .video _ on .. => on
  | .anc h => match tapByHandle h with
    | some (i, t) => (tapOf d i t).on
    | none => true
  | _ => true

/-- The reservations of R380, for one port's class 0x0C and the rest. -/
def flowWants (d : Dev) (c : List Byte) (src : FlowSrc) : List (Nat × Nat × Nat) :=
  let x := wireExtra c
  let amounts : Nat × Nat × Nat := match src with
    | .video _ _ _ fmt w h _ _ =>
      let pk := h * divUp (lineBytes fmt w) (flMtu c)
      let bytes := w * h * videoB fmt
      (divUp (pk * flNum c * (flMtu c + 8 + x) * 8) (flDen c * 1000000),
        divUp (bytes * flNum c) (flDen c * 1000000) * 2, divUp (3 * bytes) (2 ^ 20))
    | .unit r holm =>
      (divUp (r.dn * (flMtu c + (if holm then 8 else 0) + x) * 8) (r.dd * flMtu c * 1000000), divUp r.dn (r.dd * 1000000), 0)
    | .audio s =>
      let payload := asRate d s / asPps s * asChannels s * asSample s
      (divUp (asPps s * (payload + x) * 8) 1000000, divUp (asPps s * payload) 1000000, 0)
    | .anc _ =>
      let r := Config.ancRate (flMtu c) (flNum c) (flDen c) (bitOf (flVlan c) 15)
      (r.1, r.2, 0)
    | .dec => (0, 0, 0)
  let ports := (List.range 2).filter (bitOf (flPorts c))
  if flKind c = 2 then []
  else [(rcHbmBw, unitAll, amounts.2.1 * ports.length), (rcHbmCap, unitAll, amounts.2.2 * ports.length)].filter (fun w => w.2.2 != 0) ++
    ports.map (fun n => (rcNet, n, amounts.1)) ++ [(rcPower, unitAll, divUp (amounts.1 * ports.length) 50)]

/-! FLOW_OPEN (14 R379). -/

def specFlowOpen : CmdSpec where
  op := .flowOpen
  layout := []
  data := structData 64
  handle := .body
  admits := true

def emptyRx : RxState := { next := none, kept := [], parts := [], tail := 0, stamp := none, lost := 0 }

/-- Flows of a direction that exist. -/
def flowCount (d : Dev) (rx : Bool) : Nat := (d.flows.filter fun p => (flKind p.2.cfg == 2) == rx).length

def flowOpenBody (c : Outst) (d : Dev) : Ans :=
  let cfg := fit 64 c.e.data
  let h := c.e.handle.toNat
  let rx := flKind cfg == 2
  check (flowValid cfg) stInvalidField <|
  if !handleKnown d h then .fail stInvalidHandle 4 0
  else match flowSrc d (flKind cfg) h with
    | none => .fail stInvalidField 0xFF 0
    | some src =>
      let tapped : Option (IsleId × TapId) := match src with
        | .video tap .. => tap
        | _ => none
      check (flowSuits d cfg src && decide (flMtu cfg + 8 + wireExtra cfg ≤ 9216)) stInvalidField <|
      check (flowSrcOn d src && decide (d.pwr.state < 2) && (List.finRange 2).all fun n => !(bitOf (flPorts cfg) n.val) || ncOn d n) stConflict <|
      if (if rx then 16 else 64) ≤ flowCount d rx then .fail stExhausted 0xFF (resExt rcNet unitAll 1 0)
      else if tapped.any (fun (i, t) => decide (8 ≤ attCount d i t)) then
        .fail stExhausted 0xFF (ninthExt ((tapped.map (·.1)).getD 0))
      else match freeSlot d 0x0D 80 with
        | none => .fail stExhausted 0xFF (resExt rcNet unitAll 1 0)
        | some slot =>
          let (fh, d') := openObj 0x0D slot c.qp 1 d
          withAdmission fh (!rx) false (flowWants d cfg src) d' fun d =>
            let f : Flow :=
              { handle := fh, src := h, cfg, sent := 0, seq := (Config.rtpSeq fh).toNat, ready := [], tx := [], busy := 0
                rx := emptyRx, closing := [] }
            let d := (List.finRange 2).foldl (igmp true f) { d with flows := tabSet d.flows slot f }
            okAns (if tapped.isSome then attach h 3 fh d else d) (res := fh)

def execFlowOpen (t : Nat) (s : State) : Host.Outcome State Fault Refusal :=
  .next (s.mapDev (hostRow specFlowOpen t flowOpenBody))

/-! FLOW_CLOSE and shedding (14 R384, R391). -/

/-- A flow ends: its commands complete with the packets sent, attachments and reservations return. -/
def flowRemove (slot st : Nat) (d : Dev) : Dev :=
  match tabGet d.flows slot with
  | none => d
  | some f =>
    let d := f.closing.foldl (fun d t => completeTag (some t) st (f.sent % 2 ^ 32) 0 d) d
    let d := (List.finRange 2).foldl (igmp false f) d
    returnResv f.handle (closeObj f.handle (detach f.handle { d with flows := tabDel d.flows slot }))

def flowCloseBody (c : Outst) (d : Dev) : Ans :=
  match flowOf d c.e.handle.toNat with
  | none => .fail stInvalidHandle 4 0
  | some (slot, f) =>
    let now := fld c.e 32 1 == 1
    if !now && decide (c.ns + 80000000 < f.busy) then .fail stInvalidField 32 0
    else
      .stay (modFlow slot (fun f => { f with
          closing := f.closing ++ [c.tag], ready := [], tx := if now then [] else f.tx, busy := if now then 0 else f.busy })
        (detach f.handle (setObjSt f.handle 3 (flowPump slot d)))) .stepped

def execFlowClose (t : Nat) (s : State) : Host.Outcome State Fault Refusal :=
  .next (s.mapDev (hostRow specFlowClose t flowCloseBody))

/-- The frame in transmission has left, or the next packet boundary is reached. -/
def flowCloseDone (slot : Nat) (d : Dev) : Dev :=
  let d := flowPump slot d
  match tabGet d.flows slot with
  | some f => if f.closing.isEmpty || !f.tx.isEmpty || decide (d.tu.ns < f.busy) then d else flowRemove slot stSuccess d
  | none => d

def execFlowCloseDone (flow : Nat) (s : State) : Host.Outcome State Fault Refusal :=
  .next (s.mapDev (flowCloseDone flow))

/-- Shedding closes a flow as IMMEDIATE (14 R391). -/
def flowShed (slot : Nat) (d : Dev) : Dev :=
  match tabGet d.flows slot with
  | some f => flowRemove slot stThermal (raise evNetwork 5 f.handle (f.sent % 2 ^ 32) d)
  | none => d

/-! Transmission (14 R381, R382). -/

/-- The first t(k) + TRO at least 20 us after an instant. -/
def flowSlotAfter (c : List Byte) (lines ready : Nat) : Nat :=
  let tro := if flTro c = 0 then Config.troDefault (flNum c) (flDen c) lines else flTro c
  let from' := ready + 20000 - tro
  let k := if from' = 0 then 0 else (from' - 1) * flNum c / (flDen c * 1000000000) + 1
  divUp (k * flDen c * 1000000000) (flNum c) + tro

/-- Sample codes of line y in RFC 4175 order, and their width. -/
def wireSamples (fmt w h y : Nat) (planes : List Byte) : List Nat × Nat :=
  let shape := planeShape fmt w h 16 1
  let base (i : Nat) : Nat := planesBytes (shape.take i) + pitchOf (((shape[i]?).map (·.1)).getD 0) * y
  let b1 (i x : Nat) : Nat := le planes (base i + x) 1
  let b2 (i x : Nat) : Nat := le planes (base i + 2 * x) 2 / 64
  match fmt with
  | 0x12 => ((List.range (w / 2)).flatMap fun x => [b1 1 (2 * x), b1 0 (2 * x), b1 1 (2 * x + 1), b1 0 (2 * x + 1)], 8)
  | 0x13 => ((List.range (w / 2)).flatMap fun x => [b2 1 (2 * x), b2 0 (2 * x), b2 1 (2 * x + 1), b2 0 (2 * x + 1)], 10)
  | 0x14 => ((List.range w).flatMap fun x => [b2 1 x, b2 0 x, b2 2 x], 10)
  | 0x03 => ((List.range (3 * w)).map fun x => b1 0 x, 8)
  | _ => ((List.range w).flatMap fun x => (List.range 3).map fun k => bitsOf (le planes (base 0 + 4 * x) 4) (10 * k) 10, 10)

/-- The bytes of one line on the wire, filled up to whole pgroups with zero (RFC 4175). -/
def wireLine (fmt w h y : Nat) (planes : List Byte) : List Byte :=
  let (l, n) := wireSamples fmt w h y planes
  fit (lineBytes fmt w) (packMsb (l.flatMap (bitsMsb n)))

/-- RTP payloads of a frame of VIDEO: one sample row description, packets never cross a line. -/
def videoPayloads (c : List Byte) (seq fmt w h : Nat) (planes : List Byte) : List (List Byte) :=
  let (pb, pp) := (pgroup fmt).getD (1, 1)
  let segs := (List.range h).flatMap fun y =>
    (pieces (max 1 (flMtu c)) (wireLine fmt w h y planes)).zipIdx.map fun (b, i) => (y, flMtu c / pb * pp * i, b)
  segs.zipIdx.map fun ((y, x, b), i) =>
    big 2 ((seq + i) / 65536 % 65536) ++ big 2 b.length ++ big 2 (y % 32768) ++ big 2 (x % 32768) ++ b

/-- A user data word: bits 7:0, even parity in bit 8 and its complement in bit 9 (14 R381; ST 291). -/
def ancWord (b : Nat) : Nat :=
  let p := popCount (b % 256) % 2
  b % 256 + p * 256 + (1 - p) * 512

/-- The Type 2 packets of a frame record (14 R381). -/
def ancPackets (record : List Byte) : List (Nat × Nat × List Nat) :=
  let ps := pieces 254 record
  ps.zipIdx.map fun (p, i) =>
    (0x51, 0x01, ancWord (i % 128 + (if i + 1 = ps.length then 128 else 0)) :: p.map fun b => ancWord b.toNat)

/-- The RTP payloads of an ANC frame, with its time code where TC_SRC is not NONE. -/
def ancFrame (d : Dev) (c : List Byte) (u : AuOut) : List (List Byte) :=
  let tc := if pcTc d = 2 then [] else [(0x60, 0x60, Config.atcWords (timeCode d (flNum c) (flDen c) u.pts))]
  Config.ancPayloads (flMtu c) (ancPackets u.bytes ++ tc)

/-- A frame's packets leave, or the frame is discarded behind its predecessor (14 R382). -/
def flowTransmit (slot t num e : Nat) (payloads : List (List Byte)) (d : Dev) : Dev :=
  match tabGet d.flows slot with
  | none => d
  | some f =>
    if t < f.busy then
      let d := (portsOf f).foldl (fun d n => bumpNet n 13 1 d) d
      raise evNetwork 4 f.handle (num % 2 ^ 32 + 1 * 2 ^ 32) d
    else
      let span := Config.flowSpan (flKind f.cfg) (flSender f.cfg) (flNum f.cfg) (flDen f.cfg) payloads.length
      sendPackets slot num (rtpStamp e 90000) true payloads t span d

/-- FLOW_FRAME_TX: at an alignment point plus TRO the oldest frame due there starts. -/
def flowFrameTx (slot t : Nat) (d : Dev) : Dev :=
  match tabGet d.flows slot with
  | none => d
  | some f =>
    if !f.closing.isEmpty || decide (d.tu.ns < t) then d
    else match flKind f.cfg with
      | 0 =>
        match f.ready with
        | (at', u) :: l =>
          let x := (d.heads[hIdx f.src]?).getD {}
          if flowSlotAfter f.cfg (hcH x.cfg) at' = t then
            let (d, planes, _) := readRing f.handle 2 u.num u.addr (planeShape (hcFmt x.cfg) (hcW x.cfg) (hcH x.cfg) 16 1) u.bytes d
            flowTransmit slot t u.num u.pts (videoPayloads f.cfg f.seq (hcFmt x.cfg) (hcW x.cfg) (hcH x.cfg) planes)
              (modFlow slot (fun f => { f with ready := l }) d)
          else d
        | [] =>
          match tapFrameFor d f.src f.handle with
          | none => d
          | some tf =>
            let tc := tf.snap.cfg
            if flowSlotAfter f.cfg (outH tc + 1) tf.at' = t then
              let (d, planes, _) := readTapRing f.handle 2 tf d
              flowTransmit slot t tf.fin.frm.num (expStart tf.fin.frm)
                (videoPayloads f.cfg f.seq (tapFormat tc) (outW tc + 1) (outH tc + 1) planes)
                (takeTapFrame f.src f.handle d)
            else d
      | 4 =>
        match f.ready with
        | [] => d
        | (at', u) :: l =>
          if flowSlotAfter f.cfg 0 at' = t then
            flowTransmit slot t u.num u.pts (ancFrame d f.cfg u) (modFlow slot (fun f => { f with ready := l }) d)
          else d
      | _ => d

def execFlowFrameTx (flow : Nat) (t : Nat) (s : State) : Host.Outcome State Fault Refusal :=
  .next (s.mapDev (flowFrameTx flow t))

/-! The sample grid of an audio port (16 R415, R416). -/

def acTdm (c : List Byte) : Bool := le c 1 1 == 1
def acSlave (c : List Byte) : Bool := le c 2 1 == 1
def acFs (c : List Byte) : Nat := fsOf (le c 3 1)
def acPhase (c : List Byte) : Nat := le c 16 4

/-- The instant of frame i: its edge, or its FSYNC stamp on a slave. -/
def audInstant (p : AudPort) (n i : Nat) : Nat :=
  if acSlave p.cfg then
    (((p.base + i * 1000000000 / acFs p.cfg : Nat) : Int) + (if p.lost then 0 else Config.fsyncOffset n i)).toNat
  else mcEdge (acFs p.cfg) 1 (acPhase p.cfg) i

/-- The first frame that starts at or after an instant, by the nominal grid. -/
def audFrom (p : AudPort) (t : Nat) : Nat :=
  if acSlave p.cfg then divUp ((t - p.base) * acFs p.cfg) 1000000000 else mcFrom (acFs p.cfg) 1 (acPhase p.cfg) t

/-- The instant of captured frame i: 24 sample periods earlier under PDM. -/
def audStamp (p : AudPort) (n i : Nat) : Nat :=
  audInstant p n i - (if acTdm p.cfg then 0 else 24 * 1000000000 / acFs p.cfg)

/-- The bytes of one sample in a packet: the top 24 or 16 bits (16 R431). -/
def audioSample (n : Nat) (x : Int) : List Byte := big n (unsigned (8 * n) (if n = 3 then x else x / 256))

/-- AUDIO_PACKET_TX: a packet of the frames from a first one, once the last of them is complete (14 R382, 16 R431). -/
def audioPacketTx (slot first : Nat) (frames : List AudFrame) (d : Dev) : Dev :=
  match tabGet d.flows slot with
  | none => d
  | some f =>
    match audOf d f.src with
    | none => d
    | some (_, s) =>
      let x := (d.auds[s.port]?).getD {}
      let fs := asRate d s
      let t := audStamp x s.port first
      if f.closing.isEmpty && flKind f.cfg == 3 && frames.length == fs / asPps s &&
          decide (audInstant x s.port (first + frames.length) ≤ d.tu.ns) then
        sendPackets slot (t / 1000) (rtpStamp t fs) false
          [(audSamples x s.mask first frames).flatMap fun l => l.flatMap (audioSample (asSample s))] d.tu.ns 0 d
      else d

def execAudioPacketTx (flow first : Nat) (frames : List AudFrame) (s : State) :
    Host.Outcome State Fault Refusal := .next (s.mapDev (audioPacketTx flow first frames))

/-! Reception (14 R383). -/

/-- A 90 kHz stamp extended to the time nearest the time unit's, in nanoseconds. -/
def rtpExtend (now stamp : Nat) : Nat :=
  let ref := now * 90000 / 1000000000
  let dist := (stamp + 2 ^ 32 - ref % 2 ^ 32) % 2 ^ 32
  let ticks := if dist < 2 ^ 31 then ref + dist else ref + dist - 2 ^ 32
  let ns := ticks * 100000 / 9
  if ticks * 100000 % 9 != 0 && Config.ptsUp ticks then ns + 1 else ns

/-- A byte string that is lost, as it is delivered. -/
def lostBytes (flow off n : Nat) : List Byte := (List.range n).map fun i => Config.lostByte flow (off + i)

/-- A Holm Raw access unit from its payloads, each at its AU_OFFSET, and the ranges that no packet carried (14 R381, R383). -/
def holmAssemble (flow : Nat) (parts : List (Nat × List Byte)) : List Byte × List (Nat × Nat) :=
  let total := (parts.map fun p => leNat ((p.2.drop 4).take 4).reverse).foldl max 0
  let have' := parts.map fun p => (leNat (p.2.take 4).reverse, p.2.drop 8)
  let (bytes, holes) := have'.foldl (fun (acc : List Byte × List (Nat × Nat)) (o, b) =>
    let n := o - acc.1.length
    (acc.1 ++ lostBytes flow acc.1.length n ++ b.drop (acc.1.length - o),
      if n = 0 then acc.2 else acc.2 ++ [(acc.1.length, n)])) ([], [])
  let n := total - bytes.length
  (bytes ++ lostBytes flow bytes.length n, if n = 0 then holes else holes ++ [(bytes.length, n)])

/-- The payloads of an HEVC or AV1 unit, in runs without a loss: the packets missing before each. -/
def rtpRuns : List (Nat × List Byte) → List (Nat × List (List Byte))
  | [] => []
  | (gap, p) :: l =>
    match rtpRuns l with
    | (0, ps) :: rest => (gap, p :: ps) :: rest
    | rest => (gap, [p]) :: rest

/-- An HEVC or AV1 unit from its payloads; a lost packet stands for MTU_PAYLOAD bytes (DESIGN CHOICE, log 111). -/
def rtpAssemble (av1 : Bool) (flow mtu : Nat) (parts : List (Nat × List Byte)) (tail : Nat) : List Byte × List (Nat × Nat) :=
  let lose (acc : List Byte × List (Nat × Nat)) (gap : Nat) : List Byte × List (Nat × Nat) :=
    if gap = 0 then acc
    else (acc.1 ++ lostBytes flow acc.1.length (gap * mtu), acc.2 ++ [(acc.1.length, gap * mtu)])
  lose ((rtpRuns parts).foldl (fun acc (gap, ps) =>
    let acc := lose acc gap
    (acc.1 ++ Config.rtpUnit av1 ps, acc.2)) ([], [])) tail

/-- The access unit assembled so far goes to the decode session, its lost bytes marked, or is discarded where its input is
full. -/
def rxDeliver (slot : Nat) (d : Dev) : Dev :=
  match tabGet d.flows slot with
  | none => d
  | some f =>
    match f.rx.stamp, decOf d f.src with
    | some ts, some (ds, s) =>
      let (bytes, holes) := if doHolm s.cfg then holmAssemble f.handle f.rx.parts
        else rtpAssemble (doCodec s.cfg == 1) f.handle (flMtu f.cfg) f.rx.parts f.rx.tail
      let hurt := !holes.isEmpty || f.rx.tail != 0 || f.rx.parts.any fun p => p.1 != 0
      let d := modFlow slot (fun f => { f with rx := { f.rx with parts := [], stamp := none, tail := 0 } }) d
      let d := if inFree s < bytes.length then (portsOf f).foldl (fun d n => bumpNet n 13 1 d) d
        else
          addInput ds { seq := s.subs + 1, tag := 0, pts := some (rtpExtend d.tu.ns ts), bytes, disc := false, eos := false
                        mute := false, auEnd := true, holes, at' := d.tu.ns }
            (modDec ds (fun s => { s with subs := s.subs + 1 }) d)
      if hurt && bitOf d.evt.mask evNetwork then
        raise evNetwork 6 f.handle (min f.rx.lost (2 ^ 32 - 1)) (modFlow slot (fun f => { f with rx := { f.rx with lost := 0 } }) d)
      else d
    | _, _ => d

/-- One packet in sequence order, after `gap` packets that never came: they may have belonged to the unit before it, to its own,
or to both. -/
def rxTake (slot gap : Nat) (k : RtpPkt) (d : Dev) : Dev :=
  match tabGet d.flows slot with
  | none => d
  | some f =>
    let d := (portsOf f).foldl (fun d n => bumpNet n 14 gap d) d
    let d := modFlow slot (fun f => { f with rx := { f.rx with
      next := some ((k.seq + 1) % 65536), lost := f.rx.lost + gap } }) d
    let d := match f.rx.stamp with
      | some ts =>
        if ts = k.stamp then d else rxDeliver slot (modFlow slot (fun f => { f with rx := { f.rx with tail := gap } }) d)
      | none => d
    let d := modFlow slot (fun f => { f with rx := { f.rx with parts := f.rx.parts ++ [(gap, k.payload)], stamp := some k.stamp } }) d
    if k.marker then rxDeliver slot d else d

/-- Packets ahead of the next expected one, modulo 65,536. -/
def seqAhead (next seq : Nat) : Nat := (seq + 65536 - next % 65536) % 65536

/-- Packets kept are taken in order; a gap is given up 20 ms after the packet behind it came. -/
def rxDrain (slot : Nat) : Nat → Dev → Dev
  | 0, d => d
  | n + 1, d =>
    match tabGet d.flows slot with
    | none => d
    | some f =>
      match f.rx.next, f.rx.kept with
      | some next, (seq, arr, k) :: l =>
        let gap := seqAhead next seq
        if gap = 0 || decide (arr + 20000000 ≤ d.tu.ns) then
          rxDrain slot n (rxTake slot gap k (modFlow slot (fun f => { f with rx := { f.rx with kept := l } }) d))
        else d
      | _, _ => d

/-- Insert a packet among the kept ones; a copy is dropped. -/
def rxKeep (next : Nat) (x : Nat × Nat × RtpPkt) : List (Nat × Nat × RtpPkt) → List (Nat × Nat × RtpPkt)
  | [] => [x]
  | y :: l =>
    if y.1 = x.1 then y :: l
    else if seqAhead next x.1 < seqAhead next y.1 then x :: y :: l
    else y :: rxKeep next x l

/-- RX_FLOW_PACKET (14 R383): with one port in the order of arrival, with two merged by sequence number. -/
def rxFlowPacket (slot : Nat) (k : RtpPkt) (d : Dev) : Dev :=
  match tabGet d.flows slot with
  | none => d
  | some f =>
    if flKind f.cfg != 2 || !f.closing.isEmpty || !bitOf (flPorts f.cfg) k.port.val then d
    else rxOn k.port (fun d =>
      let next := f.rx.next.getD k.seq
      if 32768 ≤ seqAhead next k.seq then d
      else if flPorts f.cfg != 3 then rxTake slot (seqAhead next k.seq) k d
      else
        let d := modFlow slot (fun f => { f with rx := { f.rx with
          next := some next, kept := rxKeep next (k.seq, d.tu.ns, k) f.rx.kept } }) d
        rxDrain slot (f.rx.kept.length + 1) d) d

def execRxFlowPacket (flow : Nat) (k : RtpPkt) (s : State) : Host.Outcome State Fault Refusal :=
  .next (s.mapDev (rxFlowPacket flow k))

end Sys2Proof.Machine
end

