-- ==== Sys2Proof/Machine/Display.lean ====
section
/-!
DEFINITION. Machine/Display.lean: display heads: HEAD_CONFIG, HEAD_COMMIT, frame starts and selection,
DIRECT scan-out, static lengthening, DisplayPort links (15 R392-R410).
-/
namespace Sys2Proof.Machine

def headAt (d : Dev) (h : HeadId) : Head := d.heads[h]
def modHead (h : HeadId) (f : Head → Head) (d : Dev) : Dev := { d with heads := d.heads.set h (f (headAt d h)) }
def headHandle (h : HeadId) : Nat := mkHandle 0x0E 0 h.val
def headArg (e : Sqe) : HeadId := ⟨hIdx e.handle.toNat % 4, Nat.mod_lt _ (by decide)⟩

/-- Count in a head's counters, numbered as 15 R408 numbers them. -/
def bumpHead (h : HeadId) (i n : Nat) (d : Dev) : Dev :=
  modHead h (fun x => { x with cnt := x.cnt.setIfInBounds (i - 1) (min (x.cnt.getD (i - 1) 0 + n) (2 ^ 64 - 1)) }) d

/-! Timing (15 R396, R406). -/

def headPeriod (c : List Byte) : Nat := divUp (hcDen c * 1000000000) (max 1 (hcNum c))

/-- The end of the line that an instant falls in, or of the line before it where it is a boundary, from a frame's start. -/
def lineEnd (c : List Byte) (start t : Nat) : Nat :=
  let lines := divUp ((t - start) * hcKhz c) (hcHTotal c * 1000000)
  start + divUp (lines * hcHTotal c * 1000000) (max 1 (hcKhz c))

/-- Lines of a lengthened frame: the whole number nearest 1 / MIN_HZ, or the sink's minimum rate where that is higher (15
R406). -/
def longLines (h : HeadId) (c : List Byte) : Nat :=
  let hz := max 1 (max (hcMinHz c) (Config.sinkMinHz h.val))
  (2 * hcKhz c * 1000 + hz * hcHTotal c) / (2 * hz * hcHTotal c)

/-- Output order of decoded pictures. -/
def outAfter (a b : DecOut) : Bool := decide (b.p < a.p) || (a.p == b.p && decide (b.id < a.id))

/-- The picture of a session a head has on screen or selected. -/
def headDec (x : Head) (slot : Nat) : Option DecOut :=
  match x.sel with
  | some (.dec s o) => if s = slot then some o else none
  | _ => match x.vid with
    | some (.dec s o) => if s = slot then some o else none
    | _ => none

/-- Decoded pictures of a session that are newer than the one a head shows and due at an instant (15 R397). -/
def dueAt (x : Head) (slot : Nat) (s : DecSes) (f : Nat) : List DecOut :=
  (s.shown ++ s.outq).filter fun o => !o.eos && decide (o.p ≤ f) &&
    (match headDec x slot with
      | some k => outAfter o k
      | none => true)

/-- The tap of a head's video plane. -/
def headTap (c : List Byte) : Option (IsleId × TapId) :=
  if hcMode c = 1 || hcMode c = 2 then tapByHandle (hcVideo c) else none

/-- The instant from which a tap's frame is in a head's ring (15 R397). -/
def inRingAt (tf : TapFin) : Nat := tf.at' + (Config.ringDelay tf.fin.frm.num).val

/-- The instants of the changes that end a lengthened frame (15 R406): a HEAD_CONFIG, a commit that can apply, and a new video
frame that meets the selection rule. -/
def changesAt (d : Dev) (h : HeadId) : List Nat :=
  let x := headAt d h
  (match x.next with
    | some n => if n.cfg.isEmpty then [] else [n.fetchNs]
    | none => []) ++
  (match x.commit with
    | some k => if k.target.all fun m => fnFrom m x.hfc then (k.copied.map (max k.fetchNs)).toList else []
    | none => []) ++
  (match headTap x.cfg with
    | some (i, t) => ((tapOf d i t).queue.filter fun q => q.1 == headHandle h).map fun q => inRingAt q.2
    | none => match decOf d (hcVideo x.cfg) with
      | some (slot, s) => if hcMode x.cfg = 3 then (dueAt x slot s d.tu.ns).map DecOut.p else []
      | none => [])

/-- The end of a lengthened frame (15 R406): its full length, or the first line boundary at least 500 us after a change, and not
before the nominal period has passed. -/
def longEnd (d : Dev) (h : HeadId) : Nat :=
  let x := headAt d h
  let full := x.start + divUp (longLines h x.cfg * hcHTotal x.cfg * 1000000) (max 1 (hcKhz x.cfg))
  match (changesAt d h).min? with
  | none => full
  | some t => min full (lineEnd x.cfg x.start (max (t + 500000) (x.start + headPeriod x.cfg)))

/-- The next frame start of an enabled head, as far as it is known. -/
def nextStart (d : Dev) (h : HeadId) : Nat :=
  let x := headAt d h
  if !x.loose then max (mcEdge (hcNum x.cfg) (hcDen x.cfg) (hcPhase x.cfg) x.edge) (x.start + headPeriod x.cfg / 2)
  else if x.long then longEnd d h
  else x.start + headPeriod x.cfg

/-- The start of the frame numbered n, at or after the next. -/
def startOf (d : Dev) (h : HeadId) (n : Nat) : Nat :=
  let x := headAt d h
  let k := (n + 2 ^ 32 - x.hfc) % 2 ^ 32
  if !x.loose && k != 0 then mcEdge (hcNum x.cfg) (hcDen x.cfg) (hcPhase x.cfg) (x.edge + k)
  else nextStart d h + divUp (k * hcDen x.cfg * 1000000000) (max 1 (hcNum x.cfg))

/-! HEAD_CONFIG (15 R400-R402). -/

/-- Frame rates of SDI (15 R394). -/
def slowRates : List (Nat × Nat) := [(24000, 1001), (24, 1), (25, 1), (30000, 1001), (30, 1)]
def fastRates : List (Nat × Nat) := [(50, 1), (60000, 1001), (60, 1)]

def rateIn (num den : Nat) (l : List (Nat × Nat)) : Bool := l.any fun r => r.1 * den == num * r.2

/-- Picture size and rates of an SDI_MODE. -/
def sdiRule (mode w h num den : Nat) : Bool :=
  match mode with
  | 1 => w == 1920 && h == 1080 && rateIn num den slowRates
  | 2 => w == 1920 && h == 1080 && rateIn num den fastRates
  | 3 => w == 3840 && h == 2160 && rateIn num den slowRates
  | 4 => w == 3840 && h == 2160 && rateIn num den fastRates
  | 5 => w == 7680 && h == 4320 && rateIn num den (slowRates ++ fastRates)
  | _ => false

/-- Link rate of an SDI_MODE in kbit/s, per link. -/
def sdiKbps : Nat → Nat
  | 1 => 1485000
  | 2 => 2970000
  | 3 => 5940000
  | _ => 11880000

/-- Mbit/s of DisplayPort lanes at a rate code after coding, rounded down (15 R402; DisplayPort 2.1). -/
def dpMbps (rate lanes : Nat) : Nat :=
  match rate with
  | 1 => 1620 * lanes * 8 / 10
  | 2 => 2700 * lanes * 8 / 10
  | 3 => 5400 * lanes * 8 / 10
  | 4 => 8100 * lanes * 8 / 10
  | 5 => 10000 * lanes * 128 / 132
  | 6 => 13500 * lanes * 128 / 132
  | _ => 0

def dpTarget (t : Nat) : Bool := decide (t < 2)
def sdiTarget (t : Nat) : Bool := decide (2 ≤ t) && decide (t ≤ 6)

/-- Bits per pixel of an output format. -/
def outBits : Nat → Nat
  | 0x03 => 24
  | 0x12 => 16
  | 0x13 => 20
  | _ => 30

/-- An overlay descriptor is well formed and lies inside the active area. -/
def ovOk (c o : List Byte) : Bool :=
  decide (ovFmt o ≤ 4) && zeroBytes o 2 2 && zeroBytes o 12 4 &&
  (ovFmt o == 0 || (decide (ovX o + ovW o ≤ hcW c) && decide (ovY o + ovH o ≤ hcH c)))

/-- The field rules of HEAD_CONFIG that need no other object (15 R400, R401). -/
def headValid (c : List Byte) : Bool :=
  let t := hcTarget c
  decide (t ≤ 7) && decide (le c 2 1 < 8) && decide (hcMatrix c ≤ 1) && zeroBytes c 47 1 && zeroBytes c 88 40 &&
  (if dpTarget t then [0x02, 0x03, 0x13, 0x14].contains (hcFmt c)
    else if sdiTarget t then hcFmt c == 0x13
    else [0x02, 0x03, 0x12, 0x13, 0x14].contains (hcFmt c)) &&
  hcNum c != 0 && hcDen c != 0 && decide (hcPhase c * hcNum c < hcDen c * 1000000000) &&
  decide (hcMode c ≤ 3) && (hcMode c != 1 || dpTarget t) && ((hcMode c == 0) == (hcVideo c == 0)) &&
  (hcMinHz c == 0 || (decide (10 ≤ hcMinHz c) && decide (hcMinHz c * hcDen c ≤ hcNum c))) &&
  ovOk c (hcOv c 0) && ovOk c (hcOv c 1) && decide (hcBg c < 2 ^ 30) &&
  (if dpTarget t then
    let p := hcKhz c * 1000
    let total := hcHTotal c * hcVTotal c
    hcSdi c == 0 && within 1 6 (hcDpRate c) && [1, 2, 4].contains (hcDpLanes c) &&
    decide (23976 * hcDen c ≤ 1000 * hcNum c) && decide (hcNum c ≤ 240 * hcDen c) &&
    decide ((((hcNum c * total : Nat) : Int) - (p * hcDen c : Nat)).natAbs * 2000 ≤ p * hcDen c)
  else if sdiTarget t then
    le c 5 1 == 0 && zeroBytes c 16 16 && (if t = 6 then hcSdi c == 5 else hcSdi c != 5) &&
    sdiRule (hcSdi c) (hcW c) (hcH c) (hcNum c) (hcDen c)
  else le c 5 1 == 0 && hcSdi c == 0 && zeroBytes c 20 12)

/-- VIDEO_HANDLE names an object of the mode's kind. -/
def headSource (d : Dev) (c : List Byte) : Bool :=
  match hcMode c with
  | 0 => true
  | 3 => (decOf d (hcVideo c)).isSome
  | _ => (tapByHandle (hcVideo c)).isSome

/-- Size of the video plane and its bytes per pixel in halves of a byte (07 R213). -/
def videoSize (d : Dev) (c : List Byte) : Option (Nat × Nat × Nat) :=
  match hcMode c with
  | 0 => none
  | 3 => (decOf d (hcVideo c)).map fun (_, s) => (doMaxW s.cfg + 1, doMaxH s.cfg + 1, fmtHalves (doFormat s.cfg))
  | _ => (headTap c).map fun (i, t) =>
    let tp := (tapOf d i t).cfg
    (outW tp + 1, outH tp + 1, if tapFormat tp < 0x10 then 2 * videoB (tapFormat tp) else fmtHalves (tapFormat tp))

/-- The rules of R401 and R405 on the source. -/
def headSuits (d : Dev) (c : List Byte) : Bool :=
  let inside := match videoSize d c with
    | some (w, h, _) => decide (hcX c + w ≤ hcW c) && decide (hcY c + h ≤ hcH c)
    | none => true
  match hcMode c with
  | 0 => true
  | 3 => match decOf d (hcVideo c) with
    | some (_, s) => doHead s.cfg && doFormat s.cfg != 0x21 && inside
    | none => false
  | m => match headTap c with
    | none => false
    | some (i, t) =>
      let tp := (tapOf d i t).cfg
      !(tapOf d i t).on ||
      (tapSource tp == 0 && tapFormat tp != 0x01 && tapFormat tp != 0x04 && inside &&
        (m != 1 || (hcX c == 0 && hcY c == 0 && outW tp + 1 == hcW c && outH tp + 1 == hcH c &&
          hcNum c * decM tp == tapFps tp * decK tp * hcDen c &&
          decide (hcHTotal c * 1000000000 * (outH tp + 1) ≤
            hcKhz c * (cropH tp + 1) * (port d (portOf (tapPort tp))).timing.ls))))

/-- Outputs of a target: SDI_QUAD takes SDI1-SDI4 (15 R392); NET heads share nothing. -/
def sameOutput (a b : Nat) : Bool :=
  a != 7 && b != 7 && (a == b || (a == 6 && sdiTarget b) || (b == 6 && sdiTarget a))

/-- Another enabled head uses the output. -/
def outputTaken (d : Dev) (h : HeadId) (t : Nat) : Bool :=
  (List.finRange 4).any fun k => k != h && (headAt d k).on && sameOutput t (hcTarget (headAt d k).cfg)

/-- What an enabled head must keep: TARGET, OUT_FMT, SDI_MODE, DP_LINK, timing, rate and PHASE_NS (15 R401). -/
def headFixed (c : List Byte) : List Byte := c.take 2 ++ (c.drop 4).take 2 ++ (c.drop 12).take 32

/-- Class 0x0E of a head, Mbit/s, and what its link carries (15 R402). -/
def headLink (c : List Byte) : Nat × Nat :=
  let t := hcTarget c
  if dpTarget t then (divUp (hcKhz c * outBits (hcFmt c)) 1000, dpMbps (hcDpRate c) (hcDpLanes c))
  else if sdiTarget t then
    let k := (if t = 6 then 4 else 1) * sdiKbps (hcSdi c)
    let m := if hcDen c % 1001 = 0 then divUp k 1001 else divUp k 1000
    (m, m)
  else (0, 0)

/-- The reservations of R402 up to class 0x0B, and those from class 0x0E. -/
def headWants (d : Dev) (h : HeadId) (c : List Byte) : List (Nat × Nat × Nat) × List (Nat × Nat × Nat) :=
  let n := hcNum c
  let dn := hcDen c
  let ovs := [hcOv c 0, hcOv c 1].filter fun o => ovFmt o != 0
  let s := (ovs.map ovBytes).foldl (· + ·) 0
  let (vw, vh, vb) := (videoSize d c).getD (0, 0, 0)
  let a := vw * vh * vb
  let m := hcMode c
  let (tf, td) := match headTap c with
    | some (i, t) => (tapFps (tapOf d i t).cfg * decK (tapOf d i t).cfg, decM (tapOf d i t).cfg)
    | none => (0, 1)
  let rt0 := divUp ((if m = 2 || m = 3 then a * n else 0) + 2 * s * n) (2 * dn * 1000000)
  let rt1 := divUp ((if m = 2 then a * tf * dn else 0) + 4 * s * n * td) (2 * td * dn * 1000000)
  let ovMem := (ovs.map fun o => 2 * (pitchOf (ovW o * ovBpp o)) * ovH o).foldl (· + ·) 0
  let cap := divUp ((if m = 2 then 3 * a else 0) + 2 * ovMem) (2 * 2 ^ 20)
  let lag := divUp (2 * 65536 * hcH c + (if m = 1 then 4 * a else 0)) (2 * hcH c * 1024)
  let t := hcTarget c
  ([(rcHbmBw, unitAll, rt0 + rt1), (rcHbmCap, unitAll, cap), (rcLagoon, unitAll, lag),
    (rcHost, 1, divUp (2 * s * n) (dn * 1000000))],
   [(rcDisp, h.val, (headLink c).1),
    (rcPower, unitAll, if dpTarget t then 450 else if sdiTarget t then (if t = 6 then 720 else 180) else 60)])

def specHeadConfigEnable : CmdSpec where
  op := .headConfigEnable
  layout := [(32, 0, 1)]
  checks e := [(24, e.dataLen == 128)]
  data := structData 128
  handle := .fixed 0x0E 4
  admits := true
  inner e := innerCheck (headValid (fit 128 e.data))

def headConfigEnableBody (c : Outst) (d : Dev) : Ans :=
  let h := headArg c.e
  let x := headAt d h
  let cfg := fit 128 c.e.data
  let owner := headHandle h
  let tapOn := match headTap cfg with
    | some (i, t) => (tapOf d i t).on
    | none => true
  let newTap := (headTap cfg).filter fun k => !(x.on && headTap x.cfg == some k)
  check (headSource d cfg) stInvalidHandle <|
  check (headSuits d cfg) stInvalidField <|
  check (!(outputTaken d h (hcTarget cfg)) && x.next.isNone && x.commit.isNone && tapOn && decide (d.pwr.state < 2) &&
    (!x.on || headFixed x.cfg == headFixed cfg)) stConflict <|
  if newTap.any (fun (i, t) => decide (8 ≤ attCount d i t)) then
    .fail stExhausted 0xFF (ninthExt ((newTap.map (·.1)).getD 0))
  else
    let (lo, hi) := headWants d h cfg
    let (need, cap) := headLink cfg
    match admitFails d owner false lo with
    | some ext => .fail stExhausted 0xFF ext
    | none =>
      if cap < need then .fail stExhausted 0xFF (resExt rcDisp h.val (need - cap) cap)
      else
        -- class 0x0E has been held against the link itself
        match admitFails d owner true (lo ++ hi.drop 1) with
        | some ext => .fail stExhausted 0xFF ext
        | none =>
          let d := reserve owner true (lo ++ hi) d
          let d := match newTap with
            | some (i, t) => attach (tapHandle i t) (if hcMode cfg = 1 then 4 else 2) owner d
            | none => d
          .stay (modHead h (fun x => { x with next := some { tag := c.tag, cfg, fetchNs := c.ns } }) d) .waiting

def execHeadConfigEnable (t : Nat) (s : State) : Host.Outcome State Fault Refusal :=
  .next (s.mapDev (hostRow specHeadConfigEnable t headConfigEnableBody))

def specHeadConfigDisable : CmdSpec where
  op := .headConfigDisable
  layout := [(32, 0, 1)]
  handle := .fixed 0x0E 4

def headConfigDisableBody (c : Outst) (d : Dev) : Ans :=
  let h := headArg c.e
  let x := headAt d h
  check (x.next.isNone && x.commit.isNone) stConflict <|
  if x.on then .stay (modHead h (fun x => { x with next := some { tag := c.tag, cfg := [], fetchNs := c.ns } }) d) .waiting
  else okAns d

def execHeadConfigDisable (t : Nat) (s : State) : Host.Outcome State Fault Refusal :=
  .next (s.mapDev (hostRow specHeadConfigDisable t headConfigDisableBody))

/-! HEAD_COMMIT (15 R403, R404). -/

def commitLayout : List (Nat × Nat × Nat) := [(32, 0, 6), (36, 0, 112), (52, 0, 64)]

def specHeadCommit : CmdSpec where
  op := .headCommit
  layout := commitLayout
  checks e := [(32, fld e 32 1 != 0)]
  data := someData
  handle := .fixed 0x0E 4

/-- A commit without data. -/
def specHeadPlace : CmdSpec where
  op := .headCommit
  layout := commitLayout
  checks e := [(32, fld e 32 1 != 0)]
  handle := .fixed 0x0E 4

/-- An overlay's descriptor with the place and alpha of a commit, bytes 32-63 of the entry. -/
def placed (o b : List Byte) (i : Nat) : List Byte :=
  o.take 1 ++ (b.drop (16 + i)).take 1 ++ (o.drop 2).take 6 ++ (b.drop (8 + 4 * i)).take 4 ++ o.drop 12

/-- HEAD_CONFIG's structure with the changes of a commit. -/
def commitCfg (c b : List Byte) : List Byte :=
  let mask := le b 0 1
  let o0 := if bitOf mask 2 then placed (hcOv c 0) b 0 else hcOv c 0
  let o1 := if bitOf mask 3 then placed (hcOv c 1) b 1 else hcOv c 1
  let place := if bitOf mask 4 then (b.drop 20).take 4 else (c.drop 48).take 4
  let bg := if bitOf mask 5 then (b.drop 24).take 4 else (c.drop 52).take 4
  c.take 48 ++ place ++ bg ++ o0 ++ o1 ++ c.drop 88

/-- Overlay data that a commit carries. -/
def commitBytes (c : List Byte) (mask i : Nat) : Nat := if bitOf mask i then ovBytes (hcOv c i) else 0

def headCommitBody (c : Outst) (d : Dev) : Ans :=
  let h := headArg c.e
  let x := headAt d h
  let b := bodyBytes c.e
  let mask := fld c.e 32 1
  let cfg := commitCfg x.cfg b
  let target := fld c.e 36 4
  let dataOk := (!(bitOf mask 0) || ovFmt (hcOv x.cfg 0) != 0) && (!(bitOf mask 1) || ovFmt (hcOv x.cfg 1) != 0)
  let placeOk := ovOk cfg (hcOv cfg 0) && ovOk cfg (hcOv cfg 1) && decide (hcBg cfg < 2 ^ 30) &&
    (match videoSize d cfg with
      | some (w, h, _) => decide (hcX cfg + w ≤ hcW cfg) && decide (hcY cfg + h ≤ hcH cfg)
      | none => true)
  let size := commitBytes x.cfg mask 0 + commitBytes x.cfg mask 1
  let named := target != 0xFFFFFFFF
  check (!x.on || (dataOk && placeOk)) stInvalidField <|
  if x.on && c.e.dataLen.toNat != size then .fail stInvalidField 24 0
  else
    check (!x.on || !named || (fnFrom x.hfc target && decide (c.ns + 500000 ≤ startOf d h target))) stFramePassed <|
    check (!x.on || !named || decide (startOf d h target ≤ c.ns + 40000000)) stInvalidField <|
    check (x.on && x.next.isNone && x.commit.isNone && !x.shed) stConflict <|
    let k : HeadCommit :=
      { tag := c.tag, body := b, data := c.e.data.take size, target := if named then some target else none
        fetchNs := c.ns, copied := if size = 0 then some 0 else none }
    .stay (modHead h (fun x => { x with commit := some k }) d) .waiting

def headCommit (t : Nat) (d : Dev) : Dev :=
  match findOutst d t with
  | some c => hostRow (if fldBits c.e 32 0 2 = 0 then specHeadPlace else specHeadCommit) t headCommitBody d
  | none => d

def execHeadCommit (t : Nat) (s : State) : Host.Outcome State Fault Refusal := .next (s.mapDev (headCommit t))

/-- Bytes of a bank of an overlay: its lines at the pitch (15 R402). -/
def ovPitch (o : List Byte) : Nat := pitchOf (ovW o * ovBpp o)
def ovRoom (o : List Byte) : Nat := ovPitch o * ovH o

/-- Where the banks of an overlay begin in the head's HBM buffer: after the video ring (DESIGN CHOICE, log 86). -/
def ovBase (d : Dev) (c : List Byte) (i : Nat) : Nat :=
  let video := match hcMode c, headTap c with
    | 2, some (k, t) =>
      let tp := (tapOf d k t).cfg
      3 * (planesBytes (planeShape (tapFormat tp) (outW tp + 1) (outH tp + 1) 16 1) + 2048) + 2048
    | _, _ => 0
  video + (if i = 0 then 0 else 2 * ovRoom (hcOv c 0))

/-- The copy of an overlay's data goes into its back bank, RT1. -/
def copyOv (h : HeadId) (front i : Nat) (d : Dev) : Dev :=
  let c := (headAt d h).cfg
  bufferWrite { handle := headHandle h, cls := 1, frame := (headAt d h).hfc } (headHandle h)
    (ovBase d c i + (1 - front) * ovRoom (hcOv c i)) (ovRoom (hcOv c i)) d

/-- COMMIT_COPY_DONE: the overlay data are in the back banks. -/
def commitCopyDone (h : HeadId) (d : Dev) : Dev :=
  let x := headAt d h
  match x.commit with
  | none => d
  | some k =>
    if k.copied.isSome then d
    else
      let mask := le k.body 0 1
      let d := if bitOf mask 0 then copyOv h x.front0 0 d else d
      let d := if bitOf mask 1 then copyOv h x.front1 1 d else d
      modHead h (fun x => { x with commit := some { k with copied := some d.tu.ns } }) d

def execCommitCopyDone (h : HeadId) (s : State) : Host.Outcome State Fault Refusal := .next (s.mapDev (commitCopyDone h))

/-! Selection (15 R397). -/

/-- The configuration in force at a frame start: the pending one where it is due. -/
def cfgAt (x : Head) (f : Nat) : List Byte :=
  match x.next with
  | some n => if !n.cfg.isEmpty && (!x.on || decide (n.fetchNs + 500000 ≤ f)) then n.cfg else x.cfg
  | none => x.cfg

/-- Select a video frame, leaving out the older new ones that are then never shown. -/
def selectVid (h : HeadId) (v : HeadVid) (skipped : Nat) (d : Dev) : Dev :=
  bumpHead h 3 skipped (modHead h (fun x => { x with sel := some v, fresh := true }) d)

/-- Frame start 0 of a head that is to be enabled: the first edge of its media clock from the fetch on (15 R396, R401). -/
def firstStart (n : HeadNext) : Nat :=
  mcEdge (hcNum n.cfg) (hcDen n.cfg) (hcPhase n.cfg) (mcFrom (hcNum n.cfg) (hcDen n.cfg) (hcPhase n.cfg) n.fetchNs)

/-- The next frame start of a head, or frame start 0. -/
def comingStart (d : Dev) (h : HeadId) : Option Nat :=
  let x := headAt d h
  if x.on then some (nextStart d h) else x.next.map firstStart

/-- HEAD_FRAME_SELECT, 50 us before the frame start F. -/
def headFrameSelect (h : HeadId) (f : Nat) (d : Dev) : Dev :=
  let x := headAt d h
  let c := cfgAt x f
  if comingStart d h != some f || decide (d.tu.ns + 50000 < f) then d
  else match hcMode c, headTap c with
    | 2, some (i, t) =>
      let inRing := (tapOf d i t).queue.filter fun q => q.1 == headHandle h && decide (inRingAt q.2 + 50000 ≤ f)
      match inRing.getLast? with
      | none => d
      | some (_, tf) =>
        let keep := fun (q : Nat × TapFin) => q.1 != headHandle h || decide (tf.at' < q.2.at')
        selectVid h (.tap tf) (inRing.length - 1) (modTap i t (fun k => { k with queue := k.queue.filter keep }) d)
    | 3, _ =>
      match decOf d (hcVideo c) with
      | none => d
      | some (slot, s) =>
        match dueAt x slot s f with
        | [] => d
        | o :: l => selectVid h (.dec slot (l.foldl (fun b y => if outAfter y b then y else b) o)) l.length d
    | _, _ => d

def execHeadFrameSelect (h : HeadId) (f : Nat) (s : State) : Host.Outcome State Fault Refusal :=
  .next (s.mapDev (headFrameSelect h f))

/-! Frame starts (15 R396, R401, R404-R407). -/

/-- A pending HEAD_CONFIG that is due at F takes effect as frame n starts. -/
def applyConfig (h : HeadId) (f n : Nat) (d : Dev) : Dev × Bool :=
  let x := headAt d h
  match x.next with
  | none => (d, false)
  | some nx =>
    if nx.cfg.isEmpty || (x.on && f < nx.fetchNs + 500000) then (d, false)
    else
      let moved := hcMode x.cfg != hcMode nx.cfg || hcVideo x.cfg != hcVideo nx.cfg
      let d := if moved && headTap x.cfg != headTap nx.cfg then detachFrom (hcVideo x.cfg) (headHandle h) d else d
      let same := fun i => (hcOv x.cfg i).take 8 == (hcOv nx.cfg i).take 8
      let d := modHead h (fun x => { x with
        on := true, cfg := nx.cfg, next := none
        ov0 := if same 0 then x.ov0 else [], ov1 := if same 1 then x.ov1 else []
        vid := if moved then none else x.vid
        sel := if moved && !x.fresh then none else x.sel }) d
      (completeTag (some nx.tag) stSuccess n 0 (takeResv (headHandle h) d), true)

/-- A commit whose window is met at F applies in full as frame n starts; one that missed its target's window
waits for the next frame start (15 R404). -/
def applyCommit (h : HeadId) (f n : Nat) (d : Dev) : Dev × Bool :=
  let x := headAt d h
  match x.commit with
  | none => (d, false)
  | some k =>
    let due := match k.target with
      | some m => fnFrom m n
      | none => decide (k.fetchNs + 500000 ≤ f)
    let ready := match k.copied with
      | some t => k.data.isEmpty || decide (t + 500000 ≤ f)
      | none => false
    if !due then (d, false)
    else if !ready then
      (modHead h (fun x => { x with commit := some { k with target := some (k.target.getD n) } }) d, false)
    else
      let late := decide (k.target.getD n ≠ n)
      let mask := le k.body 0 1
      let n0 := commitBytes x.cfg mask 0
      let d := modHead h (fun x => { x with
        cfg := commitCfg x.cfg k.body, commit := none
        ov0 := if bitOf mask 0 then k.data.take n0 else x.ov0
        ov1 := if bitOf mask 1 then k.data.drop n0 else x.ov1
        front0 := if bitOf mask 0 then 1 - x.front0 else x.front0
        front1 := if bitOf mask 1 then 1 - x.front1 else x.front1 }) d
      let d := completeTag (some k.tag) stSuccess (n + b2n late * 2 ^ 32) 0 d
      (if late then raise evDisplay 1 (headHandle h) n (bumpHead h 4 1 d) else d, true)

/-- E of a head's frame (14 R382). -/
def headE (h n : Nat) : Option HeadVid → Nat
  | some (.tap tf) => expStart tf.fin.frm
  | some (.dec _ o) => o.p
  | none => Config.headStamp h n

/-- A head reads the video frame of frame n: the planes, those of lost sectors zero, and how many bytes those are (12 R327). A
DIRECT head's picture comes from the tap. -/
def readVid (h : HeadId) (n : Nat) (d : Dev) : HeadVid → Dev × List Byte × Nat
  | .tap tf => if hcMode (headAt d h).cfg = 1 then (d, tapPlanes tf.fin tf.snap, 0) else readTapRing (headHandle h) 4 tf d
  | .dec slot o =>
    match (tabGet d.dec slot).bind fun s => decAddr d s o.place with
    | none => (d, o.planes, 0)
    | some a =>
      let (d, lost) := hbmRead { handle := headHandle h, cls := 0, frame := n } a o.planes.length d
      (d, zeroLost (lost.map fun sec => 32 * sec - a) o.planes, 32 * lost.length)

/-- A head reads an overlay's front bank for frame n, in the same way. -/
def readOv (h : HeadId) (n i front : Nat) (bank : List Byte) (d : Dev) : Dev × List Byte × Nat :=
  let c := (headAt d h).cfg
  let o := hcOv c i
  if bank.isEmpty || ovFmt o = 0 then (d, bank, 0)
  else
    let (d, lost) := bufferRead { handle := headHandle h, cls := 0, frame := n } (headHandle h)
      (ovBase d c i + front * ovRoom o) (ovRoom o) d
    let row := max 1 (ovW o * ovBpp o)
    let gone (k : Nat) : Bool := lost.any fun l =>
      decide (l ≤ k / row * ovPitch o + k % row) && decide (k / row * ovPitch o + k % row < l + 32)
    (d, if lost.isEmpty then bank else bank.zipIdx.map fun (b, k) => if gone k then 0 else b, 32 * lost.length)

/-- The composed frame leaves: on the link, where it is up and not below the reservation, or into the ring of a
NET head's flows. -/
def sendFrame (h : HeadId) (n : Nat) (d : Dev) : Dev :=
  let x := headAt d h
  let (d, vid, zv) : Dev × Option VidPic × Nat := match x.vid with
    | none => (d, none, 0)
    | some v => let (d, planes, z) := readVid h n d v; (d, some (vidPic planes v), z)
  let (d, ov0, z0) := readOv h n 0 x.front0 x.ov0 d
  let (d, ov1, z1) := readOv h n 1 x.front1 x.ov1 d
  let d := bumpHead h 7 (zv + z0 + z1) d
  let planes := composePlanes h.val x.cfg vid ov0 ov1
  let t := hcTarget x.cfg
  if t = 7 then
    let done := x.start + Config.netFill h.val n % max 1 (headPeriod x.cfg)
    let u : AuOut :=
      { num := n, status := 0, pts := headE h.val n x.vid, rap := true, damaged := false, bytes := planes, segs := [], at' := done }
    (flowsOf d (headHandle h) 0).foldl (fun d p =>
      match hbmBuffer d p.2.handle with
      | none => modFlow p.1 (fun f => { f with ready := f.ready ++ [(done, u)] }) d
      | some b =>
        let addr := slotAt b planes.length (n % 3)
        modFlow p.1 (fun f => { f with ready := f.ready ++ [(done, { u with addr })] })
          (hbmWrite { handle := headHandle h, cls := 1, frame := n } addr planes.length d)) d
  else if dpTarget t && (!x.up || x.below) then d
  else emit (.scan h.val n (le x.cfg 3 1) planes) d

/-- Decoded pictures that no head shows any more leave their pools, but the latest of each session. -/
def releaseShown (d : Dev) : Dev :=
  { d with dec := d.dec.map fun (slot, s) =>
      (slot, match s.shown with
        | o :: l => { s with shown := o :: l.filter fun y => headHolds d slot y.id }
        | [] => s) }

/-- Frame n starts at F: configuration and commit apply, the picture is chosen and leaves. `direct` gives the
frame of a DIRECT head. -/
def runFrame (h : HeadId) (f : Nat) (direct : Option (Option HeadVid)) (d : Dev) : Dev :=
  let first := !(headAt d h).on
  let n := (headAt d h).hfc
  let (d, c1) := applyConfig h f n d
  let (d, c2) := applyCommit h f n d
  let x := headAt d h
  let mode := hcMode x.cfg
  let vid := match direct with
    | some v => if mode = 1 then v else none
    | none => if mode = 0 || mode = 1 then none else if x.fresh then x.sel else x.vid
  let repeated := (mode == 2 || mode == 3) && vid.isSome && !x.fresh
  let still := !c1 && !c2 && (vid.isNone || repeated)
  let long := dpTarget (hcTarget x.cfg) && hcMinHz x.cfg != 0 && mode != 1 && still && decide (hcStatic x.cfg + 1 ≤ x.static)
  let d := modHead h (fun x => { x with
    hfc := (n + 1) % 2 ^ 32, start := f, vid, sel := vid, fresh := false, gap := false
    static := if still then x.static + 1 else 0, long, loose := x.loose || long
    edge := if x.loose then x.edge else mcFrom (hcNum x.cfg) (hcDen x.cfg) (hcPhase x.cfg) (f + 1)
    training := x.training || (first && dpTarget (hcTarget x.cfg)) }) d
  let d := bumpHead h 1 1 d
  let d := if repeated then bumpHead h 2 1 d else d
  let d := if long then bumpHead h 6 1 d else d
  releaseShown (sendFrame h n d)

/-- The current frame of a head that is disabled or shed ends. -/
def headOff (h : HeadId) (d : Dev) : Dev :=
  let x := headAt d h
  let last := (x.hfc + 2 ^ 32 - 1) % 2 ^ 32
  let d := if x.shed then raise evDisplay 4 (headHandle h) last d else d
  let d := match x.next with
    | some n => completeTag (some n.tag) (if n.cfg.isEmpty then stSuccess else stThermal) (if n.cfg.isEmpty then last else 0) 0 d
    | none => d
  let d := match x.commit with
    | some k => completeTag (some k.tag) stThermal 0 0 d
    | none => d
  releaseShown (returnResv (headHandle h) (detach (headHandle h) (modHead h (fun x => { ({} : Head) with cnt := x.cnt }) d)))

/-- The presentation of a tap's line 0, from its last line and the lines of its window (15 R405). -/
def lineZero (tf : TapFin) : Nat := tf.at' - (cropH tf.snap.cfg + 1) * tf.fin.frm.tm.ls / 1000

/-- HEAD_FRAME_START, at the instant of the frame start or later. -/
def headFrameStart (h : HeadId) (d : Dev) : Dev :=
  let x := headAt d h
  let ends := x.shed || (x.on && x.next.any fun n => n.cfg.isEmpty)
  if !x.on && x.next.isNone then d
  else
    let c := if x.on then x.cfg else cfgAt x d.tu.ns
    if hcMode c = 1 && !ends then
      match tapFrameFor d (hcVideo c) (headHandle h) with
      | none => d
      | some tf =>
        let d := takeTapFrame (hcVideo c) (headHandle h) d
        if x.gap && decide (lineZero tf < x.start + headPeriod c) then bumpHead h 5 1 d
        else runFrame h (lineZero tf) (some (some (.tap tf))) d
    else match comingStart d h with
      | none => d
      | some f => if d.tu.ns < f then d else if ends then headOff h d else runFrame h f none d

def execHeadFrameStart (h : HeadId) (s : State) : Host.Outcome State Fault Refusal := .next (s.mapDev (headFrameStart h))

/-- The instant at which a DIRECT head without a source frame starts one of its own (15 R405). -/
def gapAt (x : Head) : Nat := x.start + headPeriod x.cfg + 1000000

/-- SOURCE_GAP: a DIRECT head starts a frame of its own where no source frame has started by that instant (15 R405). -/
def sourceGap (h : HeadId) (d : Dev) : Dev :=
  let x := headAt d h
  let came := (tapFrameFor d (hcVideo x.cfg) (headHandle h)).any fun tf => decide (lineZero tf ≤ gapAt x)
  if !x.on || hcMode x.cfg != 1 || x.shed || x.next.any (fun n => n.cfg.isEmpty) || came || decide (d.tu.ns < gapAt x) then d
  else
    let d := runFrame h (gapAt x) (some none) d
    modHead h (fun x => { x with gap := true }) (raise evDisplay 3 (headHandle h) x.hfc (bumpHead h 5 1 d))

def execSourceGap (h : HeadId) (s : State) : Host.Outcome State Fault Refusal := .next (s.mapDev (sourceGap h))

/-- Shedding: the head is disabled at the end of its frame (15 R410). -/
def headShed (h : HeadId) (d : Dev) : Dev := modHead h (fun x => { x with shed := true }) d

/-! DisplayPort links (15 R393, R402, R409). -/

/-- The enabled head of a DP output. -/
def dpHead (d : Dev) (out : Nat) : Option HeadId :=
  (List.finRange 4).find? fun h => (headAt d h).on && hcTarget (headAt d h).cfg == out

/-- DP_LINK of a head. -/
def dpEvent (h : HeadId) (d : Dev) : Dev :=
  let x := headAt d h
  raise evDisplay 2 (headHandle h) (b2n x.up + b2n x.below * 2 + x.rate % 16 * 2 ^ 4 + x.lanes % 8 * 2 ^ 8) d

/-- An HPD event: the firmware trains the link; a link that was up drops. -/
def dpHpd (out : Fin 2) (d : Dev) : Dev :=
  match dpHead d out.val with
  | none => d
  | some h =>
    let was := (headAt d h).up
    let d := modHead h (fun x => { x with training := true, up := false, below := false }) d
    if was then dpEvent h d else d

def execDpHpd (out : Fin 2) (s : State) : Host.Outcome State Fault Refusal := .next (s.mapDev (dpHpd out))

/-- Training ends at a rate code on some lanes, 0 lanes where it fails. -/
def dpLinkTrained (out : Fin 2) (rate lanes : Nat) (d : Dev) : Dev :=
  match dpHead d out.val with
  | none => d
  | some h =>
    if !(headAt d h).training then d
    else
      let d := modHead h (fun x => { x with
        training := false, rate, lanes, up := lanes != 0
        below := lanes != 0 && decide (dpMbps rate lanes < (headLink x.cfg).1) }) d
      dpEvent h (bumpHead h 8 1 d)

def execDpLinkTrained (out : Fin 2) (rate lanes : Nat) (s : State) : Host.Outcome State Fault Refusal :=
  .next (s.mapDev (dpLinkTrained out rate lanes))

end Sys2Proof.Machine
end

