-- ==== Sys2Proof/Machine/Audio.lean ====
section
/-!
DEFINITION. Machine/Audio.lean: audio ports, streams, periods, embedding (16 R411-R434).
-/
namespace Sys2Proof.Machine

abbrev stAudNoClock : Nat := 0x0900

def aud (d : Dev) (p : AudId) : AudPort := d.auds[p]
def modAud (p : AudId) (f : AudPort → AudPort) (d : Dev) : Dev := { d with auds := d.auds.set p (f (aud d p)) }
def audHandle (p : AudId) : Nat := mkHandle 0x0F 0 p.val
def audIdx (n : Nat) : AudId := ⟨n % 4, Nat.mod_lt _ (by decide)⟩
def audArg (e : Sqe) : AudId := audIdx (hIdx e.handle.toNat)
def modAus (slot : Nat) (f : AudSes → AudSes) (d : Dev) : Dev := { d with auss := tabMod d.auss slot f }

/-! Fields of AUD_CONFIG, from byte 32 (16 R418). -/

def acSlots (c : List Byte) : Nat := le c 4 1 + 1
def acPins (c : List Byte) : Nat := le c 7 1
def acLead (c : List Byte) : Nat := le c 8 2
def acTail (c : List Byte) : Nat := le c 10 2

/-! Pins (16 R411). -/

/-- What the pins of a port do under a configuration. -/
def pinsOf (c : List Byte) : List PinUse :=
  if acTdm c then
    [if acSlave c then .input else .clock, if acSlave c then .input else .clock, .input, .data, .input, .input]
  else [.clock, .low, .input, .input, .input, .input]

def pinCode : PinUse → Nat
  | .input => 0
  | .low => 1
  | .clock => 2
  | .data => 3

/-- The pins of a port change what they do. -/
def setPins (p : AudId) (uses : List PinUse) (d : Dev) : Dev :=
  if (aud d p).pins = uses then d
  else emit (.audPins p.val (uses.map pinCode)) (modAud p (fun x => { x with pins := uses }) d)

/-! AUD_CONFIG (16 R418-R420). -/

def audLayout : List (Nat × Nat × Nat) := [(32, 0, 104), (48, 0, 32)]

def specAudConfigEnable : CmdSpec where
  op := .audConfigEnable
  layout := audLayout
  checks e :=
    let tdm := fld e 33 1 == 1
    let fs := fsOf (fld e 35 1)
    [(32, decide (fld e 32 1 ≤ 1)), (33, decide (fld e 33 1 ≤ 1)),
     (34, decide (fld e 34 1 ≤ 1) && (tdm || fld e 34 1 == 0)), (35, decide (fld e 35 1 ≤ 2)),
     (36, if tdm then decide (fld e 36 1 ≤ 15) else fld e 36 1 == 0),
     (37, if tdm then [16, 24, 32].contains (fld e 37 1) && decide (fs * (fld e 36 1 + 1) * fld e 37 1 ≤ 24576000)
       else fld e 37 1 == 0),
     (38, decide (fld e 38 1 < 16)), (39, if tdm then fld e 39 1 == 0 else decide (fld e 39 1 < 16)),
     (40, decide (fld e 40 2 ≤ 200) && (tdm || decide (2 ≤ fld e 40 2))), (42, decide (fld e 42 2 ≤ 200)),
     (44, decide (fld e 44 1 ≤ 4)), (48, decide (fld e 48 4 * fs < 1000000000))]
  handle := .fixed 0x0F 4
  admits := true

def audConfigEnableBody (c : Outst) (d : Dev) : Ans :=
  let p := audArg c.e
  let x := aud d p
  let cfg := bodyBytes c.e
  if x.on && x.cmd.isNone && x.cfg == cfg then okAns d (res := x.first)
  else
    check (!x.on && x.cmd.isNone && decide (d.pwr.state < 2)) stConflict <|
    withAdmission (audHandle p) false true [(rcLagoon, unitAll, 16), (rcPower, unitAll, 20)] d fun d =>
      let new : AudPort :=
        { on := false, cfg, cmd := some (c.tag, c.ns), off := false, clk := none, base := 0, lost := false, lostAt := 0
          muted := [], first := 0, pins := x.pins }
      let start := audFrom new d.tu.ns
      let edge := mcEdge (acFs cfg) 1 (acPhase cfg) start
      let new := if acSlave cfg then new else
        { new with clk := some edge, first := audFrom new (edge + acLead cfg * 1000000) }
      .stay (setPins p (pinsOf cfg) (modAud p (fun _ => new) d)) .waiting

def execAudConfigEnable (t : Nat) (s : State) : Host.Outcome State Fault Refusal :=
  .next (s.mapDev (hostRow specAudConfigEnable t audConfigEnableBody))

/-- A pending enable of a port takes effect with a status. -/
def audEnabled (p : AudId) (st : Nat) (d : Dev) : Dev :=
  let x := aud d p
  completeTag (x.cmd.map (·.1)) st x.first 0
    (takeResv (audHandle p) (modAud p (fun x => { x with on := true, cmd := none }) d))

/-- LEAD_MS has passed from the first clock edge. -/
def audEnableDone (p : AudId) (d : Dev) : Dev :=
  let x := aud d p
  if x.cmd.isSome && !x.off && x.clk.any fun t => decide (t + acLead x.cfg * 1000000 ≤ d.tu.ns) then audEnabled p stSuccess d
  else d

def execAudEnableDone (p : AudId) (s : State) : Host.Outcome State Fault Refusal := .next (s.mapDev (audEnableDone p))

/-- The first valid FSYNC of a slave: frame 0 of its count. -/
def audFirstFsync (p : AudId) (stamp : Nat) (d : Dev) : Dev :=
  let x := aud d p
  if x.cmd.isSome && !x.off && x.clk.isNone then
    modAud p (fun x => { x with
      clk := some stamp, base := stamp, first := divUp (acLead x.cfg * acFs x.cfg) 1000 }) d
  else d

def execAudFirstFsync (p : AudId) (stamp : Nat) (s : State) : Host.Outcome State Fault Refusal :=
  .next (s.mapDev (audFirstFsync p stamp))

/-- No valid FSYNC within 100 ms of fetch: the port is enabled in the lost state and counts from now. -/
def audNoClockTimeout (p : AudId) (d : Dev) : Dev :=
  let x := aud d p
  if (x.cmd.any fun k => decide (k.2 + 100000000 ≤ d.tu.ns)) && !x.off && x.clk.isNone then
    audEnabled p stAudNoClock
      (modAud p (fun x => { x with clk := some d.tu.ns, base := d.tu.ns, lost := true, lostAt := 0, first := 0 }) d)
  else d

def execAudNoClockTimeout (p : AudId) (s : State) : Host.Outcome State Fault Refusal :=
  .next (s.mapDev (audNoClockTimeout p))

def specAudConfigDisable : CmdSpec where
  op := .audConfigDisable
  layout := audLayout
  handle := .fixed 0x0F 4

def audConfigDisableBody (c : Outst) (d : Dev) : Ans :=
  let p := audArg c.e
  let x := aud d p
  check (x.cmd.isNone && !(d.auss.any fun s => s.2.port == p.val)) stConflict <|
  if x.on then .stay (modAud p (fun x => { x with cmd := some (c.tag, c.ns), off := true }) d) .waiting else okAns d

def execAudConfigDisable (t : Nat) (s : State) : Host.Outcome State Fault Refusal :=
  .next (s.mapDev (hostRow specAudConfigDisable t audConfigDisableBody))

/-- The end of the first whole frame after TAIL_MS more of a port's clocks (16 R420). -/
def tailEnd (x : AudPort) (n t : Nat) : Nat := audInstant x n (audFrom x (t + acTail x.cfg * 1000000))

/-- TAIL_MS has passed and the clocks stop. -/
def audDisableDone (p : AudId) (d : Dev) : Dev :=
  let x := aud d p
  if (x.cmd.any fun k => decide (tailEnd x p.val k.2 ≤ d.tu.ns)) && x.off then
    let d := setPins p pinsOff d
    completeTag (x.cmd.map (·.1)) stSuccess 0 0 (returnResv (audHandle p) (modAud p (fun _ => {}) d))
  else d

def execAudDisableDone (p : AudId) (s : State) : Host.Outcome State Fault Refusal := .next (s.mapDev (audDisableDone p))

/-- The frame in progress at an instant. -/
def audNow (x : AudPort) (t : Nat) : Nat := audFrom x (t + 1) - 1

/-- AUD_CLOCK (16 R433). -/
def audClock (p : AudId) (lost : Bool) (frame : Nat) (d : Dev) : Dev :=
  raise evDisplay 0x10 (audHandle p) (b2n lost + frame % 2 ^ 32 * 2 ^ 32) d

/-- AUD_CLOCK_LOSS (16 R417): the port is muted from the first frame that did not complete, the one in progress (DEDUCED, log
115). -/
def audClockLoss (p : AudId) (d : Dev) : Dev :=
  let x := aud d p
  if !x.on || !acSlave x.cfg || x.lost then d
  else
    let k := audNow x d.tu.ns
    audClock p true k (modAud p (fun x => { x with lost := true, lostAt := k }) d)

def execAudClockLoss (p : AudId) (s : State) : Host.Outcome State Fault Refusal := .next (s.mapDev (audClockLoss p))

/-- AUD_CLOCK_RESTORED: 16 correct frames; data resumes from the next. -/
def audClockRestored (p : AudId) (d : Dev) : Dev :=
  let x := aud d p
  if !x.on || !acSlave x.cfg || !x.lost then d
  else
    let k := audFrom x d.tu.ns
    audClock p false k (modAud p (fun x => { x with lost := false, muted := ((x.lostAt, k) :: x.muted).take 8 }) d)

def execAudClockRestored (p : AudId) (s : State) : Host.Outcome State Fault Refusal :=
  .next (s.mapDev (audClockRestored p))

/-! AUD_STREAM OPEN (16 R422, R423). -/

/-- Fields of OPEN, from byte 32. -/
def aoPlay (c : List Byte) : Bool := le c 1 1 == 1
def aoFmt (c : List Byte) : Nat := le c 2 1
def aoMask (c : List Byte) : Nat := le c 4 2
def aoMaxCh (c : List Byte) : Nat := le c 6 1
def aoSlots (c : List Byte) : Nat := le c 7 1 + 1
def aoPrio (c : List Byte) : Nat := le c 11 1
def aoVector (c : List Byte) : Nat := le c 12 2
def aoEmbedCh (c : List Byte) : Nat := le c 14 1
def aoHead (c : List Byte) : Nat := le c 16 4

def newStream (h port : Nat) (cfg : List Byte) (next : Nat) (ep : Nat := 0) : AudSes :=
  { handle := h, port, play := aoPlay cfg, cfg, mask := aoMask cfg, seq := 0, next, errs := 0, gap := false, split := false
    change := none, closing := [], stop := none, shed := false, ep }

def specAudStreamOpen : CmdSpec where
  op := .audStreamOpen
  layout := [(32, 0, 24), (36, 0, 88), (48, 0, 32)]
  checks e :=
    [(33, decide (fld e 33 1 ≤ 1)), (34, decide (fld e 34 1 ≤ 1)), (36, fld e 36 2 != 0),
     (38, decide (1 ≤ fld e 38 1) && decide (fld e 38 1 ≤ 16)), (39, decide (1 ≤ fld e 39 1)),
     (40, decide (47 ≤ fld e 40 2) && decide (fld e 40 2 ≤ 19199)), (42, decide (fld e 42 1 ≤ 1)),
     (44, decide (fld e 44 2 ≤ 2047)), (46, decide (fld e 46 1 + fld e 38 1 ≤ 16))]
  data := someData
  handle := .fixed 0x0F 4
  admits := true
  inner e := if decide (e.dataLen.toNat < aoSlots (bodyBytes e) * asStride (newStream 0 0 (bodyBytes e) 0)) then some stLength else none

/-- Slots or channels that a port has, as a mask. -/
def portMask (c : List Byte) : Nat :=
  if acTdm c then 2 ^ acSlots c - 1
  else ((List.range 4).filter (bitOf (acPins c))).foldl (fun n p => n + 3 * 4 ^ p) 0

/-- A mask names only what the port has, at most `most` of it. -/
def maskOk (c : List Byte) (mask most : Nat) : Bool :=
  mask != 0 && (mask &&& portMask c) == mask && decide (popCount mask ≤ most)

/-- The embedding rules of R430. -/
def embedOk (d : Dev) (x : AudPort) (c : List Byte) : Bool :=
  aoHead c == 0 ||
  (!(aoPlay c) && acFs x.cfg == 48000 && !(acSlave x.cfg) && hType (aoHead c) == 0x0E && decide (hIdx (aoHead c) < 4) &&
    ((d.heads[hIdx (aoHead c)]?).any fun h => h.on && sdiTarget (hcTarget h.cfg)))

def audStreamOpenBody (c : Outst) (d : Dev) : Ans :=
  let p := audArg c.e
  let x := aud d p
  let cfg := bodyBytes c.e
  let n := le cfg 8 2 + 1
  let s := newStream 0 p.val cfg 0
  let stride := asStride s
  let q := divUp (acFs x.cfg) n
  let mine := d.auss.filter fun s => s.2.port == p.val && s.2.play == aoPlay cfg
  check (!x.on || (maskOk x.cfg (aoMask cfg) (aoMaxCh cfg) && embedOk d x cfg && (!(aoPlay cfg) || acTdm x.cfg))) stInvalidField <|
  check (x.on && x.cmd.isNone && decide (d.pwr.state < 2)) stConflict <|
  if (if aoPlay cfg then 1 else 2) ≤ mine.length then .fail stExhausted 0xFF (resExt rcEncSes p.val 1 0)
  else match freeSlot d 0x10 12 with
    | none => .fail stExhausted 0xFF (resExt rcEncSes p.val 1 0)
    | some slot =>
      let (h, d') := openObj 0x10 slot c.qp 1 d
      withAdmission h true false
        [(rcHbmBw, unitAll, divUp (2 * stride * q) 1000000), (rcHbmCap, unitAll, divUp (4 * stride) (2 ^ 20)),
         (rcLagoon, unitAll, 4), (rcHost, if aoPlay cfg then 1 else 0, divUp (stride * q) 1000000)] d' fun d =>
        let lead := if aoPlay cfg then 2000000 else 100000
        let next := divUp (max (audFrom x (c.ns + lead)) x.first) n * n
        okAns { d with auss := tabSet d.auss slot (newStream h p.val cfg next d.pcie.epoch) } (res := h) (ext := next)

def execAudStreamOpen (t : Nat) (s : State) : Host.Outcome State Fault Refusal :=
  .next (s.mapDev (hostRow specAudStreamOpen t audStreamOpenBody))

/-! The end of a stream, MASK and STATUS (16 R427-R429). -/

/-- A stream ends: its closes complete with the last sequence number, a MASK it never reached with a status. -/
def audRemove (slot st mst : Nat) (d : Dev) : Dev :=
  match tabGet d.auss slot with
  | none => d
  | some s =>
    let d := s.closing.foldl (fun d t => completeTag (some t) st (s.seq % 2 ^ 32) 0 d) d
    let d := match s.change with
      | some (t, _, _) => completeTag (some t) mst 0 0 d
      | none => d
    returnResv s.handle (closeObj s.handle { d with auss := tabDel d.auss slot })

/-- Frames of the period in progress begin at `next` and end at its boundary. -/
def boundary (s : AudSes) : Nat := (s.next / asPeriod s + 1) * asPeriod s

/-- Where the period in progress ends: the boundary, the frame of a MASK, or the end of the stream. -/
def periodEnd (s : AudSes) : Nat :=
  let e := boundary s
  let e := match s.change with
    | some (_, _, at') => if s.next < at' then min e at' else e
    | none => e
  match s.stop with
  | some k => min e k
  | none => e

def specAudStreamClose : CmdSpec where
  op := .audStreamClose
  layout := [(32, 0, 8), (35, 0, 8)]
  checks e := [(35, decide (fld e 35 1 ≤ 1))]
  handle := .body

/-- Close a stream from an instant, the fetch: playback IMMEDIATE and a stream without a period in progress end at once. -/
def audCloseFrom (slot : Nat) (s : AudSes) (now : Bool) (at' : Nat) (d : Dev) : Dev :=
  let x := aud d (audIdx s.port)
  let here := audFrom x at'
  let stop := if now then here else if here ≤ s.next then here else boundary s
  let least (k : Nat) (s : AudSes) : AudSes := { s with stop := some (match s.stop with
      | some y => min y k
      | none => k) }
  if s.play then if now then audRemove slot stSuccess stConflict d else modAus slot (least at') d
  else if stop ≤ s.next then audRemove slot stSuccess stConflict d
  else modAus slot (least stop) d

def audStreamCloseBody (c : Outst) (d : Dev) : Ans :=
  match audOf d c.e.handle.toNat with
  | none => .fail stInvalidHandle 4 0
  | some (slot, s) =>
    .stay (modAus slot (fun s => { s with closing := s.closing ++ [c.tag] }) (setObjSt s.handle 3 d)) .stepped

/-- CLOSE passes its step at fetch; where nothing is left to play or capture it completes there. -/
def audStreamClose (t : Nat) (d : Dev) : Dev :=
  match startable .audStreamClose t d with
  | none => d
  | some c =>
    let d := hostRow specAudStreamClose t audStreamCloseBody d
    match audOf d c.e.handle.toNat with
    | some (slot, s) => if s.closing.getLast? = some t then audCloseFrom slot s (fld c.e 35 1 == 1) c.ns d else d
    | none => d

def execAudStreamClose (t : Nat) (s : State) : Host.Outcome State Fault Refusal := .next (s.mapDev (audStreamClose t))

def specAudStreamMask : CmdSpec where
  op := .audStreamMask
  layout := [(32, 0, 8), (36, 0, 16)]
  checks e := [(36, fld e 36 2 != 0)]
  handle := .body

/-- A flow or SDI embedding is attached to a stream. -/
def audAttached (d : Dev) (s : AudSes) : Bool := aoHead s.cfg != 0 || d.flows.any fun f => f.2.src == s.handle

def audStreamMaskBody (c : Outst) (d : Dev) : Ans :=
  match audOf d c.e.handle.toNat with
  | none => .fail stInvalidHandle 4 0
  | some (slot, s) =>
    let x := aud d (audIdx s.port)
    let mask := fld c.e 36 2
    check (!s.play && maskOk x.cfg mask (aoMaxCh s.cfg)) stInvalidField <|
    check (s.change.isNone && s.closing.isEmpty && !(audAttached d s && popCount mask != popCount s.mask)) stConflict <|
    .stay (modAus slot (fun s => { s with change := some (c.tag, mask, max s.next (audFrom x (c.ns + 100000))) }) d) .waiting

def execAudStreamMask (t : Nat) (s : State) : Host.Outcome State Fault Refusal :=
  .next (s.mapDev (hostRow specAudStreamMask t audStreamMaskBody))

def specAudStreamStatus : CmdSpec where
  op := .audStreamStatus
  layout := [(32, 0, 8)]
  handle := .body

def audStreamStatusBody (c : Outst) (d : Dev) : Ans :=
  match audOf d c.e.handle.toNat with
  | none => .fail stInvalidHandle 4 0
  | some (_, s) =>
    okAns d (res := (s.seq + 1) % 2 ^ 32 + min s.errs (2 ^ 32 - 1) * 2 ^ 32)
      (ext := s.next % 2 ^ 64 + audInstant (aud d (audIdx s.port)) s.port s.next % 2 ^ 32 * 2 ^ 64)

def execAudStreamStatus (t : Nat) (s : State) : Host.Outcome State Fault Refusal :=
  .next (s.mapDev (hostRow specAudStreamStatus t audStreamStatusBody))

/-! Periods (16 R424-R426, R430, R432). -/

/-- A sample as the ring holds it: 24 bits in [31:8], or the top 16 bits. -/
def ringSample (fmt : Nat) (x : Int) : List Byte :=
  if fmt = 0 then toLE 4 (unsigned 32 (x * 256)) else toLE 2 (unsigned 16 (x / 256))

/-- A period slot: header and samples. -/
def periodBytes (s : AudSes) (x : AudPort) (seq frames flags silent : Nat) (samples : List (List Int)) : List Byte :=
  let t := audStamp x s.port s.next
  pack [(8, seq % 2 ^ 63), (8, s.next), (8, t / 1000000000 % 2 ^ 48), (4, t % 1000000000), (4, t % 2 ^ 32),
    (2, frames - 1), (1, popCount s.mask - 1), (1, aoFmt s.cfg), (2, s.mask), (2, flags), (4, silent), (1, s.port)] ++
  zeros 19 ++ samples.flatMap fun f => f.flatMap (ringSample (aoFmt s.cfg))

/-- The head frame in which an instant lies (16 R430). -/
def headFrameOf (x : Head) (t : Nat) : Nat :=
  (x.hfc + 2 ^ 32 + (mcFrom (hcNum x.cfg) (hcDen x.cfg) (hcPhase x.cfg) (t + 1) - 1) - x.edge) % 2 ^ 32

/-- Samples by the head frame that carries them: the frame of their instants, two later. -/
def embedFrames (x : Head) (stamp : Nat → Nat) : Nat → List (List Int) → List (Nat × List (List Int))
  | _, [] => []
  | i, f :: l =>
    let k := (headFrameOf x (stamp i) + 2) % 2 ^ 32
    match embedFrames x stamp (i + 1) l with
    | (k', fs) :: r => if k = k' then (k, f :: fs) :: r else (k, [f]) :: (k', fs) :: r
    | [] => [(k, [f])]

/-- A MASK whose frame is the first of the period in progress is in force for it. -/
def maskStart (slot : Nat) (d : Dev) : Dev :=
  match tabGet d.auss slot with
  | none => d
  | some s =>
    match s.change with
    | some (t, m, at') =>
      if at' ≤ s.next then completeTag (some t) stSuccess 0 at' (modAus slot (fun s => { s with mask := m, change := none }) d)
      else d
    | none => d

/-- A period goes into the stream's staging buffer in HBM: its device address, 0 without one (16 R423; DESIGN CHOICE, log 86). -/
def stagePeriod (s : AudSes) (seq n : Nat) (d : Dev) : Dev × Nat :=
  match hbmBuffer d s.handle with
  | none => (d, 0)
  | some b =>
    let a := b + seq % 4 * asStride s
    (hbmWrite { handle := s.handle, cls := 0, frame := seq } a n d, a)

/-- A period goes to the host ring, SEQ first with BUSY and last without (16 R425, 05 R167); where delivery has stopped since it
began, or bytes of it are lost in staging, it is discarded and counted (01 R15, 02 R562, 12 R327). -/
def periodRing (slot : Nat) (s : AudSes) (seq addr : Nat) (bytes : List Byte) (d : Dev) : Dev :=
  let (d, got, lost) := readUnit { handle := s.handle, cls := 0, frame := seq } addr bytes d
  let at' := ringSlot (aoSlots s.cfg - 1) seq
  if deliversFrom s.ep d && !lost then
    notify (aoVector s.cfg) (emit (.ring s.handle at' seq got) (emit (ringBusy s.handle (aoSlots s.cfg - 1) seq s.wrote)
      (modAus slot (fun s => { s with gap := false, wrote := tabSet s.wrote at' seq }) d)))
  else raise evDisplay 0x11 s.handle (seq % 2 ^ 63) (modAus slot (fun s => { s with gap := true, errs := s.errs + 1 }) d)

/-- The samples of a period go into the SDI frames of its head (16 R430). -/
def embedPeriod (s : AudSes) (x : AudPort) (samples : List (List Int)) (d : Dev) : Dev :=
  match d.heads[hIdx (aoHead s.cfg)]? with
  | some h => if aoHead s.cfg = 0 || !h.on then d
    else emit (.embed (hIdx (aoHead s.cfg)) (aoEmbedCh s.cfg) (embedFrames h (audStamp x s.port) s.next samples)) d
  | none => d

/-- AUD_PERIOD_DONE: a capture period is complete; its muted frames hold silence. -/
def audPeriodDone (slot : Nat) (input : List AudFrame) (d : Dev) : Dev :=
  let d := maskStart slot d
  match tabGet d.auss slot with
  | none => d
  | some s =>
    let x := aud d (audIdx s.port)
    let e := periodEnd s
    let frames := e - s.next
    if s.play || frames = 0 || input.length != frames || decide (d.tu.ns < audInstant x s.port e) then d
    else
      let samples := audSamples x s.mask s.next input
      let silent := (List.range frames).countP fun i => audMuted x (s.next + i)
      let early := decide (e < boundary s)
      let last := s.stop == some e
      let mute := silent != 0
      let flags := b2n early + b2n s.split * 2 + b2n mute * 4 + b2n mute * 8 + b2n s.gap * 16 + b2n last * 32
      let seq := s.seq + 1
      let bytes := periodBytes s x seq frames flags silent samples
      let (d, addr) := stagePeriod s seq bytes.length d
      let u : AuOut :=
        { num := seq, status := 0, pts := audStamp x s.port s.next, rap := true, damaged := mute, bytes, segs := segsOf bytes.length
          addr }
      let d := embedPeriod s x samples (offerRec s.handle u (periodRing slot s seq addr bytes d))
      let (done, mask) := match s.change with
        | some (t, m, at') => if at' ≤ e then (some t, m) else (none, s.mask)
        | none => (none, s.mask)
      let d := modAus slot (fun s => { s with
        seq, next := e, mask, split := decide (e % asPeriod s ≠ 0), ep := d.pcie.epoch
        change := if done.isSome then none else s.change }) d
      let d := completeTag done stSuccess 0 e d
      if last then audRemove slot (if s.shed then stThermal else stSuccess) stConflict d else d

def execAudPeriodDone (stream : Nat) (frames : List AudFrame) (s : State) :
    Host.Outcome State Fault Refusal := .next (s.mapDev (audPeriodDone stream frames))

/-- A playback slot is usable (16 R426). -/
def playValid (s : AudSes) (x : AudPort) (k : PlaySlot) : Bool :=
  k.seq == s.seq + 1 && !k.busy && decide (k.frames < asPeriod s) && k.channels + 1 == popCount k.mask &&
  maskOk x.cfg k.mask (aoMaxCh s.cfg)

/-- A sample as a transmit slot carries it: its top 24 bits, or the whole slot at 16 bits, the rest 0 (16 R414). -/
def txWord (c : List Byte) (v : Int) : Int :=
  if acSlotBits c = 16 then unsigned 16 (v / 256) else if acSlotBits c = 24 then unsigned 24 v else unsigned 24 v * 256

/-- The transmit slots of one frame: the mask's slots carry its samples in order, every other is 0 (16 R426). -/
def txSlots (c : List Byte) (mask : Nat) (f : List Int) : List Int :=
  (List.range (acSlots c)).map fun i =>
    if bitOf mask i then txWord c ((f[popCount (mask % 2 ^ i)]?).getD 0) else 0

/-- The instant at which the slot of a playback period is read: exactly 1 ms before its first frame (16 R426). -/
def readAt (s : AudSes) (x : AudPort) : Nat := audInstant x s.port s.next - 1000000

/-- AUD_PLAYBACK_READ: 1 ms before a period its slot is read; silence is played where it fails. A stream that closes plays the
slots that were valid at fetch (16 R428). -/
def audPlaybackRead (slot : Nat) (k : PlaySlot) (d : Dev) : Dev :=
  match tabGet d.auss slot with
  | none => d
  | some s =>
    let x := aud d (audIdx s.port)
    if !s.play || decide (d.tu.ns < readAt s x) then d
    else
      let ok := delivering d && playValid s x k
      if s.stop.any fun t => !ok || decide (t < k.at') then audRemove slot stSuccess stConflict d
      else
        let frames := if ok then k.frames + 1 else asPeriod s
        let sent := (List.range frames).map fun i =>
          if ok && !audMuted x (s.next + i) then txSlots x.cfg k.mask ((k.samples[i]?).getD [])
          else List.replicate (acSlots x.cfg) 0
        let d := modAus slot (fun s => { s with
          seq := s.seq + 1, next := s.next + frames, errs := s.errs + b2n (!ok) }) (emit (.audio s.port sent) d)
        let d := if ok then d else raise evDisplay 0x12 s.handle ((s.seq + 1) % 2 ^ 63) d
        notify (aoVector s.cfg) d

def execAudPlaybackRead (stream : Nat) (slot : PlaySlot) (s : State) : Host.Outcome State Fault Refusal :=
  .next (s.mapDev (audPlaybackRead stream slot))

/-- Shedding closes a stream as IMMEDIATE; a capture period in progress is still written (16 R434). -/
def audShed (slot : Nat) (d : Dev) : Dev :=
  match tabGet d.auss slot with
  | none => d
  | some s =>
    let here := audFrom (aud d (audIdx s.port)) d.tu.ns
    let more := !s.play && decide (s.next < here)
    let d := raise evDisplay 0x13 s.handle ((s.seq + b2n more) % 2 ^ 63) d
    if more then
      returnResv s.handle (closeObj s.handle (modAus slot (fun s => { s with stop := some here, shed := true }) d))
    else audRemove slot stThermal stThermal d

end Sys2Proof.Machine
end

