-- ==== Sys2Proof/Machine/Host.lean ====
section
/-!
DEFINITION. Machine/Host.lean: the host link and command queues (02): doorbells, fetch and arbitration,
interrupts, and the admin commands that touch nothing else.
-/
namespace Sys2Proof.Machine

/-- The host function has power: in REEF and while the device is off it is not there. -/
def functionOn (d : Dev) : Bool := d.pwr.state != 3 && d.boot.stage != 11

/-- BAR0 takes writes once the boot has brought the function up (22 R536), and not where a stopped boot serves reads
only (22 R538); in REEF the function is off (20 R508). -/
def bar0Live (d : Dev) : Bool := functionOn d && d.pcie.up && decide (2 ≤ d.boot.stage) && d.boot.stage != 9

/-! Doorbells (02 R42). -/

/-- Raise and count a refused doorbell (02 R42, R64). -/
def badDoorbell (q v : Nat) (cq : Bool) (d : Dev) : Dev :=
  raise evHost 2 0 (q % 4096 + b2n cq * 2 ^ 12 + v * 2 ^ 16)
    (modHost (fun h => { h with cnt := { h.cnt with badDb := h.cnt.badDb + 1 } }) d)

/-- The doorbell VALUE field (02, Doorbells). -/
def dbValue (v : Word) : Nat := v.toNat % 2 ^ 16

/-- A new SQ tail is good: in range and moving within the free entries (02 R42, R47). -/
def sqTailOk (p : Qp) (v : Nat) : Bool :=
  decide (v < p.sqSize) &&
  decide ((p.sqTail + p.sqSize - p.sqHead) % p.sqSize + (v + p.sqSize - p.sqTail) % p.sqSize < p.sqSize)

def sqTailDoorbell (q : Nat) (w : Word) (d : Dev) : Dev :=
  if !(d.host.enable && bar0Live d) then d
  else match getQp d q with
    | none => badDoorbell q (dbValue w) false d
    | some p =>
      if sqTailOk p (dbValue w) then setQp q { p with sqTail := dbValue w } d
      else badDoorbell q (dbValue w) false d

/-- How many slots a new CQ head releases. -/
def cqReleased (p : Qp) (v : Nat) : Nat := (v + p.cqSize - p.cqHead) % p.cqSize

/-- Completions of a pair that are written to its CQ and not released: one that is held is not there yet (02 R562). -/
def posted (d : Dev) (q : Nat) (p : Qp) : Nat :=
  p.unrel - (d.host.held.filter fun h => match h with
    | .post (.cqe c) => c.qp == q
    | _ => false).length

/-- A new CQ head is good: in range and not past the last of `n` entries posted (02 R42). -/
def cqHeadOk (p : Qp) (n v : Nat) : Bool := decide (v < p.cqSize) && decide (cqReleased p v ≤ n)

def cqHeadDoorbell (q : Nat) (w : Word) (d : Dev) : Dev :=
  if !(d.host.enable && bar0Live d) then d
  else match getQp d q with
    | none => badDoorbell q (dbValue w) true d
    | some p =>
      if cqHeadOk p (posted d q p) (dbValue w) then
        setQp q { p with cqHead := dbValue w, unrel := p.unrel - cqReleased p (dbValue w) } d
      else badDoorbell q (dbValue w) true d

def execSqTailDoorbell (qp : Nat) (v : Word) (s : State) : Host.Outcome State Fault Refusal :=
  .next (s.mapDev (sqTailDoorbell qp v))

def execCqHeadDoorbell (qp : Nat) (v : Word) (s : State) : Host.Outcome State Fault Refusal :=
  .next (s.mapDev (cqHeadDoorbell qp v))

/-! Enable and ready (02 R40, R43). -/

def newQp (sqBase cqBase : Dword) (sqSize cqSize vector cls : Nat) : Qp :=
  { sqBase, cqBase, sqSize, cqSize, vector, cls, clsNext := cls }

/-- The admin registers are valid at enable (02 R40). -/
def adminValid (d : Dev) : Bool :=
  bitsOf d.host.sizes.toNat 0 12 != 0 && bitsOf d.host.sizes.toNat 16 12 != 0 &&
  d.host.asqBase != d.host.acqBase

def modPcie (f : Pcie → Pcie) (d : Dev) : Dev := { d with pcie := f d.pcie }

/-- What was held is posted once delivery is possible, and pending messages are sent (02 R67, R562). -/
def resumeDelivery (d : Dev) : Dev := if delivering d then sendPending (releaseHeld d) else d

/-- A write of HCTL.ENABLE = 1 (02 R40): a change from 0 to 1 reads the admin registers. -/
def controllerEnable (d : Dev) : Dev :=
  resumeDelivery <| dated (fun d =>
  if d.host.enable || !bar0Live d then d
  else if adminValid d then
    modHost (fun h => { h with
      enable := true
      restart := false
      qps := tabSet h.qps 0 (newQp h.asqBase h.acqBase (bitsOf h.sizes.toNat 0 12 + 1)
        (bitsOf h.sizes.toNat 16 12 + 1) 0 0)
      crHigh := h.wHigh + 1, crMed := h.wMed + 1, crLow := h.wLow + 1 }) d
  else modHost (fun h => { h with enable := true, restart := false, cfgErr := true }) d) d

def execControllerEnable (s : State) : Host.Outcome State Fault Refusal :=
  .next (s.mapDev controllerEnable)

/-- HSTS.READY falls once ENABLE is 0 and no activation is in progress (02 R43). -/
def adminNotReady (d : Dev) : Dev :=
  if d.host.enable || d.host.activating then d
  else modHost (fun h => { h with ready := false }) d

def execAdminNotReady (s : State) : Host.Outcome State Fault Refusal :=
  .next (s.mapDev adminNotReady)

/-! The host link (02 R37, R562; 20 R512). -/

def busMasterEnableWrite (v : Bool) (d : Dev) : Dev :=
  resumeDelivery (dated (modPcie fun p => { p with bme := v }) d)

def execBusMasterEnableWrite (v : Bool) (s : State) : Host.Outcome State Fault Refusal :=
  .next (s.mapDev (busMasterEnableWrite v))

/-- The link enters L0 (02 R37); an entry while it was up is a retrain (02 R72). -/
def hostLinkL0Entry (rate width : Nat) (d : Dev) : Dev :=
  if !functionOn d then d else
  let again := d.pcie.up
  let d := dated (modPcie fun p => { p with up := true, rate, width }) d
  let d := if again then
      modHost (fun h => { h with cnt := { h.cnt with retrain := h.cnt.retrain + 1 } }) d
    else d
  resumeDelivery (linkRecompute d)

def execHostLinkL0Entry (rate width : Nat) (s : State) : Host.Outcome State Fault Refusal :=
  .next (s.mapDev (hostLinkL0Entry rate width))

/-- An L0p width change (02 R37), which Flit mode has: 64.0 and 128.0 GT/s (02 R35). -/
def l0pWidthChange (width : Nat) (d : Dev) : Dev :=
  if d.pcie.up && decide (6 ≤ d.pcie.rate) then
    linkRecompute (modPcie (fun p => { p with width }) d)
  else d

def execL0pWidthChange (width : Nat) (s : State) : Host.Outcome State Fault Refusal :=
  .next (s.mapDev (l0pWidthChange width))

/-- Unmask a vector; a pending message is sent and its bit clears as it is posted (02 R67). -/
def msixVectorUnmask (vec : Nat) (d : Dev) : Dev :=
  if !bar0Live d then d else
  let e := (tabGet d.pcie.msix vec).getD {}
  sendPending (modPcie (fun p => { p with
    msix := tabSet p.msix vec { e with ctrl := e.ctrl &&& ~~~1#32 } }) d)

def execMsixVectorUnmask (vec : Nat) (s : State) : Host.Outcome State Fault Refusal :=
  .next (s.mapDev (msixVectorUnmask vec))

/-- AGG_TIME has passed since the first completion after the last trigger (02 R66). -/
def intCoalesceTimeout (q : Nat) (d : Dev) : Dev :=
  match getQp d q with
  | none => d
  | some p =>
    if p.aggTime != 0 && p.since != 0 && decide (p.firstNs + p.aggTime * 1000 ≤ d.tu.ns) then trigger p.vector (setQp q { p with since := 0 } d) else d

def execIntCoalesceTimeout (qp : Nat) (s : State) : Host.Outcome State Fault Refusal :=
  .next (s.mapDev (intCoalesceTimeout qp))

/-! Arbitration and fetch (02 R47-R51). -/

/-- Commands of a pair that are fetched and not completed. -/
def pairOutst (d : Dev) (q : Nat) : List Outst := d.host.outst.filter fun c => c.qp == q

/-- The CQ keeps a slot for one more command (02 R47). -/
def cqRoom (d : Dev) (q : Nat) (p : Qp) : Bool :=
  decide ((pairOutst d q).length + p.unrel < p.cqSize - 1)

/-- FW_ACTIVATE holds long commands back (22 R541, step 3). -/
def holding (d : Dev) : Bool := d.boot.act.any fun a => a.step == 1

/-- The pair may be fetched from (02 R51; 22 R541). -/
def eligible (d : Dev) (q : Nat) (p : Qp) : Bool :=
  p.sqHead != p.sqTail && cqRoom d q p && !(p.headOrd && !(pairOutst d q).isEmpty) && !(p.headLong && holding d)

/-- The next eligible pair of a class, round robin in ascending number after the one served last. -/
def nextEligible (d : Dev) (cls last : Nat) : Option Nat :=
  let l := (d.host.qps.filter fun (q, p) => p.cls == cls && eligible d q p).map (·.1)
  match l.find? (fun q => last < q) with
  | some q => some q
  | none => l.head?

/-- The credit of a class (02 R51). -/
def credit (h : HostIf) : Nat → Nat
  | 1 => h.crHigh
  | 2 => h.crMed
  | _ => h.crLow

def lastOf (h : HostIf) (cls : Nat) : Nat := h.last.getD cls 0

/-- The first class among High, Medium and Low with credit and an eligible pair. -/
def pickCredited (d : Dev) : Option (Nat × Nat) :=
  [1, 2, 3].findSome? fun cls =>
    if credit d.host cls = 0 then none
    else (nextEligible d cls (lastOf d.host cls)).map fun q => (cls, q)

/-- A credit refill, at which new weights and pair classes take effect (02 R51, R71). -/
def refill (d : Dev) : Dev :=
  modHost (fun h => { h with
    crHigh := h.wHigh + 1, crMed := h.wMed + 1, crLow := h.wLow + 1
    qps := h.qps.map fun (q, p) => (q, { p with cls := p.clsNext }) }) d

/-- One fetch opportunity: the class and pair served, and the device after any refill (02 R51). -/
def pick (d : Dev) : Option (Nat × Nat × Dev) :=
  match nextEligible d 0 (lastOf d.host 0) with
  | some q => some (0, q, d)
  | none =>
    match pickCredited d with
    | some (cls, q) => some (cls, q, d)
    | none =>
      if [1, 2, 3].any fun cls => (nextEligible d cls (lastOf d.host cls)).isSome then
        let d := refill d
        match nextEligible d 0 (lastOf d.host 0) with
        | some q => some (0, q, d)
        | none => (pickCredited d).map fun (cls, q) => (cls, q, d)
      else none

/-- Charge a fetch to its class. -/
def charge (cls q : Nat) (h : HostIf) : HostIf :=
  let h := { h with last := h.last.setIfInBounds cls q }
  match cls with
  | 1 => { h with crHigh := h.crHigh - 1 }
  | 2 => { h with crMed := h.crMed - 1 }
  | 3 => { h with crLow := h.crLow - 1 }
  | _ => h

/-- The opcode belongs to the admin pair alone (02 R50). -/
def adminOpcode (op : Nat) : Bool := decide (1 ≤ op) && decide (op ≤ 0x10)

/-- What recovery mode accepts: IDENTIFY, and FW_DOWNLOAD and FW_COMMIT of a firmware image (22 R538). -/
def recoveryOp (e : Sqe) (op : HostOp) : Bool :=
  op == .identify || op == .fwCommitWriteAndSelect || (op == .fwDownload && fld e 36 1 == 0)

/-- The row an entry from a pair runs, or the status it completes with (02 R50). -/
def route (q : Nat) (e : Sqe) : Except (Nat × Nat) HostOp :=
  let op := e.opcode.toNat
  if op = 9 then .ok .flush
  else if (adminOpcode op && q != 0) || (!adminOpcode op && q = 0) then .error (stInvalidOpcode, 0)
  else classify e

/-- The row in the device's mode: recovery mode takes few. -/
def routeIn (d : Dev) (q : Nat) (e : Sqe) : Except (Nat × Nat) HostOp :=
  match route q e with
  | .error x => .error x
  | .ok op => if recovery d && !recoveryOp e op then .error (stInvalidOpcode, 0) else .ok op

/-- The long commands (22 R542). -/
def isLong : HostOp → Bool
  | .flush | .logGet | .frameFetch | .decSubmit | .audConfigEnable | .audConfigDisable
  | .audStreamOpen | .audStreamClose | .mediaAttachDetach => true
  | _ => false

/-- Commands that count toward the 1,024 of 02 R48. -/
def countedOutst (d : Dev) : Nat := (d.host.outst.filter fun c => c.op != .eventArm).length

/-- The engine may fetch at all (02 R43, R48, R51, R562; 20 R511, R512; 22 R538). -/
def canFetch (d : Dev) : Bool :=
  delivering d && d.host.ready && !d.host.activating && (!d.host.fatal || recovery d) && d.pwr.reef.isNone &&
  decide (countedOutst d < 1024)

/-- Pairs with entries that a full CQ keeps back. One fetch stall of page 0x05 (02 R72) is one COMMAND_FETCH row at which
there is such a pair (DESIGN CHOICE 66: the spec does not say what one stall is). -/
def stalled (d : Dev) : Bool :=
  d.host.qps.any fun (q, p) => p.sqHead != p.sqTail && !cqRoom d q p

def countStall (d : Dev) : Dev :=
  if stalled d then modHost (fun h => { h with cnt := { h.cnt with stalls := h.cnt.stalls + 1 } }) d
  else d

/-- Take one entry off a pair's SQ into the outstanding list. -/
def takeEntry (cls q : Nat) (p : Qp) (op : HostOp) (e : Sqe) (d : Dev) : Dev :=
  let d := setQp q { p with sqHead := (p.sqHead + 1) % p.sqSize, headOrd := false, headLong := false } d
  modHost (fun h => { charge cls q h with
    nextTag := h.nextTag + 1
    outst := h.outst ++ [{ tag := h.nextTag, qp := q, op, e, phase := .fetched, ns := d.tu.ns }] }) d

/-- What every row of an opcode with a selector asks of its entry: whether HANDLE is 0, and of the buffer 0 that none is
transferred, 1 that one is, 2 that it depends on the selector. -/
def opcodeAsks : Nat → Bool × Nat
  | 0x05 => (true, 0)
  | 0x0B => (true, 0)
  | 0x0D => (true, 1)
  | 0x0E => (true, 2)
  | 0x0F => (true, 0)
  | 0x25 => (true, 2)
  | 0x33 => (false, 1)
  | 0x84 => (true, 2)
  | 0xA1 => (true, 2)
  | 0xB1 => (true, 2)
  | _ => (false, 2)

/-- FIELD_BYTE of an entry whose selector at byte `fb` is unlisted: the first field in error (02 R72). -/
def unlistedField (e : Sqe) (fb : Nat) : Nat :=
  let a := opcodeAsks e.opcode.toNat
  let none' := a.2 != 0
  let some' := a.2 != 1
  let hdr : List (Nat × Bool) :=
    [(1, decide (e.flags.toNat < 8)), (4, !a.1 || e.handle == 0),
     (16, (none' || e.bdlPtr == 0) && (some' || bufDirect e || e.bdlPtr.toNat % 16 == 0)),
     (24, (none' || e.dataLen == 0) && (some' || e.dataLen != 0)),
     (28, (none' || e.bdlCount == 0) && (some' || !(bufDirect e) || e.bdlCount == 0)), (30, e.rsvd == 0)] ++
    (if fb = 37 then [(if fld e 33 3 = 0 then 36 else lowestByte 33 (fld e 33 3) 3, fld e 33 3 == 0 && decide (fld e 36 1 ≤ 1))]
     else [])
  ((hdr.filter fun p => !p.2).head?.map (·.1)).getD fb

/-- COMMAND_FETCH (02 R51): the pair that arbitration picks gives its head entry. An ORDERED entry
that must wait, or a long one that an activation holds back, marks its pair instead. -/
def commandFetch (e : Sqe) (d : Dev) : Dev :=
  if !canFetch d then d
  else
    let d := countStall d
    match pick d with
    | none => d
    | some (cls, q, d) =>
      match getQp d q with
      | none => d
      | some p =>
        if ordered e && !(pairOutst d q).isEmpty then setQp q { p with headOrd := true } d
        else
          let t := d.host.nextTag
          match routeIn d q e with
          | .ok op =>
            if holding d && isLong op then setQp q { p with headLong := true } d else takeEntry cls q p op e d
          | .error (st, fb) =>
            let d := takeEntry cls q p .identify e d
            match findOutst d t with
            | some c => complete c st 0 0 (if st = stInvalidField then unlistedField e fb else fb) d
            | none => d

def execCommandFetch (e : Sqe) (s : State) : Host.Outcome State Fault Refusal :=
  .next (s.mapDev (commandFetch e))

/-! Admin commands (02 R61, R68-R74). -/

/-- HID (02 R39). -/
def hid (d : Dev) : Nat :=
  0x8640 + (if d.ident.b24 then 1 else 2) * 2 ^ 16 + 0xA0 * 2 ^ 24 + 0x0FFF * 2 ^ 32

def specQpCreate : CmdSpec where
  op := .qpCreate
  layout := [(32, 0, 64), (40, 0, 64), (48, 0, 16), (50, 0, 16), (52, 0, 16), (54, 0, 16), (56, 0, 8)]
  checks e :=
    [(32, fld e 32 8 % 4096 == 0), (40, fld e 40 8 % 4096 == 0 && fld e 40 8 != fld e 32 8),
     (48, fld e 48 2 != 0), (50, fld e 50 2 != 0),
     (52, decide (1 ≤ fld e 52 2) && decide (fld e 52 2 ≤ 4095)),
     (54, decide (1 ≤ fld e 54 2) && decide (fld e 54 2 ≤ 2047)), (56, decide (fld e 56 1 ≤ 3))]

/-- QP_CREATE (02 R69). -/
def qpCreateBody (c : Outst) (d : Dev) : Ans :=
  let q := fld c.e 52 2
  if (getQp d q).isSome then .fail stQpInUse 52 0
  else okAns (setQp q (newQp (BitVec.ofNat 64 (fld c.e 32 8)) (BitVec.ofNat 64 (fld c.e 40 8))
      (fld c.e 48 2 + 1) (fld c.e 50 2 + 1) (fld c.e 54 2) (fld c.e 56 1)) d)
    (res := 0x01000000 + q)

def execQpCreate (t : Nat) (s : State) : Host.Outcome State Fault Refusal :=
  .next (s.mapDev (hostRow specQpCreate t qpCreateBody))

def specFeatureSetArbitration : CmdSpec where
  op := .featureSetArbitration
  layout := [(32, 0, 8), (36, 0, 24)]

/-- FEATURE_SET ARBITRATION (02 R71): the weights count from the next refill. -/
def featureSetArbitrationBody (c : Outst) (d : Dev) : Ans :=
  okAns (modHost (fun h => { h with
    wHigh := fld c.e 36 1, wMed := fld c.e 37 1, wLow := fld c.e 38 1 }) d)

def execFeatureSetArbitration (t : Nat) (s : State) : Host.Outcome State Fault Refusal :=
  .next (s.mapDev (hostRow specFeatureSetArbitration t featureSetArbitrationBody))

def specFeatureSetIntCoalesce : CmdSpec where
  op := .featureSetIntCoalesce
  layout := [(32, 0, 8), (36, 0, 12), (40, 0, 24)]
  checks e := [(36, fldBits e 36 0 12 != 0)]

/-- FEATURE_SET INT_COALESCE (02 R66, R71). -/
def featureSetIntCoalesceBody (c : Outst) (d : Dev) : Ans :=
  let q := fldBits c.e 36 0 12
  match getQp d q with
  | none => .fail stInvalidField 36 0
  | some p => okAns (setQp q { p with aggCount := fld c.e 40 1, aggTime := fld c.e 41 2 } d)

def execFeatureSetIntCoalesce (t : Nat) (s : State) : Host.Outcome State Fault Refusal :=
  .next (s.mapDev (hostRow specFeatureSetIntCoalesce t featureSetIntCoalesceBody))

def specFeatureSetEventConfig : CmdSpec where
  op := .featureSetEventConfig
  layout := [(32, 0, 8), (36, 1, 12)]

/-- FEATURE_SET EVENT_CONFIG (02 R71). -/
def featureSetEventConfigBody (c : Outst) (d : Dev) : Ans :=
  okAns (modEvt (fun e => { e with mask := fld c.e 36 4 }) d)

def execFeatureSetEventConfig (t : Nat) (s : State) : Host.Outcome State Fault Refusal :=
  .next (s.mapDev (hostRow specFeatureSetEventConfig t featureSetEventConfigBody))

def specFeatureSetQpClass : CmdSpec where
  op := .featureSetQpClass
  layout := [(32, 0, 8), (36, 0, 12), (40, 0, 2)]
  checks e := [(36, fldBits e 36 0 12 != 0)]

/-- FEATURE_SET QP_CLASS (02 R71): the class counts from the next refill. -/
def featureSetQpClassBody (c : Outst) (d : Dev) : Ans :=
  let q := fldBits c.e 36 0 12
  match getQp d q with
  | none => .fail stInvalidField 36 0
  | some p => okAns (setQp q { p with clsNext := fldBits c.e 40 0 2 } d)

def execFeatureSetQpClass (t : Nat) (s : State) : Host.Outcome State Fault Refusal :=
  .next (s.mapDev (hostRow specFeatureSetQpClass t featureSetQpClassBody))

def specEventArm : CmdSpec where
  op := .eventArm
  layout := []

/-- EVENT_ARM (02 R61): takes the oldest queued event, waits, or is the 17th and is refused. -/
def eventArmBody (_c : Outst) (d : Dev) : Ans :=
  match d.evt.queue with
  | v :: q => okAns (modEvt (fun e => { e with queue := q }) d) (res := eventResult v) (ext := eventExt v)
  | [] =>
    if (d.host.outst.filter fun o => o.op == .eventArm && o.phase == .waiting).length < 16 then
      .stay d .waiting
    else .fail stArmLimit 0xFF 0

def execEventArm (t : Nat) (s : State) : Host.Outcome State Fault Refusal :=
  .next (s.mapDev (hostRow specEventArm t eventArmBody))

/-- The mirror of 02 R41 is written from the states of 18 and 21 in Safety.lean's family; the host's
write rules for BAR0 stand here. -/
def setLow (old new : Nat) : Nat := old / 2 ^ 32 * 2 ^ 32 + new % 2 ^ 32
def setHigh (old new : Nat) : Nat := new % 2 ^ 32 * 2 ^ 32 + old % 2 ^ 32

/-- A queue base keeps bits [11:0] at 0 (02 R39). -/
def baseReg (v : Nat) : Dword := BitVec.ofNat 64 (v / 4096 * 4096)

/-- A 32-bit write to one MSI-X table dword (02 R42). -/
def msixWrite32 (off v : Nat) (p : Pcie) : Pcie :=
  let vec := off / 16
  let e := (tabGet p.msix vec).getD {}
  let e' : MsixEnt :=
    match off % 16 with
    | 0 => { e with addr := BitVec.ofNat 64 (setLow e.addr.toNat v) }
    | 4 => { e with addr := BitVec.ofNat 64 (setHigh e.addr.toNat v) }
    | 8 => { e with data := BitVec.ofNat 32 v }
    | _ => { e with ctrl := BitVec.ofNat 32 (v % 2) }
  { p with msix := tabSet p.msix vec e' }

/-- One aligned 32-bit host write to BAR0 outside HCTL and the doorbells, which have rows of their
own (02 R39, R40). -/
def bar0Write32 (a v : Nat) (d : Dev) : Dev :=
  if 0x20000 ≤ a && decide (a < 0x28000) then
    let off := a - 0x20000
    if off % 16 = 12 && v % 2 = 0 then msixVectorUnmask (off / 16) d
    else modPcie (msixWrite32 off v) d
  else if d.host.enable then d
  else match a with
    | 0x20 => modHost (fun h => { h with asqBase := baseReg (setLow h.asqBase.toNat v) }) d
    | 0x24 => modHost (fun h => { h with asqBase := baseReg (setHigh h.asqBase.toNat v) }) d
    | 0x28 => modHost (fun h => { h with acqBase := baseReg (setLow h.acqBase.toNat v) }) d
    | 0x2C => modHost (fun h => { h with acqBase := baseReg (setHigh h.acqBase.toNat v) }) d
    | 0x30 => modHost (fun h => { h with
        sizes := BitVec.ofNat 32 (bitsOf v 0 12 + bitsOf v 16 12 * 2 ^ 16) }) d
    | _ => d

/-- A host write to BAR0: aligned 32-bit and 64-bit writes, the latter as low half then high half;
any other is discarded (02 R39). -/
def bar0Write (w : RegAccess) (d : Dev) : Dev :=
  if !bar0Live d then d
  else if w.size = 4 && w.addr % 4 = 0 then bar0Write32 w.addr (w.value.toNat % 2 ^ 32) d
  else if w.size = 8 && w.addr % 8 = 0 then
    bar0Write32 (w.addr + 4) (w.value.toNat / 2 ^ 32)
      (bar0Write32 w.addr (w.value.toNat % 2 ^ 32) d)
  else d

end Sys2Proof.Machine
end

