-- ==== Sys2Proof/Machine/Security.lean ====
section
/-!
DEFINITION. Machine/Security.lean: images and their verification, staging and commits, attestation, debug tokens
and lifecycle, the debug port (20 R494-R507, R513-R516), and the event log (22 R535).
-/
namespace Sys2Proof.Machine

def modSec (f : Sec → Sec) (d : Dev) : Dev := { d with sec := f d.sec }
def modBoot (f : Boot → Boot) (d : Dev) : Dev := { d with boot := f d.boot }

abbrev stImageRejected : Nat := 0x0110
abbrev stTokenRejected : Nat := 0x0111
abbrev stFlashFailed : Nat := 0x0112

/-- Image fields (20 R496). -/
def imType (m : List Byte) : Nat := le m 5 1
def imSlot (m : List Byte) : Nat := le m 6 1
def imRevoke (m : List Byte) : Nat := le m 7 1
def imSvn (m : List Byte) : Nat := le m 8 1
def imBodyLen (m : List Byte) : Nat := le m 12 4
def imBuild (m : List Byte) : Nat := le m 16 4
def imMajor (m : List Byte) : Nat := le m 20 2
def imMinor (m : List Byte) : Nat := le m 22 2
def imRev (m : List Byte) : List Byte := (m.drop 24).take 16
def imC0 (m : List Byte) : Nat := le m 56 4
def imC1 (m : List Byte) : Nat := le m 60 4
def imBody (m : List Byte) : List Byte := m.drop 4096
/-- The image digest (20 R496). -/
def imDigest (m : List Byte) : List Byte := fit 32 (sha3 (m.take 1408))

/-- Key slots (20 R494): a slot is empty when its hash is all 0. -/
def slotHash (d : Dev) (s : Nat) : List Byte := fit 32 (d.sec.slots.toList.getD s [])
def slotEmpty (d : Dev) (s : Nat) : Bool := (slotHash d s).all (· == 0)
def slotRevoked (d : Dev) (s : Nat) : Bool := bitOf d.sec.revoked s

/-- The first check that fails of a list of checks with their reasons (20 R497). -/
def firstReason (l : List (Bool × Nat)) : Option Nat := (l.find? fun p => !p.1).map (·.2)

/-- The security version floor of an image type (20 R495). -/
def floorOf (d : Dev) (ty : Nat) : Nat := if ty = 1 then d.sec.floorFw else d.sec.floorCust

/-- The key of an image or a token: slot, slot state, key hash, signature and serial (20 R497, steps 3 to 8). -/
def keyChecks (d : Dev) (slot : Nat) (allowed : Bool) (key sig digest serial : List Byte) : List (Bool × Nat) :=
  [(allowed, 3), (!slotEmpty d slot, 4), (!slotRevoked d slot, 5), (fit 32 (sha3 key) == slotHash d slot, 6),
   (Config.mldsaVerify key sig digest, 7), (serial.all (· == 0) || serial == fit 16 d.ident.serial, 8)]

/-- Verification of an image for a type, 1 FIRMWARE or 2 CUSTOMER: the reason of the first failing check (20 R497). -/
def verifyImage (d : Dev) (ty : Nat) (m : List Byte) : Option Nat :=
  let sections := if imType m = 2 then
      decide (imC0 m ≤ 524288) && decide (imC1 m ≤ 524288) && imBodyLen m == imC0 m + imC1 m
    else if imType m = 1 then decide (imBodyLen m ≤ 25161728) && imC0 m == 0 && imC1 m == 0
    else true
  firstReason
    ([(m.take 4 == [0x56, 0x4B, 0x49, 0x4D] && le m 4 1 == 1 && imBodyLen m != 0 && m.length == 4096 + imBodyLen m &&
        sections, 1),
      (imType m == ty, 2)] ++
     keyChecks d (imSlot m) (if ty = 1 then decide (imSlot m ≤ 1) else imSlot m == 2 || imSlot m == 3)
       ((m.drop 96).take 1312) ((m.drop 1408).take 2420) (imDigest m) ((m.drop 40).take 16) ++
     [(decide (floorOf d ty ≤ imSvn m), 9),
      (fit 32 (sha3 (imBody m)) == (m.drop 64).take 32, 10),
      (clearBit (imRevoke m) (imSlot m ^^^ 1) == 0, 11)])

/-- The image stored in a bank. -/
def bankImg (d : Dev) (b : Nat) : List Byte := if b = 0 then d.sec.bankA else d.sec.bankB

/-- Verification of a stored copy: one that was cut off fails (20 R500). -/
def verifyStored (d : Dev) (which : Nat) : Option Nat :=
  if bitOf d.sec.torn which then some ((Config.tornReason which).val + 1)
  else if which = 2 then verifyImage d 2 d.sec.cust
  else verifyImage d 1 (bankImg d which)

/-! The event log (22 R535). -/

/-- Entries that remain once that of a sequence number is written: the sector after the one in use is erased when the first entry
goes into it, so that at least 64 erased entries always lie ahead (DEDUCED, log 121). -/
def logKeep (seq : Nat) : Nat := 3582 * 64 + (seq - 1) % 64 + 1

/-- Append an entry to the ring of 3,584 sectors of 64. -/
def logEvent (type : Nat) (payload : List Byte) (d : Dev) : Dev :=
  modBoot (fun b =>
    let e : LogEnt := { seq := b.seq + 1, type, payload, boots := b.boots }
    { b with seq := b.seq + 1, log := (b.log ++ [e]).drop (b.log.length + 1 - logKeep e.seq) }) d

/-- An entry in its flash form. -/
def logForm (e : LogEnt) : List Byte :=
  let l := pack [(4, e.seq), (1, e.type), (1, e.payload.length), (2, 0)] ++ fit 48 e.payload ++ toLE 4 e.boots
  l ++ toLE 4 (crc32c l).toNat

/-! FW_DOWNLOAD (20 R498). -/

/-- Commands of a kind that were fetched before one and are not completed. -/
def othersOut (d : Dev) (t : Nat) (p : HostOp → Bool) : Bool :=
  d.host.outst.any fun c => decide (c.tag < t) && p c.op

def isCommit : HostOp → Bool
  | .fwCommitWrite | .fwCommitWriteAndSelect | .fwCommitSelectOnly | .fwCommitCustomer | .fwCommitKeys => true
  | _ => false
def isFwLoad (o : HostOp) : Bool := o == .fwDownload || isCommit o

def stagingOf (d : Dev) : Nat → Option Staging
  | 0 => d.sec.stFw
  | 1 => d.sec.stCust
  | _ => d.sec.stKeys
def setStaging (target : Nat) (x : Option Staging) (d : Dev) : Dev :=
  modSec (fun s => match target with
    | 0 => { s with stFw := x }
    | 1 => { s with stCust := x }
    | _ => { s with stKeys := x }) d

def specFwDownload : CmdSpec where
  op := .fwDownload
  layout := [(32, 0, 40)]
  checks e := [(36, decide (fld e 36 1 ≤ 2))]
  data := someData

/-- The staging after a piece, or the byte of the field in error. -/
def stagePiece (old : Option Staging) (target off : Nat) (piece : List Byte) : Except Nat Staging :=
  if off = 0 then
    let total := if target = 2 then 64 else 4096 + imBodyLen piece
    if (target != 2 && decide (piece.length < 4096)) || decide (total < piece.length) then .error 24
    else .ok { total, bytes := piece }
  else match old with
    | none => .error 32
    | some s =>
      if s.bytes.length != off then .error 32
      else if s.total < off + piece.length then .error 24
      else .ok { s with bytes := s.bytes ++ piece }

def fwDownloadBody (c : Outst) (d : Dev) : Ans :=
  let target := fld c.e 36 1
  match stagePiece (stagingOf d target) target (fld c.e 32 4) (fit c.e.dataLen.toNat c.e.data) with
  | .error fb => .fail stInvalidField fb 0
  | .ok s =>
    check (d.sec.life != 3) stDenied <|
    check (decide (d.pwr.state < 2)) stConflict <|
    okAns (setStaging target (some s) d) (res := s.bytes.length + s.total * 2 ^ 32)

def execFwDownload (t : Nat) (s : State) : Host.Outcome State Fault Refusal :=
  .next (s.mapDev (hostRow specFwDownload t fwDownloadBody))

/-! FW_COMMIT (20 R499, R500). -/

def commitLayout' : List (Nat × Nat × Nat) := [(32, 0, 17)]
def raiseSvn (e : Sqe) : Bool := fldBits e 34 0 1 == 1

/-- The bank that is not running. -/
def otherBank (d : Dev) : Nat := if recovery d then Config.recoveryBank.toNat else 1 - d.sec.bank % 2

/-- RESULT of a commit (20 R499). -/
def commitRes (d : Dev) (ty reason bank : Nat) : Nat := reason + bank * 2 ^ 8 + floorOf d ty * 2 ^ 16

/-- The COMMIT log entry (22 R535). -/
def logCommit (target action bank reason status svn floor : Nat) (d : Dev) : Dev :=
  logEvent 4 (pack [(1, target), (1, action), (1, bank), (1, reason), (2, status), (1, svn), (1, floor)]) d

/-- A commit that fails after its checks: the log entry, then the completion. -/
def commitFails (target action reason status : Nat) (m : List Byte) (d : Dev) : Ans :=
  let ty := if target = 0 then 1 else 2
  .done (logCommit target action 0xFF reason status (imSvn m) (floorOf d ty) d) status (commitRes d ty reason 0xFF) 0

/-- The staged object of a target, once whole. -/
def stagedWhole (d : Dev) (target : Nat) : Option (List Byte) :=
  match stagingOf d target with
  | some s => if s.bytes.length = s.total then some s.bytes else none
  | none => none

/-- The checks and the start of a commit of an image: it is verified, and its flash write begins. -/
def commitBody (target action : Nat) (c : Outst) (d : Dev) : Ans :=
  let bank := if target = 0 then otherBank d else 0xFF
  let img := if action = 2 then some (bankImg d bank) else stagedWhole d target
  match img with
  | none => .fail stInvalidField 0xFF 0
  | some m =>
    check (d.sec.life != 3 && (target == 0 || d.sec.life != 2)) stDenied <|
    check (!(othersOut d c.tag isCommit) && d.sec.commit.isNone && decide (d.pwr.state < 2)) stConflict <|
    match if action = 2 then verifyStored d bank else verifyImage d (if target = 0 then 1 else 2) m with
    | some reason => commitFails target action reason stImageRejected m d
    | none =>
      .stay (modSec (fun s => { s with
        commit := some { cmd := c.tag, target, action, bank, raiseSvn := raiseSvn c.e, image := m } }) d) .stepped

def specFwCommitWrite : CmdSpec where
  op := .fwCommitWrite
  layout := commitLayout'
def execFwCommitWrite (t : Nat) (s : State) : Host.Outcome State Fault Refusal :=
  .next (s.mapDev (hostRow specFwCommitWrite t (commitBody 0 0)))

def specFwCommitWriteAndSelect : CmdSpec where
  op := .fwCommitWriteAndSelect
  layout := commitLayout'
def execFwCommitWriteAndSelect (t : Nat) (s : State) : Host.Outcome State Fault Refusal :=
  .next (s.mapDev (hostRow specFwCommitWriteAndSelect t (commitBody 0 1)))

def specFwCommitSelectOnly : CmdSpec where
  op := .fwCommitSelectOnly
  layout := commitLayout'
def execFwCommitSelectOnly (t : Nat) (s : State) : Host.Outcome State Fault Refusal :=
  .next (s.mapDev (hostRow specFwCommitSelectOnly t (commitBody 0 2)))

def specFwCommitCustomer : CmdSpec where
  op := .fwCommitCustomer
  layout := commitLayout'
def execFwCommitCustomer (t : Nat) (s : State) : Host.Outcome State Fault Refusal :=
  .next (s.mapDev (hostRow specFwCommitCustomer t (commitBody 1 0)))

def specFwCommitKeys : CmdSpec where
  op := .fwCommitKeys
  layout := commitLayout'

/-- FW_COMMIT KEYS blows a slot's hash fuses (20 R498, R499). -/
def fwCommitKeysBody (c : Outst) (d : Dev) : Ans :=
  match stagedWhole d 2 with
  | none => .fail stInvalidField 0xFF 0
  | some l =>
    let slot := le l 0 1
    check ((slot == 2 || slot == 3) && slotEmpty d slot) stInvalidField <|
    check (d.sec.life == 0) stDenied <|
    check (!(othersOut d c.tag isCommit) && d.sec.commit.isNone && decide (d.pwr.state < 2)) stConflict <|
    let d := modSec (fun s => { s with slots := s.slots.setIfInBounds slot (fit 32 (l.drop 32)), stKeys := none }) d
    okAns (logCommit 2 0 0xFF 0 0 (Config.noImageByte 1).toNat (Config.noImageByte 2).toNat d)
      (res := 0xFF * 2 ^ 8 + (Config.noImageByte 0).toNat * 2 ^ 16)

def execFwCommitKeys (t : Nat) (s : State) : Host.Outcome State Fault Refusal :=
  .next (s.mapDev (hostRow specFwCommitKeys t fwCommitKeysBody))

/-- Which stored copy a commit writes: 0 bank A, 1 bank B, 2 the customer slot, none for SELECT_ONLY. -/
def commitDest (k : Commit) : Option Nat := if k.target = 1 then some 2 else if k.action = 2 then none else some k.bank

/-- A stored copy is replaced by bytes, or left cut off. -/
def storeCopy (dest : Nat) (img : Option (List Byte)) (s : Sec) : Sec :=
  match img with
  | none => { s with torn := setBit s.torn dest }
  | some m =>
    let s := { s with torn := clearBit s.torn dest }
    match dest with
    | 0 => { s with bankA := m }
    | 1 => { s with bankB := m }
    | _ => { s with cust := m }

/-- A commit under way ends without its write done: the copy it wrote is cut off (20 R500). -/
def cutCommit (d : Dev) : Dev :=
  match d.sec.commit with
  | none => d
  | some k =>
    modSec (fun s => match commitDest k with
      | some dest => storeCopy dest none { s with commit := none }
      | none => { s with commit := none }) d

/-- The fuses a successful commit blows: the floor with RAISE_SVN, and revocation (20 R495, R500). -/
def commitFuses (k : Commit) (s : Sec) : Sec :=
  let svn := min (imSvn k.image) 64
  let s := if !k.raiseSvn then s
    else if k.target = 0 then { s with floorFw := max s.floorFw svn }
    else { s with floorCust := max s.floorCust svn }
  let other := imSlot k.image ^^^ 1
  if bitOf (imRevoke k.image) other then { s with revoked := setBit s.revoked other } else s

/-- FLASH_WRITE_DONE (20 R499, R500). -/
def flashWriteDone (flashOk readbackOk : Bool) (d : Dev) : Dev :=
  match d.sec.commit with
  | none => d
  | some k =>
    let ty := if k.target = 0 then 1 else 2
    let fail (reason status : Nat) (d : Dev) : Dev :=
      let d := cutCommit d
      completeTag (some k.cmd) status (commitRes d ty reason 0xFF) 0
        (logCommit k.target k.action 0xFF reason status (imSvn k.image) (floorOf d ty) d)
    if !flashOk then fail 0 stFlashFailed d
    else if !readbackOk && (commitDest k).isSome then fail 0x0D stImageRejected d
    else
      let d := modSec (fun s =>
        let s := match commitDest k with
          | some dest => storeCopy dest (some k.image) s
          | none => s
        let s := if k.target = 0 && k.action != 0 then { s with sel := k.bank, selSeq := s.selSeq + 1 } else s
        let s := if k.action = 2 then s else if k.target = 0 then { s with stFw := none } else { s with stCust := none }
        { commitFuses k s with commit := none }) d
      completeTag (some k.cmd) stSuccess (commitRes d ty 0 k.bank) 0
        (logCommit k.target k.action k.bank 0 0 (imSvn k.image) (floorOf d ty) d)

def execFlashWriteDone (flashOk readbackOk : Bool) (s : State) : Host.Outcome State Fault Refusal :=
  .next (s.mapDev (flashWriteDone flashOk readbackOk))

/-! ATTEST (20 R501, R502). -/

/-- A customer image has been verified at the last boot or RESTART. -/
def custVerified (d : Dev) : Bool := !d.sec.custRun.isEmpty

/-- DEBUG_GRANTED: SECURED with a token grant in force (20 R513). -/
def debugGranted (d : Dev) : Bool := d.sec.life == 1 && d.sec.level != 0

/-- Measurement M of this boot (20 R501); no level is granted at boot. -/
def measurement (d : Dev) : List Byte := sha3 (d.sec.bootDigest ++ [BitVec.ofNat 8 d.sec.life, 0])

/-- Slots that a predicate holds of, as bits. -/
def slotBits (p : Nat → Bool) : Nat := ((List.range 4).map fun s => b2n (p s) * 2 ^ s).foldl (· + ·) 0

/-- Bytes 0-191 of the evidence (20 R502). -/
def evidence (d : Dev) (nonce : List Byte) (seq : Nat) : List Byte :=
  let cust := custVerified d
  [0x56, 0x4B, 0x45, 0x56, 1, BitVec.ofNat 8 d.sec.life,
    BitVec.ofNat 8 (b2n (debugGranted d) + d.sec.level * 2 + b2n d.sec.full * 8), BitVec.ofNat 8 d.pwr.state] ++
  fit 32 nonce ++ fit 16 d.ident.serial ++
  pack [(1, d.sec.bank), (1, imSvn d.sec.running), (1, if cust then imSvn d.sec.custRun else 0xFF),
    (1, slotBits (fun s => !slotEmpty d s) + slotBits (slotRevoked d) * 16), (1, d.sec.floorFw), (1, d.sec.floorCust),
    (2, b2n d.sec.activated + b2n cust * 2)] ++
  fit 32 d.sec.bootDigest ++ imDigest d.sec.running ++ (if cust then imDigest d.sec.custRun else zeros 32) ++
  pack [(4, (skerryCrc d).toNat), (2, d.thm.trips), (2, 0), (4, ns32 d), (4, seq), (16, 0)]

def specAttestEvidence : CmdSpec where
  op := .attestEvidence
  layout := [(32, 0, 8)]
  checks e := [(1, e.flags.getLsbD 1)]
  data := { transfers := true, need := fun _ => 2612 }

def attestEvidenceBody (c : Outst) (d : Dev) : Ans :=
  check (d.sec.life != 3 && !d.sec.full) stDenied <|
    let seq := d.sec.evSeq + 1
    let l := evidence d c.e.metaData seq
    okAns (writeData c (l ++ fit 2420 (Config.aliasSign (measurement d) (sha3 l)))
      (modSec (fun s => { s with evSeq := seq }) d))

def execAttestEvidence (t : Nat) (s : State) : Host.Outcome State Fault Refusal :=
  .next (s.mapDev (hostRow specAttestEvidence t attestEvidenceBody))

def specAttestCerts : CmdSpec where
  op := .attestCerts
  layout := [(32, 0, 8)]
  data := someData

/-- The certificate chain: each certificate behind its length (20 R502). -/
def certChain (d : Dev) : List Byte :=
  let a := Config.aliasCert (measurement d)
  toLE 4 a.length ++ a ++ toLE 4 Config.deviceCert.length ++ Config.deviceCert

def attestCertsBody (c : Outst) (d : Dev) : Ans :=
  check (d.sec.life != 3 && !d.sec.full) stDenied <|
    okAns (writeData c (certChain d) d) (res := (certChain d).length)

def execAttestCerts (t : Nat) (s : State) : Host.Outcome State Fault Refusal :=
  .next (s.mapDev (hostRow specAttestCerts t attestCertsBody))

/-! DEBUG_TOKEN (20 R503-R507). -/

/-- A DEBUG_HALT condition (18 R467): S0 or S1 halted, or level FULL. -/
def debugHaltCheck (d : Dev) : Dev := if conditionHolds d csDebugHalt then safeCause csDebugHalt noAxis d else d

/-- Set the debug level; cores that it does not reach run on (20 R507). -/
def setLevel (n : Nat) (d : Dev) : Dev :=
  let d := modSec (fun s => { s with level := n, full := s.full || n == 2, halted := if n = 2 then s.halted else 0 }) d
  if n = 0 then modCores (fun k => { k with c := k.c.map fun c => { c with halted := false } }) d else debugHaltCheck d

/-- The grant and the nonce end (20 R506). -/
def endGrant (d : Dev) : Dev := modSec (fun s => { s with nonce := none }) (setLevel 0 d)

def specDebugTokenChallenge : CmdSpec where
  op := .debugTokenChallenge
  layout := [(32, 0, 8)]
  data := { transfers := true, need := fun _ => 64 }

def debugTokenChallengeBody (c : Outst) (d : Dev) : Ans :=
  let nonce := fit 32 (Config.random d.free)
  let d := { modSec (fun s => { s with nonce := some nonce }) d with free := d.free + 1 }
  okAns (writeData c (nonce ++ fit 16 d.ident.serial ++ pack [(1, d.sec.life), (1, d.sec.level), (14, 0)]) d)

def execDebugTokenChallenge (t : Nat) (s : State) : Host.Outcome State Fault Refusal :=
  .next (s.mapDev (hostRow specDebugTokenChallenge t debugTokenChallengeBody))

/-- Token fields (20 R505). -/
def tkKind (l : List Byte) : Nat := le l 5 1
def tkSlot (l : List Byte) : Nat := le l 6 1

/-- Verification of a token (20 R506): the reason of the first failing check. Slots 2 and 3 sign DEBUG_APP and,
out of SECURED, TO_RETIRED. -/
def verifyToken (d : Dev) (kinds : List Nat) (l : List Byte) : Option Nat :=
  let kind := tkKind l
  let allowed := decide (tkSlot l ≤ 1) ||
    ((tkSlot l == 2 || tkSlot l == 3) && (kind == 1 || (kind == 4 && d.sec.life == 1)))
  firstReason
    ([(l.take 4 == [0x56, 0x4B, 0x44, 0x54] && le l 4 1 == 1, 1), (kinds.contains kind, 2)] ++
     keyChecks d (tkSlot l) allowed ((l.drop 64).take 1312) ((l.drop 1376).take 2420)
       (fit 32 (sha3 (l.take 1376))) ((l.drop 8).take 16) ++
     [(d.sec.nonce == some ((l.drop 24).take 32), 12)])

/-- An operation with a token: refused with the reason, or going on. -/
def withToken (kinds : List Nat) (c : Outst) (d : Dev) (k : Nat → Ans) : Ans :=
  let l := fit 3796 c.e.data
  match verifyToken d kinds l with
  | some reason => .done d stTokenRejected reason 0
  | none => k (tkKind l)

/-- The entry carries no token. -/
def noToken (d : Dev) (t : Nat) : Bool := ((findOutst d t).map fun c => c.e.dataLen == 0).getD false

/-- UNLOCK and TRANSITION consume the nonce, whatever their result (20 R506). -/
def consumeNonce (op : HostOp) (t : Nat) (run : Dev → Dev) (d : Dev) : Dev :=
  if (startable op t d).isSome then modSec (fun s => { s with nonce := none }) (run d) else d

/-- A row that takes a token or none: the data rules and the layout follow which (20 R505). -/
def specTokenRow (op : HostOp) (bare : Bool) (off lo hi : Nat) : CmdSpec :=
  if bare then
    { op, layout := [(32, 0, 8), (off, 0, 8)], checks := fun e => [(off, decide (lo ≤ fld e off 1) && decide (fld e off 1 ≤ hi))] }
  else { op, layout := [(32, 0, 8)], data := { transfers := true, need := fun _ => 3796 } }

/-- A grant: a lower level than the one in force acts as RELOCK first (20 R507). -/
def grant (n : Nat) (d : Dev) : Dev := setLevel n (if n < d.sec.level then setLevel 0 d else d)

/-- UNLOCK (20 R507, R513). -/
def debugTokenUnlockBody (bare : Bool) (c : Outst) (d : Dev) : Ans :=
  if bare then check (d.sec.life == 0 || d.sec.life == 2) stDenied (okAns (grant (fld c.e 33 1) d))
  else check (d.sec.life != 3) stDenied <| withToken [1, 2] c d fun kind => okAns (grant kind d)

def debugTokenUnlock (t : Nat) (d : Dev) : Dev :=
  let bare := noToken d t
  consumeNonce .debugTokenUnlock t
    (hostRow (specTokenRow .debugTokenUnlock bare 33 1 2) t (debugTokenUnlockBody bare)) d

def specDebugTokenRelock : CmdSpec where
  op := .debugTokenRelock
  layout := [(32, 0, 8)]

/-- RELOCK ends the grant and the nonce (20 R506, R507). -/
def debugTokenRelockBody (_ : Outst) (d : Dev) : Ans := okAns (endGrant d)

def debugTokenRelock (t : Nat) (d : Dev) : Dev := hostRow specDebugTokenRelock t debugTokenRelockBody d

/-- Blow the fuses of a lifecycle state, in force from the next compute-die reset (20 R503). -/
def blowLifecycle (target : Nat) (d : Dev) : Dev :=
  logEvent 5 (pack [(1, d.sec.life), (1, target)]) (modSec (fun s => { s with lifeNext := max s.lifeNext target }) d)

/-- TRANSITION (20 R503). -/
def debugTokenTransitionBody (bare : Bool) (c : Outst) (d : Dev) : Ans :=
  if bare then check (d.sec.life == 0) stDenied (okAns (blowLifecycle 1 d))
  else
    check (d.sec.life == 1 || d.sec.life == 2) stDenied <|
      withToken [3, 4] c d fun kind =>
        check (kind == 4 || d.sec.life == 1) stDenied (okAns (blowLifecycle (if kind = 3 then 2 else 3) d))

def debugTokenTransition (t : Nat) (d : Dev) : Dev :=
  let bare := noToken d t
  consumeNonce .debugTokenTransition t
    (hostRow (specTokenRow .debugTokenTransition bare 34 1 1) t (debugTokenTransitionBody bare)) d

def execDebugTokenTransition (t : Nat) (s : State) : Host.Outcome State Fault Refusal :=
  .next (s.mapDev (debugTokenTransition t))

/-! The debug port (20 R507): cores 0-3 F0-F3, 4 S0, 5 S1, 6 C0, 7 C1. -/

/-- The debug port reaches a core at the level in force, and the core has power (20 R507, R514). -/
def debugReaches (d : Dev) (n : Nat) : Bool :=
  d.boot.stage != 11 && ((n == 6 || n == 7) && d.sec.level != 0 || (decide (n < 6) && d.sec.level == 2))

def custOf (n : Nat) : CoreId := if n = 6 then 0 else 1

def debugPortHalt (n : Nat) (d : Dev) : Dev :=
  if !debugReaches d n then d
  else if n < 6 then debugHaltCheck (modSec (fun s => { s with halted := setBit s.halted n }) d)
  else modCore (custOf n) (fun k => { k with halted := true }) d

def execDebugPortHalt (core : Nat) (s : State) : Host.Outcome State Fault Refusal :=
  .next (s.mapDev (debugPortHalt core))

end Sys2Proof.Machine
end

