-- ==== Sys2Proof/Machine/CoreCmd.lean ====
section
/-!
DEFINITION. Machine/CoreCmd.lean: CORE_LINK (19 R482), and the stores to registers and memories that have no row of
their own (02 R39; 14 R369; 17 R456; 19 R481-R490).
-/
namespace Sys2Proof.Machine

/-! CORE_LINK (19 R482). -/

def coreArg (e : Sqe) : CoreId := ⟨fld e 36 1 % 2, Nat.mod_lt _ (by decide)⟩

def coreChecks (e : Sqe) : List (Nat × Bool) := [(36, decide (fld e 36 1 ≤ 1))]

def specCoreLinkVector : CmdSpec where
  op := .coreLinkVector
  layout := [(32, 0, 8), (36, 0, 16), (40, 0, 11)]
  checks := coreChecks

def coreLinkVectorBody (c : Outst) (d : Dev) : Ans :=
  okAns (modCore (coreArg c.e) (fun k => { k with vector := fldBits c.e 40 0 11 }) d)

def execCoreLinkVector (t : Nat) (s : State) : Host.Outcome State Fault Refusal :=
  .next (s.mapDev (hostRow specCoreLinkVector t coreLinkVectorBody))

def specCoreLinkPost : CmdSpec where
  op := .coreLinkPost
  layout := [(32, 0, 8), (36, 0, 24), (40, 0, 64)]
  checks := coreChecks

/-- POST: HOST_MSG with the TAG and 8 bytes of the command (19 R491). -/
def coreLinkPostBody (c : Outst) (d : Dev) : Ans :=
  let k := core d (coreArg c.e)
  check (k.state == 1 && decide (k.inq.length < 16)) stConflict <|
  okAns (mbxIn (coreArg c.e)
    { w0 := msgWord 0x81 (fld c.e 38 1) 0, w1 := BitVec.ofNat 64 (fld c.e 40 8) } d)

def execCoreLinkPost (t : Nat) (s : State) : Host.Outcome State Fault Refusal :=
  .next (s.mapDev (hostRow specCoreLinkPost t coreLinkPostBody))

/-- A core's reset: its registers, banks and queues; what the host set and counts stands. -/
def coreReset (st : Nat) (k : Core) : Core := { state := st, vector := k.vector, faults := k.faults }

/-- The code of a core in a customer image (20 R496). -/
def coreCode (m : List Byte) (c : CoreId) : List Byte :=
  if c = 0 then (imBody m).take (imC0 m) else ((imBody m).drop (imC0 m)).take (imC1 m)

/-- A core's TCM with its code of an image (19 R482). -/
def loadTcm (img : List Byte) (c : CoreId) (m : Mem) : Mem :=
  let l := memWriteBytes [] 0 (coreCode img c)
  if c = 0 then { m with tcm0 := l } else { m with tcm1 := l }

/-- Lifecycle states that hold the customer cores in reset (20 R513). -/
def custDenied (d : Dev) : Bool := d.sec.life == 2 || d.sec.life == 3

def specCoreLinkRestart : CmdSpec where
  op := .coreLinkRestart
  layout := [(32, 0, 8), (36, 0, 16)]
  checks := coreChecks

def coreLinkRestartBody (c : Outst) (d : Dev) : Ans :=
  check (!custDenied d) stDenied <|
  check (verifyStored d 2).isNone stConflict <|
  okAns (modCore (coreArg c.e) (coreReset 1)
    (modSec (fun s => { s with custRun := s.cust }) (modCores (fun k => { k with image := true }) d)))

/-- RESTART loads the core's TCM where it goes through. -/
def coreLinkRestart (t : Nat) (s : State) : State :=
  let s' := s.mapDev (hostRow specCoreLinkRestart t coreLinkRestartBody)
  match startable .coreLinkRestart t s.dev with
  | none => s'
  | some c =>
    if (specCheck specCoreLinkRestart c).isNone && !custDenied s.dev && (verifyStored s.dev 2).isNone then
      { s' with mem := loadTcm s.dev.sec.cust (coreArg c.e) s.mem }
    else s'

def execCoreLinkRestart (t : Nat) (s : State) : Host.Outcome State Fault Refusal := .next (coreLinkRestart t s)

def specCoreLinkStop : CmdSpec where
  op := .coreLinkStop
  layout := [(32, 0, 8), (36, 0, 16)]
  checks := coreChecks

/-- STOP: the core is held in reset; without an image it stays NO_IMAGE. -/
def coreLinkStopBody (c : Outst) (d : Dev) : Ans :=
  okAns (modCore (coreArg c.e) (fun k => coreReset (if k.state = 2 then 2 else 0) k) d)

def execCoreLinkStop (t : Nat) (s : State) : Host.Outcome State Fault Refusal :=
  .next (s.mapDev (hostRow specCoreLinkStop t coreLinkStopBody))

/-! Stores of the customer cores (19 R481). -/

/-- The interrupt distributor, IRQ_ (19 R484-R488). COMPLETE, SGI and the words of the IDs have rows of their own. -/
def irqStore (c : CoreId) (off size : Nat) (v : Dword) (d : Dev) : Dev :=
  let n := v.toNat % 2 ^ 32
  if size != 4 then accessFault c true (0x40000000 + off) d
  else match off with
    | 0x08 => modCore c (fun k => { k with pmr := n % 256 }) d
    | 0x0C => modCore c (fun k => { k with gsplit := n % 8 }) d
    | 0x30 => modCore c (fun k => { k with enable := k.enable / 2 ^ 32 * 2 ^ 32 + n / 2 * 2 }) d
    | 0x34 => modCore c (fun k => { k with enable := k.enable % 2 ^ 32 + n * 2 ^ 32 }) d
    | 0x00 | 0x04 | 0x10 | 0x14 | 0x18 | 0x20 | 0x24 | 0x28 | 0x2C => d
    | _ => if 0x104 ≤ off && off ≤ 0x1FC && off % 4 = 0 then d else accessFault c true (0x40000000 + off) d

/-- The axis feedback registers, POS_ (17 R456). PRESET has a row of its own. -/
def posStore (c : CoreId) (off size : Nat) (v : Dword) (d : Dev) : Dev :=
  let n := v.toNat
  if off = 0x200 && size = 4 then
    if bitOf n 2 then { d with safe := { d.safe with por := false } } else d
  else if 0x200 ≤ off then accessFault c true (0x40010000 + off) d
  else
    let a := axisIdx (off / 0x40)
    let r := off % 0x40
    let wide := r == 0x00 || r == 0x10 || r == 0x30
    let narrow := r == 0x08 || r == 0x0C || r == 0x18 || r == 0x1C || r == 0x20 || r == 0x24 || r == 0x28 || r == 0x2C
    if (wide && size = 8) || (narrow && size = 4) then
      ownerStore c a (0x40010000 + off) (fun d => match r with
        | 0x1C => modAxis a (fun x => { x with
            wrap := x.wrap && !bitOf n 3, index := x.index && !bitOf n 4, dirChg := x.dirChg && !bitOf n 5
            drift := x.drift && !bitOf n 6, faultEdge := x.faultEdge && !bitOf n 7, latch := x.latch && !bitOf n 8 }) d
        | 0x20 => modAxis a (fun x => { x with irqEn := bitsOf n 3 6 * 8 }) d
        | _ => d) d
    else accessFault c true (0x40010000 + off) d

/-- The PWM and brake registers, PWM_ (17 R456): those that can be written have rows of their own. -/
def pwmStore (c : CoreId) (off size : Nat) (d : Dev) : Dev :=
  if size != 4 || off % 4 != 0 then accessFault c true (0x40020000 + off) d
  else if off = 0x100 then d
  else if 0x100 ≤ off || 0x10 ≤ off % 0x20 then accessFault c true (0x40020000 + off) d
  else ownerStore c (axisIdx (off / 0x20)) (0x40020000 + off) (fun d => d) d

/-- The time readout (14 R369): read-only. -/
def timeStore (c : CoreId) (off size : Nat) (d : Dev) : Dev :=
  if (size = 4 && (off = 0x00 || off = 0x10 || off = 0x14 || off = 0x20)) ||
      (size = 8 && (off = 0x08 || off = 0x18)) then d
  else accessFault c true (0x40030000 + off) d

/-- The firmware mailbox, MBX_ (19 R490). OUT_W1 has a row of its own. -/
def mbxStore (c : CoreId) (off size : Nat) (v : Dword) (d : Dev) : Dev :=
  if off = 0x00 && size = 8 then modCore c (fun k => { k with outW0 := v }) d
  else if off = 0x20 && size = 4 then
    modCore c (fun k => { k with outOvf := k.outOvf && !v.getLsbD 16 }) d
  else if (off = 0x08 || off = 0x10 || off = 0x18) && size = 8 then d
  else accessFault c true (0x40040000 + off) d

/-- A store to a timer's register (19 R489). -/
def tmrStore (r n : Nat) (t : Tmr) : Tmr :=
  match r with
  | 0x00 => { t with
      en := bitOf n 0, periodic := bitOf n 1
      fired := t.fired && !bitOf n 8, step := t.step && !bitOf n 9, overrun := t.overrun && !bitOf n 10 }
  | 0x04 => { t with deadline := n % 2 ^ 32 }
  | 0x08 => { t with period := n % 2 ^ 31 }
  | _ => t

/-- The timers, TMR_. -/
def tmrStoreAt (c : CoreId) (off size : Nat) (v : Dword) (d : Dev) : Dev :=
  let r := off % 0x20
  if size != 4 || off % 4 != 0 || 0x80 ≤ off || 0x10 ≤ r then accessFault c true (0x40050000 + off) d
  else modCore c (fun k => { k with
    tmr := k.tmr.setIfInBounds (off / 0x20) (tmrStore r v.toNat (k.tmr.getD (off / 0x20) {})) }) d

/-- Poison of the window words that a store covers whole is gone; a partial store leaves it (12 R339). -/
def windowHeal (c : CoreId) (off size : Nat) (d : Dev) : Dev :=
  if size = 8 && off % 8 = 0 then
    let w := (Config.windowBase c.val + off) / 8
    { d with hbm := { d.hbm with lagPoison := d.hbm.lagPoison.filter (· != w) } }
  else d

/-- A store by a customer core (19 R481; 01 R20 outside its map). -/
def coreStore (c : CoreId) (addr size : Nat) (v : Dword) (s : State) : State :=
  if !coreRuns s.dev c then s
  else
    let bytes := toLE size v.toNat
    let off := addr % 0x1000
    if !(size = 1 || size = 2 || size = 4 || size = 8) then s.mapDev (accessFault c true addr)
    else if addr + size ≤ 0x80000 then
      { s with mem := if c = 0 then { s.mem with tcm0 := memWriteBytes s.mem.tcm0 addr bytes }
                      else { s.mem with tcm1 := memWriteBytes s.mem.tcm1 addr bytes } }
    else if 0x10000000 ≤ addr && addr + size ≤ 0x10400000 then
      let w := addr - 0x10000000
      let s := s.mapDev (windowHeal c w size)
      { s with mem := if c = 0 then { s.mem with win0 := memWriteBytes s.mem.win0 w bytes }
                      else { s.mem with win1 := memWriteBytes s.mem.win1 w bytes } }
    else s.mapDev (match addr / 0x1000 with
      | 0x40000 => irqStore c off size v
      | 0x40010 => posStore c off size v
      | 0x40020 => pwmStore c off size
      | 0x40030 => timeStore c off size
      | 0x40040 => mbxStore c off size v
      | 0x40050 => tmrStoreAt c off size v
      | _ => accessFault c true addr)

/-- A configuration write to the Message Control register of MSI-X, at its offset 2: bit 14 is the function mask, whose end
sends what pends (02 R67). -/
def configWrite (w : RegAccess) (d : Dev) : Dev :=
  if functionOn d && d.pcie.up && w.addr = 2 && w.size = 2 then
    sendPending (modPcie (fun p => { p with funcMask := w.value.getLsbD 14 }) d)
  else d

/-- REGISTER_WRITE: by the host to BAR0 or to the MSI-X capability of its configuration space, or by a customer core to its
map. -/
def registerWrite (w : RegAccess) (s : State) : State :=
  match w.master with
  | 0 => s.mapDev (bar0Write w)
  | 3 => s.mapDev (configWrite w)
  | 1 => coreStore 0 w.addr w.size w.value s
  | 2 => coreStore 1 w.addr w.size w.value s
  | _ => s

def execRegisterWrite (w : RegAccess) (s : State) : Host.Outcome State Fault Refusal := .next (registerWrite w s)

end Sys2Proof.Machine
end

