-- ==== Sys2Proof/Machine/SafetyCmd.lean ====
section
/-!
DEFINITION. Machine/SafetyCmd.lean: SAFETY_CONFIG, its proof test, and SAFETY_STATUS (18 R470-R476).
-/
namespace Sys2Proof.Machine

abbrev stSafetyCrc : Nat := 0x0A10

/-- A 64-bit field that holds 48 bits sign-extended (18 R471). -/
def sext48 (n : Nat) : Bool := unsigned 64 (signed 48 (n % 2 ^ 48)) == n

/-- The ranges of the safety configuration (18 R471). -/
def safeCfgValid (l : List Byte) : Bool :=
  le l 0 1 == 1 && decide (10 ≤ le l 2 2) && decide (le l 2 2 ≤ 1000) && decide (10 ≤ le l 8 1) &&
  le l 9 7 == 0 && le l 208 12 == 0 &&
  (List.range 8).all fun n =>
    let o := 16 + 24 * n
    if bitOf (le l 1 1) n then
      sext48 (le l o 8) && sext48 (le l (o + 8) 8) &&
      decide (signed 64 (le l o 8) < signed 64 (le l (o + 8) 8)) &&
      decide (1 ≤ le l (o + 16) 4) && decide (le l (o + 16) 4 < 2 ^ 31) &&
      decide (1 ≤ le l (o + 20) 4) && decide (le l (o + 20) 4 ≤ le l (o + 16) 4)
    else le l o 24 == 0

def specSafetyConfigLoad : CmdSpec where
  op := .safetyConfigLoad
  layout := [(32, 0, 8)]
  checks e := [(24, e.dataLen == 224)]
  data := structData 224

/-- Axis causes follow the axes that the new configuration monitors (18 R467, R468). -/
def remonitor (d : Dev) : Dev :=
  let gone := d.safe.present.filter fun c => decide (0x40 ≤ c.code) && !bitOf (monAxes d) c.axis
  let d := gone.foldl (fun d c => safeClear c.code c.axis d) d
  (List.finRange 8).foldl (fun d a =>
    if monitored d a && (axisOf d a).fault then safeCause csFeedback a.val d else d) d

/-- SAFETY_CONFIG LOAD in the order in which R472 lists its answers. -/
def safetyConfigLoadBody (c : Outst) (d : Dev) : Ans :=
  let l := fit 224 c.e.data
  check ((crc32c (l.take 220)).toNat == le l 220 4) stSafetyCrc <|
  check (safeCfgValid l && (List.finRange 8).all fun a =>
    !bitOf (le l 1 1) a.val || (axisOf d a).on) stInvalidField <|
  check (d.safe.held && !noPath d) stConflict <|
  okAns (remonitor (modSafe (fun s => { s with cfg := l }) d)) (res := le l 220 4)

def execSafetyConfigLoad (t : Nat) (s : State) : Host.Outcome State Fault Refusal :=
  .next (s.mapDev (hostRow specSafetyConfigLoad t safetyConfigLoadBody))

/-- The conditions of R470. -/
def resetReady (d : Dev) : Bool :=
  d.safe.present.isEmpty && d.safe.safeIn && decide (d.safe.entry + resetHoldNs d ≤ d.tu.ns) && framesGood d

/-- RESULT [15:8] of a refused RESET (18 R473). -/
def resetReason (d : Dev) : Nat :=
  match d.safe.present with
  | [] => if d.safe.safeIn then 0 else csSafeIn
  | l => ((l[Config.pickCause d.free % l.length]?).map Cause.code).getD 0

/-- Leave the safe state (18 R470, R474). -/
def safeLeave (d : Dev) : Dev :=
  let d := modSafe (fun s => { s with held := false }) d
  let d := emit (.pin 4 1) (emit (.pin 3 1) d)
  irqEdge 40 (raise evMotion 0x11 0 (configId d) d)

def specSafetyConfigReset : CmdSpec where
  op := .safetyConfigReset
  layout := [(32, 0, 8)]

def safetyConfigResetBody (_ : Outst) (d : Dev) : Ans :=
  check (decide (d.sec.life < 2) && d.sec.level != 2) stDenied <|
  if !d.safe.held then okAns d
  else if resetReady d then okAns (safeLeave d) (res := 1)
  else .done { d with free := d.free + 1 } stSafety (resetReason d * 2 ^ 8) 0

def execSafetyConfigReset (t : Nat) (s : State) : Host.Outcome State Fault Refusal :=
  .next (s.mapDev (hostRow specSafetyConfigReset t safetyConfigResetBody))

def specSafetyConfigForce : CmdSpec where
  op := .safetyConfigForce
  layout := [(32, 0, 8)]

def safetyConfigForceBody (_ : Outst) (d : Dev) : Ans := okAns (safeCause csForce noAxis d)

def execSafetyConfigForce (t : Nat) (s : State) : Host.Outcome State Fault Refusal :=
  .next (s.mapDev (hostRow specSafetyConfigForce t safetyConfigForceBody))

def specSafetyConfigProofTest : CmdSpec where
  op := .safetyConfigProofTest
  layout := [(32, 0, 8)]

def safetyConfigProofTestBody (c : Outst) (d : Dev) : Ans :=
  .stay (modSafe (fun s => { s with proofCmds := s.proofCmds ++ [c.tag] }) (safeCause csProof noAxis d)) .stepped

def execSafetyConfigProofTest (t : Nat) (s : State) : Host.Outcome State Fault Refusal :=
  .next (s.mapDev (hostRow specSafetyConfigProofTest t safetyConfigProofTestBody))

/-- The injected tests end (18 R476): a failed test of the Skerry's leaves SKERRY_INTERNAL present, one
of the compute die's SI_SELFTEST. -/
def proofTestDone (passed : Nat) (d : Dev) : Dev :=
  if d.safe.proofCmds.isEmpty then d
  else
    let r := passed % 128
    let tags := d.safe.proofCmds
    let d := modSafe (fun s => { s with proofCmds := [], proof := r, proofNs := ns32 d }) d
    let d := if r % 8 = 7 then d else safeCause csSkerryInternal noAxis d
    let d := if r / 8 = 15 then d else safeCause csSelftest noAxis d
    tags.foldl (fun d t => completeTag (some t) stSuccess r 0 d) d

def execProofTestDone (passed : Nat) (s : State) : Host.Outcome State Fault Refusal :=
  .next (s.mapDev (proofTestDone passed))

/-- The bits of AXIS_FLAGS (18 R475). -/
def axisSafeFlags (d : Dev) (a : AxisId) : Nat :=
  let has (code : Nat) : Bool := d.safe.present.any fun c => c.code == code && c.axis == a.val
  let m := monitored d a
  b2n m + b2n (has csSpeed) * 2 + b2n (has csPosition) * 4 + b2n (m && (axisOf d a).rehome) * 8 +
    b2n (axisOf d a).fault * 16

/-- The structure of SAFETY_STATUS (18 R475). -/
def safetyStatusBytes (d : Dev) : List Byte :=
  let s := d.safe
  let levels := b2n (!s.held) + b2n (!s.held) * 2 + b2n s.safeIn * 4 + b2n s.pathA * 8 + b2n s.pathB * 16 +
    b2n (permit d) * 32
  pack [(1, b2n s.held), (1, levels), (1, s.last), (1, s.lastAxis), (4, s.count), (4, s.entry % 2 ^ 32),
    (4, configId d), (4, (skerryCrc d).toNat), (1, monAxes d), (1, b2n (resetReady d)), (2, 0)] ++
  (List.finRange 8).map (fun a => BitVec.ofNat 8 (axisSafeFlags d a)) ++ fit 16 s.fwRev ++
  pack [(4, s.proofNs), (4, s.proof)] ++ zeros 72 ++
  fit 128 (s.history.flatMap fun h => pack [(4, h.ns32), (1, h.code), (1, h.axis), (1, b2n h.entered), (1, 0)])

def specSafetyStatus : CmdSpec where
  op := .safetyStatus
  layout := []
  data := someData

def safetyStatusBody (c : Outst) (d : Dev) : Ans :=
  okAns (writeData c (safetyStatusBytes d) d) (res := b2n d.safe.held + d.safe.last * 2 ^ 8)

def execSafetyStatus (t : Nat) (s : State) : Host.Outcome State Fault Refusal :=
  .next (s.mapDev (hostRow specSafetyStatus t safetyStatusBody))

end Sys2Proof.Machine
end

