-- ==== Sys2Proof/Machine/Thermal.lean ====
section
/-!
DEFINITION. Machine/Thermal.lean: sensors, the junction temperature, throttling and shedding, THERMAL_CONFIG and
TELEMETRY_GET (21 R517-R530). The trip stands with the resets.
-/
namespace Sys2Proof.Machine

def modThm (f : Thm → Thm) (d : Dev) : Dev := { d with thm := f d.thm }

/-- ALARM, TRIP and the safety cause, in 1/16 degree (21 R519, R525; 18 R467). -/
abbrev tjAlarm : Int := 138 * 16
abbrev tjTrip : Int := 148 * 16
abbrev tjSafe : Int := 146 * 16

/-! Sensors (21 R517-R520). -/

/-- A reading lies outside -55 to 175 degrees. -/
def outOfRange (r : Int) : Bool := decide (r < -55 * 16) || decide (175 * 16 < r)

/-- What makes a sensor invalid at its latest reading: true for jumps, false for the range (21 R518). -/
def sensorBad (m : Thm) (i : TsId) : Option Bool :=
  if outOfRange m.ts[i] then some false else if 3 ≤ m.jumps[i].length then some true else none

/-- A sensor that Tj may come from (21 R518). -/
def sensorOk (m : Thm) (i : TsId) : Bool := !bitOf m.invalid i.val

/-- A sensor that becomes invalid stays so, and owes its SENSOR_FAULT. -/
def markBad (m : Thm) (i : TsId) : Thm :=
  match sensorBad m i with
  | some jump => if sensorOk m i then { m with invalid := setBit m.invalid i.val, owed := m.owed ++ [(i.val, jump)] } else m
  | none => m

/-- The sensors take their readings; jumps of more than 10 degrees are kept for 1 s. -/
def takeReadings (now : Nat) (l : List Int) (m : Thm) : Thm :=
  let ts : Vector Int 24 := Vector.ofFn fun i => l.getD i.val m.ts[i]
  let jumps : Vector (List Nat) 24 := Vector.ofFn fun i =>
    let old := m.jumps[i].filter fun t => decide (now < t + 1000000000)
    if m.sampled && decide (160 < (ts[i] - m.ts[i]).natAbs) then old ++ [now] else old
  (List.finRange 24).foldl markBad { m with ts, jumps, prev := if m.sampled then some m.ts else none, sampled := true, sampNs := now }

/-- Settings that a THERMAL_CONFIG left for this sample (21 R527). -/
def takeSettings (m : Thm) : Thm :=
  match m.pend with
  | none => m
  | some (throttle, slope, dfMin, shedMs, limit) => { m with throttle, slope, dfMin, shedMs, limit, pend := none }

/-- The hottest valid sensor, the lowest index on a tie. -/
def hottest (m : Thm) : Option TsId :=
  ((List.finRange 24).filter (sensorOk m)).foldl (fun b i => match b with
    | none => some i
    | some j => if m.ts[j] < m.ts[i] then some i else some j) none

/-- Tj and HOT_SENSOR (21 R518). -/
def junction (free : Nat) (m : Thm) : Thm :=
  let n := ((List.finRange 24).filter (sensorOk m)).length
  match hottest m with
  | some i => { m with hot := i.val, tj := if n < 12 then max m.ts[i] tjAlarm else m.ts[i] }
  | none => { m with hot := (Config.hotNone free).val, tj := tjAlarm }

/-- THM_STATE of a temperature (21 R519). -/
def thmStateOf (m : Thm) : Nat := if tjAlarm ≤ m.tj then 2 else if (m.throttle : Int) * 16 ≤ m.tj then 1 else 0

/-- The deferrable share (21 R520). -/
def shareOf (m : Thm) : Nat :=
  if m.tj < (m.throttle : Int) * 16 then 100
  else min 100 (max m.dfMin ((1600 - (m.slope : Int) * (m.tj - m.throttle * 16)) / 16).toNat)

/-- The THERMAL_STATE event: owed by a change of state, and raised at most once in 10 ms (21 R519). -/
def thermalEvent (d : Dev) : Dev :=
  let m := d.thm
  let due := match m.evNs with
    | none => true
    | some t => decide (t + 10000000 ≤ d.tu.ns)
  if m.evOwed && due then
    raise evThermal 1 0 (m.state + unsigned 16 m.tj * 2 ^ 16 + m.hot * 2 ^ 32)
      (modThm (fun m => { m with evOwed := false, evNs := some d.tu.ns, telNow := m.telNow || m.sub.isSome }) d)
  else d

/-- A sample is due: 10 us after the one before (21 R517). -/
def sampleDue (d : Dev) : Bool :=
  !d.thm.tripped && !d.pwr.heldReset && (!d.thm.sampled || decide (d.thm.sampNs + 10000 ≤ d.tu.ns))

/-- SENSOR_SAMPLE: readings, Tj, THM_STATE, the share, the 146 degree cause (21 R517-R520, R524). -/
def sensorSample (l : List Int) (d : Dev) : Dev :=
  if !sampleDue d then d
  else
    let old := d.thm.state
    let dt := if d.thm.sampled then d.tu.ns - d.thm.sampNs else 0
    let d := modThm (fun m =>
      let m := junction d.free (takeReadings d.tu.ns l (takeSettings m))
      let new := thmStateOf m
      { m with
        state := new, share := shareOf m
        tjMax := if d.thm.sampled then max m.tjMax m.tj else m.tj
        nsThrottling := m.nsThrottling + (if 1 ≤ old then dt else 0)
        nsAlarm := m.nsAlarm + (if old = 2 then dt else 0)
        evOwed := m.evOwed || new != old
        shedArm := m.shedArm || (new == 2 && old != 2) }) { d with free := d.free + 1 }
    let d := if tjSafe ≤ d.thm.tj then safeCause csThermal noAxis d else d
    thermalEvent d

def execSensorSample (readings : List Int) (s : State) : Host.Outcome State Fault Refusal :=
  .next (s.mapDev (sensorSample readings))

/-- SENSOR_FAULT is raised for a sensor that has become invalid (21 R518). -/
def sensorFault (i : TsId) (jump : Bool) (d : Dev) : Dev :=
  if d.thm.owed.contains (i.val, jump) && !d.thm.tripped then
    raise evThermal 3 0 (i.val + (if jump then 2 else 1) * 2 ^ 8)
      (modThm (fun m => { m with owed := m.owed.erase (i.val, jump) }) d)
  else d

def execSensorFault (i : TsId) (jump : Bool) (s : State) : Host.Outcome State Fault Refusal :=
  .next (s.mapDev (sensorFault i jump))

/-! Shedding (21 R521-R523). -/

/-- A statistics subscription is shed (05 R170). -/
def statShed (i : IsleId) (p : PortId) (d : Dev) : Dev :=
  raise evPipeline 2 (isleHandle i) p.val (statsEnd i p stThermal d)

/-- A tap's host ring is shed, with a pending TAP_CONFIG; a tap without attachments is disabled (07 R222). -/
def tapShed (i : IsleId) (t : TapId) (d : Dev) : Dev :=
  let mine := fun (sh : Shadow) => (sh.kind == 8 || sh.kind == 9) && sh.idx == t.val
  let due := (isle d i).shadows.filter fun sh => mine sh && !sh.deferred
  let h := tapHandle i t
  let d := excessResv h (modIsle i (fun k => { k with shadows := k.shadows.filter fun sh => !mine sh }) d)
  let d := due.foldl (fun d sh => completeTag (some sh.cmd) stThermal 0 0 d) d
  let d := takeResv h (setResv h rcHost 0 0 false (modTap i t (fun k => { k with ring := none, out := none }) d))
  let left := (tapOf d i t).att.length
  let d := if left = 0 then returnResv h (modTap i t (fun k => { k with on := false, queue := [] }) d) else linkRecover d
  raise evPipeline 0x12 h left d

/-- Everything admitted that carries a SHED_PRIO (21 R521): the priority, the kind and the index. Kinds: 0 capture,
1 statistics, 2 host ring, 3 encode, 4 Holm Raw, 5 decode, 6 recording, 7 flow, 8 head, 9 audio. -/
def shedList (d : Dev) : List (Nat × Nat × Nat) :=
  ((List.finRange 4).filterMap fun g =>
    if (grp d g).run && holds d (groupHandle g) then some ((grp d g).prio, 0, g.val) else none) ++
  ((List.finRange 16).filterMap fun k =>
    (ctxOf d (isleOf (k.val / 4)) (portOf (k.val % 4))).sub.map fun b => (b.prio, 1, k.val)) ++
  ((List.finRange 32).filterMap fun k =>
    (tapOf d (isleOf (k.val / 8)) (tapIdx k.val)).ring.map fun r => (r.prio, 2, k.val)) ++
  ((d.enc.filter fun p => !p.2.shed).map fun (sl, s) => (eoPrio s.cfg, 3, sl)) ++
  (d.holm.map fun (sl, s) => (le s.cfg 6 1, 4, sl)) ++
  (d.dec.map fun (sl, s) => (doPrio s.cfg, 5, sl)) ++
  ((d.recs.filter fun p => !p.2.gone).map fun (h, s) => (roPrio s.cfg, 6, h)) ++
  (d.flows.map fun (sl, f) => (flPrio f.cfg, 7, sl)) ++
  ((List.finRange 4).filterMap fun h =>
    let x : Head := headAt d h
    if x.on && !x.shed then some (hcPrio x.cfg, 8, h.val) else none) ++
  ((d.auss.filter fun p => !p.2.shed).map fun (sl, s) => (aoPrio s.cfg, 9, sl))

/-- Close one object as its chapter states for shedding. -/
def shedOne (kind k : Nat) (d : Dev) : Dev :=
  match kind with
  | 0 => captureShed ⟨k % 4, Nat.mod_lt _ (by decide)⟩ d
  | 1 => statShed (isleOf (k / 4)) (portOf (k % 4)) d
  | 2 => tapShed (isleOf (k / 8)) (tapIdx k) d
  | 3 => encShed k d
  | 4 => holmShed k d
  | 5 => decShed k d
  | 6 => recShed k d
  | 7 => flowShed k d
  | 8 => headShed ⟨k % 4, Nat.mod_lt _ (by decide)⟩ d
  | _ => audShed k d

/-- SHED_STEP (21 R522). -/
def shedStep (d : Dev) : Dev :=
  let m := d.thm
  let due := match m.shedNs with
    | none => true
    | some t => decide (t + m.shedMs * 1000000 ≤ d.tu.ns)
  if m.tripped || d.host.activating || !m.shedArm || !due then d
  else if m.tj < tjAlarm then modThm (fun m => { m with shedArm := false }) d
  else
    let d := modThm (fun m => { m with shedNs := some d.tu.ns }) d
    match shedList d with
    | [] => d
    | x :: l =>
      let prio := l.foldl (fun b y => min b y.1) x.1
      let before := (shedList d).length
      let d := ((shedList d).filter fun y => y.1 == prio).foldl (fun d y => shedOne y.2.1 y.2.2 d) d
      let n := before - (shedList d).length
      raise evThermal 2 0 (prio + min n 255 * 2 ^ 8 + unsigned 16 d.thm.tj * 2 ^ 16)
        (modThm (fun m => { m with shed := m.shed + 1 }) d)

def execShedStep (s : State) : Host.Outcome State Fault Refusal := .next (s.mapDev shedStep)

/-! THERMAL_CONFIG (21 R527). -/

def specThermalConfig : CmdSpec where
  op := .thermalConfig
  layout := [(32, 0, 24), (36, 0, 16), (40, 0, 32)]
  checks e :=
    [(32, within 85 135 (fld e 32 1)), (33, within 1 50 (fld e 33 1)), (34, decide (fld e 34 1 ≤ 100)),
     (36, within 10 1000 (fld e 36 2)), (40, within 20000 105000 (fld e 40 4))]

/-- The settings wait for the next sample. -/
def thermalConfigBody (c : Outst) (d : Dev) : Ans :=
  let limit := fld c.e 40 4
  okAns (modThm (fun m => { m with pend := some (fld c.e 32 1, fld c.e 33 1, fld c.e 34 1, fld c.e 36 2, limit) }) d)
    (res := heldOf d rcPower unitAll + limit * 2 ^ 32)

def execThermalConfig (t : Nat) (s : State) : Host.Outcome State Fault Refusal :=
  .next (s.mapDev (hostRow specThermalConfig t thermalConfigBody))

/-! TELEMETRY_GET (21 R528). -/

/-- CORE_MV: the target of the core supply, in steps of 5 mV from 0.70 to 0.80 V (23 R547); which one is free. -/
def coreMv (d : Dev) : Nat := 700 + 5 * ((Config.coreMv d.tu.ns).toNat % 21)

/-- A telemetry record, 256 bytes. -/
def telemetryRecord (d : Dev) (seq : Nat) : List Byte :=
  let m := d.thm
  let temp (b : BitVec 16) : Nat := b.toNat
  pack [(8, seq % 2 ^ 63), (4, ns32 d), (2, unsigned 16 m.tj), (1, m.state), (1, m.hot)] ++
  ((List.finRange 24).flatMap fun i => toLE 2 (if bitOf m.invalid i.val then 0x8000 else unsigned 16 m.ts[i])) ++
  pack [(4, m.invalid), (1, m.share), (1, 0), (2, min m.shed 0xFFFF), (4, heldOf d rcPower unitAll), (4, m.limit),
    (2, temp (Config.hbmTemp 0 d.tu.ns)), (2, if d.ident.b24 then 0x8000 else temp (Config.hbmTemp 1 d.tu.ns)),
    (2, if noPath d then 0x8000 else temp (Config.skerryTemp d.tu.ns)), (2, coreMv d),
    (2, (core d 0).faults), (2, (core d 1).faults), (4, min (m.nsThrottling / 1000000) 0xFFFFFFFF),
    (4, min (m.nsAlarm / 1000000) 0xFFFFFFFF), (2, unsigned 16 m.tjMax), (154, 0)]

def specTelemetrySnapshot : CmdSpec where
  op := .telemetrySnapshot
  layout := [(32, 0, 8)]
  data := someData

def telemetrySnapshotBody (c : Outst) (d : Dev) : Ans := okAns (writeData c (telemetryRecord d 0) d)

def execTelemetrySnapshot (t : Nat) (s : State) : Host.Outcome State Fault Refusal :=
  .next (s.mapDev (hostRow specTelemetrySnapshot t telemetrySnapshotBody))

def specTelemetrySubscribe : CmdSpec where
  op := .telemetrySubscribe
  layout := [(32, 0, 8), (34, 0, 48)]
  checks e :=
    [(24, decide ((fld e 36 2 + 1) * 256 ≤ e.dataLen.toNat)), (34, within 10 10000 (fld e 34 2)),
     (36, within 1 255 (fld e 36 2)), (38, decide (fld e 38 2 ≤ 2047))]
  data := someData

def telemetrySubscribeBody (c : Outst) (d : Dev) : Ans :=
  check d.thm.sub.isNone stConflict <|
    let sub : TelSub :=
      { period := fld c.e 34 2, slots := fld c.e 36 2, vector := fld c.e 38 2, seq := 0, ring := c.tag, last := d.tu.ns }
    okAns (modThm (fun m => { m with sub := some sub, telNow := false }) d)

def execTelemetrySubscribe (t : Nat) (s : State) : Host.Outcome State Fault Refusal :=
  .next (s.mapDev (hostRow specTelemetrySubscribe t telemetrySubscribeBody))

def specTelemetryUnsubscribe : CmdSpec where
  op := .telemetryUnsubscribe
  layout := [(32, 0, 8)]

/-- A record is written whole within its own step, so none is in progress. -/
def telemetryUnsubscribeBody (_ : Outst) (d : Dev) : Ans :=
  match d.thm.sub with
  | none => .fail stConflict 0xFF 0
  | some b => okAns (modThm (fun m => { m with sub := none, telNow := false }) d) (res := b.seq % 2 ^ 63)

def execTelemetryUnsubscribe (t : Nat) (s : State) : Host.Outcome State Fault Refusal :=
  .next (s.mapDev (hostRow specTelemetryUnsubscribe t telemetryUnsubscribeBody))

/-- A record's write: SEQ with BUSY first, then the record (05 R167). -/
def telWrite (b : TelSub) (seq : Nat) (d : Dev) : Dev :=
  let slot := ringSlot b.slots seq
  let d := modThm (fun m => { m with sub := some { b with wrote := tabSet b.wrote slot seq } }) d
  notify b.vector (emit (.ring b.ring slot seq (telemetryRecord d seq)) (emit (ringBusy b.ring b.slots seq b.wrote) d))

/-- TELEMETRY_RECORD: a period has passed, or a THERMAL_STATE event owes one and the period restarts from it; without delivery
the record is discarded with its number used (21 R528, R530; 02 R562). -/
def telemetryWrite (d : Dev) : Dev :=
  match d.thm.sub with
  | none => d
  | some b =>
    let due := b.last + b.period * 1000000
    if d.thm.telNow || decide (due ≤ d.tu.ns) then
      let seq := b.seq + 1
      let b := { b with seq, last := if d.thm.telNow then d.tu.ns else due }
      let d := modThm (fun m => { m with sub := some b, telNow := false }) d
      if delivering d then telWrite b seq d else d
    else d

def execTelemetryRecord (s : State) : Host.Outcome State Fault Refusal := .next (s.mapDev telemetryWrite)

end Sys2Proof.Machine
end

