-- ==== Sys2Proof/Machine/HostAdmin.lean ====
section
/-!
DEFINITION. Machine/HostAdmin.lean: abandoning commands, controller disable and the resets of the host link, the admin
pair's readiness, the remaining admin commands, the log pages and the mirror (02 R38-R74).
-/
namespace Sys2Proof.Machine

/-! IDENTIFY and FEATURE_GET (02 R68, R71; 12 R336; 19 R482). -/

def specIdentify : CmdSpec where
  op := .identify
  layout := [(32, 0, 8)]
  checks e := [(32, fld e 32 1 == 0)]
  data := someData

/-- FW_REV of the running image. -/
def runRev (d : Dev) : List Byte := if d.sec.running.isEmpty then fit 16 d.ident.fwRev else fit 16 (imRev d.sec.running)

/-- The identity structure, 4,096 bytes. -/
def identity (d : Dev) : List Byte :=
  fit 4096 (pack [(8, hid d), (8, d.host.hver.toNat)] ++ fit 16 d.ident.serial ++ runRev d ++
    pack [(1, d.sec.bank), (1, d.sec.life), (1, d.sec.level), (1, 0x0F), (2, 0x0FFF), (2, 0xFFFF), (2, 0x07FF),
      (2, 0xFFFF), (4, d.ident.fwHbmMib), (4, d.ident.fwLagoonKib), (1, d.pcie.rate), (1, d.pcie.width), (2, 0),
      (4, linkCapacity d), (4, hbmRtCapacity d)])

def identifyBody (c : Outst) (d : Dev) : Ans := okAns (writeData c (identity d) d)

def execIdentify (t : Nat) (s : State) : Host.Outcome State Fault Refusal :=
  .next (s.mapDev (hostRow specIdentify t identifyBody))

/-- FEATURE_GET takes the fields of CDW9 to CDW11 that its feature defines. -/
def featureLayout (fid : Nat) : List (Nat × Nat × Nat) :=
  (32, 0, 8) :: (match fid with
    | 1 => [(36, 0, 24)]
    | 2 => [(36, 0, 12), (40, 0, 24)]
    | 3 => [(36, 1, 12)]
    | 4 => [(36, 0, 12), (40, 0, 2)]
    | 5 => [(36, 0, 24)]
    | 6 => [(36, 0, 16)]
    | _ => [(36, 0, 96)])

def specFeatureGet (fid : Nat) : CmdSpec where
  op := .featureGet
  layout := featureLayout fid
  checks e :=
    [(32, decide (1 ≤ fld e 32 1) && decide (fld e 32 1 ≤ 6)), (36, fld e 32 1 != 6 || decide (fld e 36 1 ≤ 1)),
     (37, fld e 32 1 != 6 || decide (fld e 37 1 ≤ 3))]

/-- RESULT and EXT_RESULT of FEATURE_GET CORE_LINK (19 R482). -/
def coreFeature (d : Dev) (c : CoreId) : Nat × Nat :=
  let k := core d c
  (c.val + k.state * 2 ^ 8 + k.vector % 2 ^ 11 * 2 ^ 32 + min k.faults 0xFFFF * 2 ^ 48, 16 - k.inq.length)

/-- The pair of FID 0x02 and 0x04: existing, and not QP0 (02 R71). -/
def featurePair (d : Dev) (e : Sqe) : Option (Nat × Qp) :=
  let q := fldBits e 36 0 12
  if q = 0 then none else (getQp d q).map fun p => (q, p)

def featureGetBody (c : Outst) (d : Dev) : Ans :=
  match fld c.e 32 1 with
  | 1 => okAns d (res := d.host.wHigh + d.host.wMed * 2 ^ 8 + d.host.wLow * 2 ^ 16)
  | 2 => match featurePair d c.e with
    | some (q, p) => okAns d (res := q + (p.aggCount + p.aggTime * 2 ^ 8) * 2 ^ 32)
    | none => .fail stInvalidField 36 0
  | 3 => okAns d (res := d.evt.mask)
  | 4 => match featurePair d c.e with
    | some (q, p) => okAns d (res := q + p.clsNext * 2 ^ 32)
    | none => .fail stInvalidField 36 0
  | 5 => okAns d (res := memoryFeature d)
  | _ => okAns d (res := (coreFeature d (coreArg c.e)).1) (ext := (coreFeature d (coreArg c.e)).2)

def featureGet (t : Nat) (d : Dev) : Dev :=
  match findOutst d t with
  | none => d
  | some c => hostRow (specFeatureGet (fld c.e 32 1)) t featureGetBody d

def execFeatureGet (t : Nat) (s : State) : Host.Outcome State Fault Refusal := .next (s.mapDev (featureGet t))

/-! LOG_GET (02 R72). -/

/-- A ring page: the entry of sequence number n stands in slot (n - 1) mod the size; an empty slot reads 0. -/
def ringPage (slots width : Nat) (l : List (Nat × List Byte)) : List Byte :=
  (List.range slots).flatMap fun i =>
    match l.find? fun e => (e.1 - 1) % slots == i with
    | some e => fit width e.2
    | none => zeros width

def errBytes (e : ErrEnt) : List Byte :=
  pack [(8, e.errSeq), (2, e.qp), (2, e.cid.toNat), (2, e.status), (1, e.opcode.toNat), (1, e.field), (4, e.ns32), (4, e.handle)]

def objBytes (o : Obj) : List Byte := pack [(4, o.handle), (2, o.opener), (1, o.st), (1, 0)]

/-- Classes held per unit, with their numbers of units (01 R25, R26). -/
def perUnit : Nat → Nat
  | 0x01 => 4
  | 0x02 => 4
  | 0x03 => 8
  | 0x05 => 2
  | 0x07 => 4
  | 0x0C => 2
  | 0x0D => 2
  | 0x0E => 4
  | _ => 0

/-- The resource rows: a class and a unit, 0xFF for the device; classes 0x03 and 0x07 have a device-wide total too. -/
def resourceRows : List (Nat × Nat) :=
  (List.range 15).flatMap fun i =>
    let k := i + 1
    if perUnit k = 0 then [(k, unitAll)]
    else (List.range (perUnit k)).map (fun u => (k, u)) ++ (if k = rcEnc || k = rcHolmSes then [(k, unitAll)] else [])

/-- Capacity and amount of one row; a gated unit shows capacity 0 (20 R509). -/
def rowAmounts (d : Dev) (cls unit : Nat) : Nat × Nat :=
  let one (u : Nat) : Nat × Nat :=
    let cap := if cls = rcDisp then
        (match d.heads[u]? with
          | some x => if x.on then (headLink x.cfg).2 else 0
          | none => 0)
      else capacity d cls u
    (if gatedUnit d cls u then 0 else cap, heldOf d cls u)
  if cls = rcHost then (linkCapacity d, linkHeld d)
  else if unit = unitAll && perUnit cls != 0 then
    ((List.range (perUnit cls)).map one).foldl (fun a x => (a.1 + x.1, a.2 + x.2)) (0, 0)
  else one unit

def resBytes (d : Dev) (r : Nat × Nat) : List Byte :=
  let a := rowAmounts d r.1 r.2
  pack [(1, r.1), (1, r.2), (2, 0), (4, min a.1 0xFFFFFFFF), (4, min a.2 0xFFFFFFFF), (4, 0)]

def memErrBytes (e : MemErr) : List Byte :=
  pack [(8, e.errSeq), (4, e.ns32), (1, e.source), (1, e.kind), (1, e.stack), (1, e.unit), (8, e.addr), (4, e.handle),
    (1, e.cls), (1, e.detail), (2, 0)]

def postBytes (e : PostEnt) : List Byte :=
  pack [(8, e.seq), (1, e.core), (1, e.tag), (2, 0), (4, e.ns32), (8, e.data.toNat), (8, 0)]

/-- Memory counters whose counts the traffic of every client sets, the spec giving no amount for it: the bytes of each class
and the row misses (12 R335; notes/assumptions/9.md). -/
def isTraffic (i : Nat) : Bool := decide (i < 32) && [0, 1, 2, 4].contains (i % 16)

/-- Memory counters of the DF waits: what the interval that runs has added is free (12 R335; notes/assumptions/9.md). -/
def isWait (i : Nat) : Bool := decide (36 ≤ i) || (decide (i < 32) && i % 16 == 5)

/-- Counter i of page 0x08; stack 1 of a B24 reads 0. -/
def memCounter (d : Dev) (i : Nat) : Nat :=
  if d.ident.b24 && ((16 ≤ i && i < 32) || 68 ≤ i) then 0
  else if isTraffic i then (Config.trafficCount i d.tu.ns).toNat
  else if isWait i then min (d.hbm.cnt.getD i 0 + (Config.trafficCount i d.tu.ns).toNat) (2 ^ 64 - 1)
  else if i < 32 && i % 16 = 6 then max (d.hbm.cnt.getD i 0) (Config.trafficCount i d.tu.ns).toNat
  else d.hbm.cnt.getD i 0

/-- Counter i, from 1, of a network port: the FEC counts are free. -/
def netCounter (d : Dev) (n : NetId) (i : Nat) : Nat :=
  if i = 4 || i = 5 then (Config.fecCount n.val i d.tu.ns).toNat else (net d n).cnt.getD (i - 1) 0

/-- A log page (02 R72; 11 R311; 12 R328, R335; 14 R389; 15 R408; 17 R460; 19 R492; 22 R535). -/
def logPage (d : Dev) : Nat → Option (List Byte)
  | 0x01 => some (ringPage 256 32 (d.host.errLog.map fun e => (e.errSeq, errBytes e)))
  | 0x02 => some (toLE 8 d.evt.objs.length ++ d.evt.objs.flatMap objBytes)
  | 0x03 => some (toLE 8 resourceRows.length ++ resourceRows.flatMap (resBytes d))
  | 0x04 => some (pack [(8, d.boot.log.length), (4, (d.boot.log.head?.map LogEnt.seq).getD 0), (4, 0)] ++ d.boot.log.flatMap logForm)
  | 0x05 =>
    let c := d.host.cnt
    some (pack [(8, c.badDb), (8, c.stalls), (8, c.pend), (8, c.retrain), (8, c.below), (8, c.flr)])
  | 0x06 => some (d.integ.toList.flatMap (toLE 8))
  | 0x07 => some (fit 8192 (d.hbm.errLog.flatMap memErrBytes))
  | 0x08 => some ((List.range 100).flatMap fun i => toLE 8 (memCounter d i))
  | 0x09 => some ((List.finRange 2).flatMap fun n => (List.range 16).flatMap fun i => toLE 8 (netCounter d n (i + 1)))
  | 0x0A => some (d.heads.toList.flatMap fun (h : Head) => h.cnt.toList.flatMap (toLE 8))
  | 0x0B => some (d.safe.cnt.toList.flatMap (toLE 8))
  | 0x0C => some (ringPage 64 32 (d.cores.posts.map fun e => (e.seq, postBytes e)))
  | _ => none

def specLogGet : CmdSpec where
  op := .logGet
  layout := [(32, 0, 8), (36, 0, 64)]
  checks e := [(32, decide (1 ≤ fld e 32 1) && decide (fld e 32 1 ≤ 0x0C))]
  data := someData

def logGetBody (c : Outst) (d : Dev) : Ans :=
  match logPage d (fld c.e 32 1) with
  | none => .fail stInvalidField 32 0
  | some l =>
    let off := fld c.e 36 8
    if l.length ≤ off then .fail stInvalidField 36 0
    else okAns (writeData c (l.drop off) d)
      (res := min c.e.dataLen.toNat (l.length - off) + l.length * 2 ^ 32)

def execLogGet (t : Nat) (s : State) : Host.Outcome State Fault Refusal :=
  .next (s.mapDev (hostRow specLogGet t logGetBody))

/-! Abandoning a command (02 R56, R57). -/

/-- Rows whose commands have passed the step of R56 at fetch, or are never abandoned after it. -/
def passesAtFetch : HostOp → Bool
  | .captureStop | .encOpen | .encClose | .holmOpen | .holmClose | .decOpen | .decClose | .recOpen | .recClose
  | .netConfig | .ptpConfig | .flowOpen | .flowClose | .audStreamOpen | .audStreamClose
  | .axisConfigEnable | .axisConfigDisable
  | .safetyConfigLoad | .safetyConfigReset | .safetyConfigForce | .safetyConfigProofTest | .safetyStatus
  | .coreLinkVector | .coreLinkPost | .coreLinkRestart | .coreLinkStop
  | .fwCommitWrite | .fwCommitWriteAndSelect | .fwCommitSelectOnly | .fwCommitCustomer | .fwCommitKeys
  | .fwActivate | .powerStateRun | .powerStateReduced | .powerStateShoal | .powerStateReef => true
  | _ => false

/-- Rows whose step has passed at fetch, or runs to its end once fetched: a controller disable takes their completion alone. The
commands that open work are lost with their step (02 R57; 09 R278, 19 R493, 22 R540). -/
def runsOn (op : HostOp) : Bool :=
  passesAtFetch op && (match op with
    | .encOpen | .holmOpen | .decOpen | .recOpen | .netConfig | .ptpConfig | .flowOpen | .audStreamOpen => false
    | _ => true)

/-- The command is outstanding in the sense of R56: its step has not begun. -/
def abandonable (c : Outst) : Bool :=
  c.phase == .waiting || (c.phase == .fetched && !passesAtFetch c.op)

/-- A pending HEAD_CONFIG or HEAD_COMMIT is dropped, with what it held and attached (15 R410). -/
def discardHead (t : Nat) (h : HeadId) (d : Dev) : Dev :=
  let x := headAt d h
  let d := if x.next.any fun n => n.tag == t then
      let gone := x.next.filter fun n => !(x.on && headTap x.cfg == headTap n.cfg)
      let d := excessResv (headHandle h) (modHead h (fun x => { x with next := none }) d)
      match gone with
      | some n => detachFrom (hcVideo n.cfg) (headHandle h) d
      | none => d
    else d
  if x.commit.any fun n => n.tag == t then modHead h (fun x => { x with commit := none }) d else d

/-- A pending AUD_CONFIG is dropped: the port stays as it was (16 R434). -/
def discardAud (t : Nat) (p : AudId) (d : Dev) : Dev :=
  let x := aud d p
  if x.cmd.any fun n => n.1 == t then
    if x.off then modAud p (fun x => { x with cmd := none, off := false }) d
    else returnResv (audHandle p) (modAud p (fun _ => {}) d)
  else d

/-- What the units keep for an abandoned command goes with it: it has no effect (02 R56). -/
def discardCmd (t : Nat) (d : Dev) : Dev :=
  let d := match findOutst d t with
    | some c => emptyLook c d
    | none => d
  let d := discardForce t (discardShadow t (discardStats t d))
  let d := { d with lanes := d.lanes.map fun (l : Lane) =>
    if l.scan = some t then { l with scan := none, scanStop := false } else l }
  let d := returnResv (2 ^ 40 + t) { d with ports := d.ports.map fun (k : Port) =>
    { k with fetch := k.fetch.filter fun w => w.cmd != t } }
  let d := { d with
    reads := d.reads.filter fun r => r.cmd != t
    recs := d.recs.map fun p => (p.1, { p.2 with
      waits := p.2.waits.filter fun w => w.tag != t || w.close, flushes := p.2.flushes.filter fun f => f.1 != t })
    auss := d.auss.map fun p => (p.1, { p.2 with change := p.2.change.filter fun x => x.1 != t }) }
  let d := (List.finRange 4).foldl (fun d h => discardHead t h d) d
  (List.finRange 4).foldl (fun d p => discardAud t p d) d

/-- Bytes an abandoned MEDIA_READ has moved (02 R56). -/
def movedBytes (d : Dev) (t : Nat) : Nat :=
  match d.reads.find? fun r => r.cmd == t with
  | some r => r.moved % 2 ^ 32
  | none => 0

/-- What an outstanding transfer command moves to its buffer once it can (02 R56): all that its step would write. -/
def transferData (c : Outst) (d : Dev) : List Byte :=
  let go (sp : CmdSpec) (l : List Byte) : List Byte := if (specCheck sp c).isNone then l.take c.e.dataLen.toNat else []
  match c.op with
  | .identify => go specIdentify (identity d)
  | .logGet => go specLogGet (((logPage d (fld c.e 32 1)).getD []).drop (fld c.e 36 8))
  | .telemetrySnapshot => go specTelemetrySnapshot (telemetryRecord d 0)
  | .frameFetch =>
    match (List.finRange 4).find? fun p => (fetchReady (port d p) c.tag).isSome with
    | some p =>
      match fetchReady (port d p) c.tag with
      | some f => (fetchData (port d p) f c.e).take c.e.dataLen.toNat
      | none => []
    | none => []
  | _ => []

/-- How far a transfer has come when it is abandoned: it stops at a 4 KiB boundary or at its end (02 R73); which, is free. -/
def transferStop (d : Dev) (l : List Byte) : Nat := min l.length (4096 * Config.movedPages d.free)

/-- Abandon one outstanding command with a status. A transfer command in progress has written a part of its buffer, and
EXT_RESULT gives its bytes (02 R56, R73). -/
def abandon (c : Outst) (st : Nat) (d : Dev) : Dev :=
  let l := transferData c d
  let n := transferStop d l
  if n = 0 then complete c st 0 (movedBytes d c.tag) 0xFF (discardCmd c.tag d)
  else
    let d := postOut (dataOut c 0 (l.take n)) { d with free := d.free + 1 }
    complete c st 0 (n % 2 ^ 32) 0xFF (discardCmd c.tag d)

/-- Abandon every outstanding command of a pair, in fetch order. An EVENT_ARM may complete by an event meanwhile. -/
def abandonPair (q : Nat) (d : Dev) : Dev :=
  ((pairOutst d q).filter abandonable).foldl
    (fun d c => if (findOutst d c.tag).isSome then abandon c stAbortedReset d else d) d

/-! QP_DELETE, QP_RESET, ABORT (02 R57, R70, R73). -/

def qpArg (e : Sqe) : Nat := hIdx e.handle.toNat

/-- The checks of R70, and what follows. -/
def onPair (c : Outst) (d : Dev) (k : Nat → Ans) : Ans :=
  if hType c.e.handle.toNat != 1 then .fail stInvalidHandle 4 0
  else if qpArg c.e = 0 then .fail stInvalidField 4 0
  else if (getQp d (qpArg c.e)).isNone then .fail stInvalidHandle 4 0
  else k (qpArg c.e)

def specQpDelete : CmdSpec where
  op := .qpDelete
  layout := []
  handle := .body

/-- A pair is gone; what runs on from it has no queue to complete in. -/
def deletePair (q : Nat) (h : HostIf) : HostIf :=
  { h with
    qps := tabDel h.qps q
    outst := h.outst.map fun (o : Outst) => if o.qp = q then { o with qp := 4096 } else o }

def qpDeleteBody (c : Outst) (d : Dev) : Ans :=
  onPair c d fun q => okAns (modHost (deletePair q) (abandonPair q d))

def execQpDelete (t : Nat) (s : State) : Host.Outcome State Fault Refusal :=
  .next (s.mapDev (hostRow specQpDelete t qpDeleteBody))

def specQpReset : CmdSpec where
  op := .qpReset
  layout := []
  handle := .body

/-- An emptied pair: its indices are 0 and the next pass writes phase 1 (02 R57). -/
def emptyPair (p : Qp) : Qp :=
  { p with sqHead := 0, sqTail := 0, cqTail := 0, cqHead := 0, unrel := 0, phase := true, since := 0
           headOrd := false, headLong := false }

def qpResetBody (c : Outst) (d : Dev) : Ans :=
  onPair c d fun q => okAns (modHost (fun h => { h with qps := tabMod h.qps q emptyPair }) (abandonPair q d))

def execQpReset (t : Nat) (s : State) : Host.Outcome State Fault Refusal :=
  .next (s.mapDev (hostRow specQpReset t qpResetBody))

def specAbort : CmdSpec where
  op := .abort
  layout := [(32, 0, 12), (34, 0, 16)]

/-- The command that an ABORT names. -/
def abortTarget (c : Outst) (d : Dev) : Option Outst :=
  d.host.outst.find? fun o =>
    o.tag != c.tag && o.qp == fldBits c.e 32 0 12 && o.e.cid.toNat == fld c.e 34 2 && abandonable o

/-- ABORT (02 R73). A MEDIA_READ at work stops early and completes with SUCCESS and PARTIAL (13 R359); RESULT [0] is 1 for it too
(DESIGN CHOICE, log 108). -/
def abortBody (c : Outst) (d : Dev) : Ans :=
  match abortTarget c d with
  | some o => match d.reads.find? fun r => r.cmd == o.tag with
    | some r => okAns (stopRead r d) (res := 1)
    | none => okAns (abandon o stAbortedRequest d) (res := 1)
  | none => okAns d

def execAbort (t : Nat) (s : State) : Host.Outcome State Fault Refusal :=
  .next (s.mapDev (hostRow specAbort t abortBody))

/-! FLUSH (02 R57, R58, R74). -/

def specFlush : CmdSpec where
  op := .flush
  layout := []

def flushBody (c : Outst) (d : Dev) : Ans := .stay (flushRecs c d) .waiting

def execFlush (t : Nat) (s : State) : Host.Outcome State Fault Refusal :=
  .next (s.mapDev (hostRow specFlush t flushBody))

/-- Everything a FLUSH waits for is done: no earlier command of its pair but EVENT_ARM is left, and no recording
position that such a command named waits to be durable (02 R58; 13 R354). -/
def flushReady (d : Dev) (c : Outst) : Bool :=
  !(d.host.outst.any fun o => o.qp == c.qp && decide (o.tag < c.tag) && o.op != .eventArm) &&
  !(d.recs.any fun p => p.2.waits.any fun w => w.qp == c.qp && decide (w.tag < c.tag)) &&
  !(d.recs.any fun p => p.2.flushes.any fun f => f.1 == c.tag)

def flushDone (t : Nat) (d : Dev) : Dev :=
  match findOutst d t with
  | none => d
  | some c => if c.op = .flush && c.phase == .waiting && flushReady d c then completeSt c stSuccess d else d

def execFlushDone (t : Nat) (s : State) : Host.Outcome State Fault Refusal := .next (s.mapDev (flushDone t))

/-! Controller disable and the resets of the host link (02 R38, R57, R60). -/

/-- A controller disable. Outstanding commands whose step has not begun are lost without completion, and so is what the units
keep for them; a step that a command has passed at fetch still runs, with no queue to complete in. -/
def disable (d : Dev) : Dev :=
  let lost := d.host.outst.filter fun o => abandonable o || (o.phase == .fetched && !runsOn o.op)
  let d := modHost (fun h => { h with
    enable := false, cfgErr := false, held := [], qps := h.qps.filter fun p => p.1 == 0
    outst := (h.outst.filter fun o => o.phase == .fetched && runsOn o.op).map fun (o : Outst) => { o with qp := 4096 } }) d
  lost.foldl (fun d c => discardCmd c.tag d) d

def controllerDisable (d : Dev) : Dev := if d.host.enable && bar0Live d then dated disable d else d

def execControllerDisable (s : State) : Host.Outcome State Fault Refusal := .next (s.mapDev controllerDisable)

/-- Every feature of FEATURE_SET but HASH_PRESET at its reset value (02 R38). -/
def resetFeatures (d : Dev) : Dev :=
  let d := modHost (fun h => { h with wHigh := 15, wMed := 7, wLow := 3, crHigh := 16, crMed := 8, crLow := 4 }) d
  let d := modEvt (fun e => { e with mask := 0x1FFE }) d
  let d := modHbm (fun h => { h with hours := 24, ceLimit := 4 }) d
  modCores (fun k => { k with c := k.c.map fun (c : Core) => { c with vector := 0 } }) d

/-- What FLR, hot reset and link down do (02 R38; 20 R506). -/
def functionReset (d : Dev) : Dev :=
  dated (fun d =>
  let d := resetFeatures (disable d)
  let d := modHost (fun h => { h with
    asqBase := 0, acqBase := 0, sizes := 0, qps := [], cnt := { h.cnt with flr := h.cnt.flr + 1 } }) d
  endGrant (modPcie (fun p => { p with msix := [], pba := [], funcMask := false, bme := false, d3hot := false }) d)) d

def functionLevelReset (d : Dev) : Dev := if functionOn d && d.pcie.up then functionReset d else d

def hotReset (d : Dev) : Dev := if functionOn d && d.pcie.up then functionReset d else d

def hostLinkDown (d : Dev) : Dev :=
  if functionOn d && d.pcie.up then modPcie (fun p => { p with up := false }) (functionReset d) else d

/-- The function enters D3hot: nothing is fetched or posted, and work goes on (20 R512). -/
def pmD3hotEntry (d : Dev) : Dev := if functionOn d then dated (modPcie fun p => { p with d3hot := true }) d else d

def execPmD3hotEntry (s : State) : Host.Outcome State Fault Refusal := .next (s.mapDev pmD3hotEntry)

/-- The function returns to D0 with everything kept (20 R512). -/
def pmD0Return (d : Dev) : Dev :=
  if functionOn d then resumeDelivery (dated (modPcie fun p => { p with d3hot := false }) d) else d

def execPmD0Return (s : State) : Host.Outcome State Fault Refusal := .next (s.mapDev pmD0Return)

/-- HSTS.READY rises once the enable and the boot have both finished (02 R43; 22 R538, R539). -/
def adminReady (d : Dev) : Dev :=
  let served := (d.boot.stage == 8 && !d.host.fatal && !d.host.restart) || recovery d
  if d.host.enable && !d.host.cfgErr && served then modHost (fun h => { h with ready := true }) d else d

def execAdminReady (s : State) : Host.Outcome State Fault Refusal := .next (s.mapDev adminReady)

/-- The Safety Island runs: from its start in the boot (22 R536), and in REEF (20 R508). -/
def islandRuns (d : Dev) : Bool :=
  ((decide (6 ≤ d.boot.stage) && decide (d.boot.stage ≤ 8)) || d.pwr.state == 3) && !d.pwr.heldReset &&
  decide (d.sec.halted < 16)

/-- MIRROR_UPDATE (02 R41). -/
def mirrorUpdate (d : Dev) : Dev :=
  if !islandRuns d then d
  else
    { d with mirror :=
      { safeOk := !d.safe.held, safeState := d.safe.held, safeIn := d.safe.safeIn, stoOut := !d.safe.held
        lastFault := BitVec.ofNat 8 d.safe.last, faultCount := BitVec.ofNat 16 (min d.safe.count 0xFFFF)
        tj := BitVec.ofNat 16 (unsigned 16 d.thm.tj), thmState := d.thm.state, hotSensor := d.thm.hot
        seq := d.mirror.seq + 1 } }

def execMirrorUpdate (s : State) : Host.Outcome State Fault Refusal := .next (s.mapDev mirrorUpdate)

end Sys2Proof.Machine
end

