-- ==== Sys2Proof/Machine/Reset.lean ====
section
/-!
DEFINITION. Machine/Reset.lean: the resets of the compute die and the thermal trip (22 R531, R532; 23 R554; 21 R525,
R526).
-/
namespace Sys2Proof.Machine

/-! What a compute-die reset leaves (22 R531). -/

/-- The Skerry's side of an axis stands; the registers of the compute die are at their reset values (17 R438, R456). -/
def axisStands (x : Axis) : Axis :=
  { x with
    irqEn := 0, wrap := false, index := false, dirChg := false, drift := false, faultEdge := false, latch := false
    errCnt := 0, driftCnt := 0, cmd := 0, cmds := [], lats := [], waits := [] }

/-- A fitted medium starts again (13 R362). -/
def mediumRestarts (x : Medium) : Medium := if x.state = 0 then {} else { state := 1 }

/-- Fuses, key slots and the boot flash: they stand, less a write that was cut off (20 R494-R504; 22 R533). -/
def secStands (d : Dev) : Sec :=
  let s := (cutCommit d).sec
  { life := s.life, lifeNext := s.lifeNext, slots := s.slots, revoked := s.revoked, floorFw := s.floorFw
    floorCust := s.floorCust, udsLock := s.udsLock, rmaDone := s.rmaDone, bankA := s.bankA, bankB := s.bankB
    cust := s.cust, torn := s.torn, sel := s.sel, selSeq := s.selSeq }

/-- The device with everything lost that the compute die holds, and held off: stage 11. What stands is listed, all
else is at its reset value. -/
def dieOff (d : Dev) : Dev :=
  { ident := d.ident, sec := secStands d
    thm := { trips := d.thm.trips }
    boot := { stage := 11, cause := d.boot.cause, trip := d.boot.trip, tripNext := d.boot.tripNext
              log := d.boot.log, seq := d.boot.seq, boots := d.boot.boots }
    hbm := { hash := d.hbm.hash }
    mirror := { safeIn := d.safe.safeIn }
    media := d.media.map mediumRestarts
    ptp := { cfg := d.ptp.cfg, ltcLock := d.ptp.ltcLock, ltcGood := d.ptp.ltcGood, ltc := d.ptp.ltc }
    tu := d.tu, axes := d.axes.map axisStands, safe := d.safe, out := d.out, free := d.free }

/-- Release from reset with a cause: the fuses' lifecycle state is in force and the boot begins (20 R503; 22 R532,
R536). -/
def dieBoots (cause : Nat) (d : Dev) : Dev :=
  modBoot (fun b => { b with stage := 0, cause, trip := b.tripNext, tripNext := false })
    (modSec (fun s => { s with life := s.lifeNext }) d)

/-- Causes whose detector is the Skerry's own: a reset of the Safety Island leaves them present (18 R467, R468). -/
def skerryCause (code : Nat) : Bool :=
  code == csSafeIn || code == csHeartbeat || code == csMismatch || code == csClockSkerry || code == csSkerryInternal ||
  code == csReadback || decide (0x40 ≤ code)

/-- A reset of the Safety Island: the safe state with cause POWER_UP (18 R467; 22 R531). The configuration stands on
the Skerry. -/
def islandReset (d : Dev) : Dev :=
  let was := d.safe.held
  let d := settleAll d <| driveOff (modSafe (fun s =>
    { safeIn := s.safeIn, cfg := s.cfg, por := s.por, fwRev := s.fwRev, entry := d.tu.ns, goodNs := s.goodNs
      present := ((s.present.filter fun c => skerryCause c.code).map fun (c : Cause) => { c with ns := d.tu.ns }) ++
        [{ code := csPowerUp, axis := noAxis, ns := d.tu.ns }]
      history := [{ ns32 := ns32 d, code := csPowerUp, axis := noAxis, entered := true }] }) d)
  if was then d else emit (.pin 4 0) (emit (.pin 3 0) d)

/-- The balls on leaving REEF, a lost rail or the trip state: MAIN_EN rises, THERMTRIP_N rises, WAKE# is released
(23 R551, R552). -/
def leavePins (old d : Dev) : Dev :=
  let d := if old.pwr.state = 3 || old.pwr.heldReset then emit (.pin 1 1) d else d
  let d := if old.thm.tripped then emit (.pin 2 1) d else d
  if old.pwr.wakePin then emit (.pin 0 1) d else d

/-- A reset that restarts everything, the time unit included (22 R531). -/
def fullReset (cause : Nat) (d : Dev) : Dev :=
  leavePins d (islandReset { dieBoots cause (dieOff d) with tu := {}, ptp := {} })

/-- A reset that leaves the time unit (22 R531). -/
def partReset (cause : Nat) (d : Dev) : Dev := leavePins d (islandReset (dieBoots cause (dieOff d)))

/-- The memories lose their contents with the compute die (22 R531). -/
def State.resetDev (s : State) (f : Dev → Dev) : State := { s with dev := f s.dev, mem := {} }

/-- A reset of the compute die can take place: it has power and is not held by a trip or a rail. -/
def dieRuns (d : Dev) : Bool := !d.thm.tripped && !d.pwr.heldReset

/-! The rows (22 R531, R532; 23 R554). -/

def execPowerOn (s : State) : Host.Outcome State Fault Refusal := .next (s.resetDev (fullReset 1))

/-- RST_N; in REEF it acts as a wake (23 R554). -/
def rstN (s : State) : State := if s.dev.pwr.heldReset then s else s.resetDev (fullReset 2)

def execRstN (s : State) : Host.Outcome State Fault Refusal := .next (rstN s)

/-- The root PLL loses lock (01 R14; 14 R367): the time unit holds. In REEF there is no compute die to reset. -/
def pllLossDev (d : Dev) : Dev :=
  let hold := fun (d : Dev) => { d with tu := { d.tu with held := true } }
  if d.pwr.state = 3 then islandReset (hold d) else hold (partReset 3 d)

def pllLoss (s : State) : State := if dieRuns s.dev then s.resetDev pllLossDev else s

def execPllLoss (s : State) : Host.Outcome State Fault Refusal := .next (pllLoss s)

/-- A main-group rail has been out of range for 1 ms (23 R554); in REEF that group is off. -/
def supplyReset (s : State) : State :=
  if dieRuns s.dev && s.dev.pwr.state != 3 then s.resetDev (partReset 4) else s

def execSupplyReset (s : State) : Host.Outcome State Fault Refusal := .next (supplyReset s)

/-- The debug port asks for a reset, at level FULL (22 R531). -/
def debugResetRequest (s : State) : State :=
  if dieRuns s.dev && s.dev.sec.level == 2 then s.resetDev (partReset 5) else s

def execDebugResetRequest (s : State) : Host.Outcome State Fault Refusal := .next (debugResetRequest s)

/-- VDD_AON or VIO2 is out of range: the compute die is held in reset and time is lost (23 R554). -/
def aonLoss (d : Dev) : Dev :=
  let d' := islandReset
    { dieOff d with tu := { held := true }, ptp := {}, pwr := { heldReset := true, wakePin := d.pwr.wakePin } }
  if d.thm.tripped then emit (.pin 2 1) d' else d'

def execAonSupplyLoss (s : State) : Host.Outcome State Fault Refusal := .next (s.resetDev aonLoss)

/-! The thermal trip (21 R525, R526). -/

/-- FW_BUILD of the running image. -/
def runBuild (d : Dev) : Nat := imBuild d.sec.running

/-- The trip record, 48 bytes. -/
def tripRecord (sensor : Nat) (reading : Int) (d : Dev) : List Byte :=
  pack [(2, min 255 (d.thm.trips + 1)), (1, sensor), (1, 0), (2, unsigned 16 reading), (2, 0),
    (8, d.tu.ns / 1000000000 % 2 ^ 48), (4, d.tu.ns % 1000000000), (4, runBuild d), (1, d.pwr.state), (1, d.sec.life),
    (2, d.thm.shed), (4, heldOf d rcPower unitAll), (16, 0)]

/-- Two consecutive samples of a sensor at or above 148 degrees; sensors that the boot self-test failed are left out,
invalid ones are not. -/
def tripDue (s : TsId) (reading : Int) (d : Dev) : Bool :=
  dieRuns d && !Config.tsFailed.getLsbD s.val && d.thm.sampled && d.thm.ts[s] == reading && decide (tjTrip ≤ reading) &&
  (match d.thm.prev with
    | some p => decide (tjTrip ≤ p[s])
    | none => false)

/-- TRIP: the clocks stop, the link goes down, THERMTRIP_N falls; the record and the counter are written. The Skerry
follows by heartbeat loss. -/
def tripOff (s : TsId) (reading : Int) (d : Dev) : Dev :=
  let d := emit (.pin 2 0) (logEvent 2 (tripRecord s.val reading d) d)
  let o := dieOff d
  { o with
    thm := { trips := min 255 (d.thm.trips + 1), tripped := true }
    pwr := if d.pwr.state = 3 then d.pwr else {}
    boot := { o.boot with tripNext := true }
    tu := { o.tu with held := true } }

def thermalTrip (s : TsId) (reading : Int) (m : State) : State :=
  if tripDue s reading m.dev then m.resetDev (tripOff s reading) else m

def execThermalTrip (s : TsId) (reading : Int) (m : State) : Host.Outcome State Fault Refusal :=
  .next (thermalTrip s reading m)

end Sys2Proof.Machine
end

