-- ==== Sys2Proof/Machine/Boot.lean ====
section
/-!
DEFINITION. Machine/Boot.lean: the boot sequence, the command-engine watchdog and FW_ACTIVATE (22 R534-R545).
-/
namespace Sys2Proof.Machine

/-! The boot (22 R536-R538). -/

/-- A boot stops with a reason: BAR0 serves reads, with HSTS.FATAL (22 R532, R538). -/
def bootStop (reason : Nat) (d : Dev) : Dev :=
  modHost (fun h => { h with fatal := true, ready := false }) (modBoot (fun b => { b with stage := 9, stop := reason }) d)

/-- No bank verifies: recovery mode (22 R538). -/
def enterRecovery (d : Dev) : Dev :=
  modHost (fun h => { h with fatal := true, ready := true, hver := 0 })
    (modBoot (fun b => { b with stage := 10, stop := 1 }) d)

/-- The next stage. -/
def nextStage (d : Dev) : Dev := modBoot (fun b => { b with stage := b.stage + 1 }) d

/-- HBM is trained: the hash preset is the stored one, or a draw of four (12 R322, R336). -/
def drawPreset (d : Dev) : Dev :=
  let drawn := le (Config.random d.free) 0 1 % 4
  if d.hbm.hash = 0xFF then { modHbm (fun h => { h with preset := drawn }) d with free := d.free + 1 }
  else modHbm (fun h => { h with preset := h.hash % 4 }) d

/-- The ROM's erasures of the first boot in RMA and in RETIRED (20 R504). -/
def romErasures (d : Dev) : Dev :=
  modSec (fun s =>
    if s.life = 2 && !s.rmaDone then { s with rmaDone := true, cust := [], torn := clearBit s.torn 2 }
    else if s.life = 3 then { s with udsLock := true }
    else s) d

/-- A bank starts: its image is measured and runs (20 R501). -/
def runBank (b : Nat) (d : Dev) : Dev :=
  modSec (fun s => { s with bank := b, running := bankImg d b, bootDigest := imDigest (bankImg d b) }) d

/-- TRIP_REPORTED, raised ahead of the boot's other events (21 R529; 22 R536). -/
def tripReport (d : Dev) : Dev := if d.boot.trip then raise evThermal 4 0 d.thm.trips d else d

/-- The selected bank, else the other one, else recovery mode (22 R537, R538). -/
def bankStage (d : Dev) : Dev :=
  let d := romErasures d
  let other := 1 - d.sec.sel % 2
  match verifyStored d d.sec.sel with
  | none => nextStage (tripReport (runBank d.sec.sel d))
  | some reason =>
    match verifyStored d other with
    | none =>
      let d := modBoot (fun b => { b with fallback := reason }) (runBank other d)
      nextStage (raise evFirmware 2 0 (other + reason * 2 ^ 8) (tripReport d))
    | some _ => enterRecovery d

/-- HVER of an image: interface version and FW_BUILD (02 R39). -/
def imHver (m : List Byte) : Dword := BitVec.ofNat 64 (imMinor m + imMajor m * 2 ^ 16 + imBuild m * 2 ^ 32)

/-- The customer image: it verifies and the cores start, or they stay NO_IMAGE (22 R537); a lifecycle state that holds
the cores keeps them in reset (20 R513). -/
def startCores (d : Dev) : Dev :=
  match verifyStored d 2 with
  | none =>
    let st := if custDenied d then 0 else 1
    modSec (fun s => { s with custRun := s.cust })
      (modCores (fun k => { k with image := true, c := k.c.map fun (x : Core) => { x with state := st } }) d)
  | some reason =>
    raise evFirmware 3 0 (if d.sec.cust.isEmpty then 0 else reason)
      (modCores (fun k => { k with c := k.c.map fun (x : Core) => { x with state := 2 } }) d)

/-- The boot ends: HVER is filled and the BOOT entry is written (22 R535, R536). -/
def bootDone (d : Dev) : Dev :=
  let d := modBoot (fun b => { b with boots := b.boots + 1, stage := 8 })
    (modHost (fun h => { h with hver := imHver d.sec.running }) d)
  logEvent 1 (pack [(1, d.boot.cause), (1, b2n d.boot.trip), (1, d.sec.bank), (1, d.boot.fallback), (4, runBuild d),
    (1, d.sec.life)]) d

/-- One stage ends; a failed one of the stages that R532 names stops the boot. -/
def stageDone (ok : Bool) (d : Dev) : Dev :=
  match d.boot.stage with
  | 0 => if ok then nextStage { d with tu := { d.tu with held := false } } else bootStop 4 d
  | 1 => if ok then nextStage d else d
  | 2 => if ok then nextStage (drawPreset d) else bootStop 2 d
  | 3 => if ok then bankStage d else bootStop 3 d
  | 4 => if ok then nextStage d else d
  | 5 => if ok then nextStage d else d
  | 6 => if ok then nextStage d else d
  | 7 => if ok then bootDone (startCores d) else d
  | _ => d

/-- The code of a verified image is in each core's TCM when the cores start (19 R482). -/
def bootStageDone (ok : Bool) (s : State) : State :=
  let s' := s.mapDev (stageDone ok)
  if s.dev.boot.stage = 7 && ok && (verifyStored s.dev 2).isNone && !custDenied s.dev then
    { s' with mem := loadTcm s.dev.sec.cust 1 (loadTcm s.dev.sec.cust 0 s.mem) }
  else s'

def execBootStageDone (ok : Bool) (s : State) : Host.Outcome State Fault Refusal := .next (bootStageDone ok s)

/-! The command-engine restart (22 R539). -/

/-- What the engine loses: its commands, its pairs but QP0, an activation, a commit under way. -/
def engineLoses (d : Dev) : Dev :=
  let lost := d.host.outst.filter abandonable
  let d := modHost (fun h => { h with
    fatal := true, ready := false, activating := false, outst := [], held := []
    qps := h.qps.filter fun p => p.1 == 0 }) (modCores (fun k => { k with paused := false }) d)
  let d := cutCommit (lost.foldl (fun d c => discardCmd c.tag d) d)
  modBoot (fun b => { b with act := none }) { d with pwr := { d.pwr with reef := none, waits := [] } }

/-- The watchdog expires; the restarted engine takes over the tables where they pass their checks. -/
def engineWatchdog (tablesOk : Bool) (d : Dev) : Dev :=
  if d.boot.stage != 8 || d.host.fatal then d
  else
    let lost := d.host.outst.length
    let d := engineLoses d
    if !tablesOk then d
    else
      let d := modHost (fun h => { h with fatal := false, restart := true }) d
      let d := raise evFirmware 4 0 lost d
      { logEvent 6 (pack [(1, (Config.watchdogCause d.free).toNat), (4, lost)]) d with free := d.free + 1 }

def execEngineWatchdog (tablesOk : Bool) (s : State) : Host.Outcome State Fault Refusal :=
  .next (s.mapDev (engineWatchdog tablesOk))

/-! FW_ACTIVATE (22 R540-R544). -/

/-- Commands that move the device into SHOAL or REEF. -/
def isSleep (o : HostOp) : Bool := o == .powerStateShoal || o == .powerStateReef

/-- A POWER_STATE to SHOAL or REEF is under way. -/
def sleepPending (d : Dev) : Bool := d.pwr.reef.isSome || d.pwr.waits.any fun w => decide (2 ≤ w.2.1)

def specFwActivate : CmdSpec where
  op := .fwActivate
  layout := [(32, 0, 8)]
  checks e := [(32, decide (fld e 32 1 ≤ 1))]

def fwActivateBody (c : Outst) (d : Dev) : Ans :=
  let bank := fld c.e 32 1
  if bank = d.sec.bank then .fail stInvalidField 32 0
  else
    check (d.sec.life != 3) stDenied <|
    check (d.boot.act.isNone && d.sec.commit.isNone && !sleepPending d && decide (d.pwr.state < 2) &&
      !(othersOut d c.tag fun o => isFwLoad o || o == .fwActivate || isSleep o)) stConflict <|
    .stay (modBoot (fun b => { b with act := some { cmd := c.tag, bank, step := 0, ns := d.tu.ns, left := 0 } }) d) .stepped

def execFwActivate (t : Nat) (s : State) : Host.Outcome State Fault Refusal :=
  .next (s.mapDev (hostRow specFwActivate t fwActivateBody))

/-- The reason why the image of an activation is refused: its verification, or its interface version (22 R541, R543). -/
def activationReason (d : Dev) (a : Activation) : Option Nat :=
  match verifyStored d a.bank with
  | some r => some r
  | none => if imMajor (bankImg d a.bank) = imMajor d.sec.running then none else some 0x0E

/-- The ACTIVATION log entry (22 R535). -/
def logActivation (a : Activation) (status reason old new stopUs : Nat) (d : Dev) : Dev :=
  logEvent 3 (pack [(2, status), (1, reason), (1, a.bank), (4, old), (4, new), (4, stopUs)]) d

/-- An activation ends without a switch. -/
def activationFails (a : Activation) (reason stopUs ext : Nat) (d : Dev) : Dev :=
  let d := modBoot (fun b => { b with act := none }) d
  completeTag (some a.cmd) stActivation reason ext
    (logActivation a stActivation reason (runBuild d) (imBuild (bankImg d a.bank)) stopUs d)

def activationVerifyFailed (d : Dev) : Dev :=
  match d.boot.act with
  | none => d
  | some a =>
    if a.step = 0 then
      match activationReason d a with
      | some reason => activationFails a reason 0 0 d
      | none => d
    else d

def execActivationVerifyFailed (s : State) : Host.Outcome State Fault Refusal := .next (s.mapDev activationVerifyFailed)

/-- A long command is outstanding (22 R542). -/
def longOut (d : Dev) : Bool := d.host.outst.any fun c => isLong c.op

/-- Every outstanding EVENT_ARM completes with ACTIVATION_BEGIN, an event of its own (02 R59, R62). -/
def armsBegin (d : Dev) : Dev :=
  (d.host.outst.filter fun c => c.op == .eventArm).foldl (fun d c =>
    let v : Event := { cls := evHost, code := 4, handle := 0, ns32 := ns32 d, seq := d.evt.seq, detail := 0 }
    complete c stSuccess (eventResult v) (eventExt v) 0xFF (modEvt (fun e => { e with seq := (e.seq + 1) % 2 ^ 32 }) d)) d

/-- Eye scans that run are interrupted: each ends at its next EYE_SCAN_DONE, with its completed points (03 R106, R107). -/
def scansEnd (d : Dev) : Dev :=
  (List.finRange 36).foldl (fun d l =>
    modLane l (fun k => if k.scan.isSome then { k with scanStop := true } else k) d) d

/-- ACTIVATION to both customer cores, 0 at the stop and 1 at the end (19 R490, R491). -/
def mailboxActivation (param : Nat) (d : Dev) : Dev := mbxIn 1 (plainMsg 0x84 param 0) (mbxIn 0 (plainMsg 0x84 param 0) d)

/-- The commands that the drain waits for: all that are outstanding but the activation (22 R541, step 5). -/
def drainLeft (d : Dev) (a : Activation) : Nat := (d.host.outst.filter fun c => c.tag != a.cmd).length

/-- The fetch stop (22 R541, step 4; R542). -/
def activationHalts (a : Activation) (d : Dev) : Dev :=
  let d := armsBegin (modHost (fun h => { h with activating := true }) d)
  let d := modBoot (fun b => { b with act := some { a with step := 2, ns := d.tu.ns, left := drainLeft d a } }) d
  let d := modCores (fun k => { k with paused := true }) (mailboxActivation 0 d)
  stopReads (fun _ => true) (scansEnd d)

/-- The image has verified: the hold, while a long command is outstanding, else the stop. -/
def activationStop (d : Dev) : Dev :=
  match d.boot.act with
  | none => d
  | some a =>
    if a.step = 2 || (a.step = 0 && (activationReason d a).isSome) then d
    else if longOut d then
      if a.step = 1 then d else modBoot (fun b => { b with act := some { a with step := 1, ns := d.tu.ns } }) d
    else activationHalts a d

def execActivationStop (s : State) : Host.Outcome State Fault Refusal := .next (s.mapDev activationStop)

/-- The wait of step 3 exceeds 2 s (22 R541). -/
def activationHoldTimeout (d : Dev) : Dev :=
  match d.boot.act with
  | none => d
  | some a => if a.step = 1 && decide (a.ns + 2000000000 < d.tu.ns) then activationFails a 0x10 0 0 d else d

def execActivationHoldTimeout (s : State) : Host.Outcome State Fault Refusal := .next (s.mapDev activationHoldTimeout)

/-- Fetching and the mailbox resume (22 R541, step 7). -/
def activationResumes (d : Dev) : Dev :=
  mailboxActivation 1 (modCores (fun k => { k with paused := false }) (modHost (fun h => { h with activating := false }) d))

/-- The stop's duration in whole us; how a part of one is rounded is not stated (DESIGN CHOICE, log 120: down). -/
def stopUs (d : Dev) (a : Activation) : Nat := (d.tu.ns - a.ns) / 1000

/-- The images have switched (22 R541, R543). -/
def activationSucceeds (a : Activation) (d : Dev) : Dev :=
  let old := runBuild d
  let img := bankImg d a.bank
  let d := modSec (fun s => { s with running := img, bank := a.bank, activated := true }) d
  let d := activationResumes (modBoot (fun b => { b with act := none }) (modHost (fun h => { h with hver := imHver img }) d))
  let both := old + imBuild img * 2 ^ 32
  raise evFirmware 1 0 both
    (completeTag (some a.cmd) stSuccess both (stopUs d a % 2 ^ 32 + a.left % 2 ^ 32 * 2 ^ 32)
      (logActivation a stSuccess 0 old (imBuild img) (stopUs d a) d))

/-- The drain has ended: nothing but the command itself is outstanding. -/
def drained (d : Dev) (a : Activation) : Bool := d.host.outst.all fun c => c.tag == a.cmd

/-- The switch, once the drain has ended (22 R541, step 6). -/
def activationSwitch (importOk : Bool) (d : Dev) : Dev :=
  match d.boot.act with
  | none => d
  | some a =>
    if a.step != 2 || !drained d a then d
    else if importOk then activationSucceeds a d
    else activationFails a 0x0F (stopUs d a) 0 (activationResumes d)

def execActivationSwitch (importOk : Bool) (s : State) : Host.Outcome State Fault Refusal :=
  .next (s.mapDev (activationSwitch importOk))

end Sys2Proof.Machine
end

