-- ==== Sys2Proof/Machine/Power.lean ====
section
/-!
DEFINITION. Machine/Power.lean: POWER_STATE, REEF and its wakes, and what a halted F core delays (20 R508-R514).
-/
namespace Sys2Proof.Machine

/-! What admitted work forbids (01 R28). -/

/-- The statistics of an Isle are subscribed to. -/
def isleStats (d : Dev) (i : IsleId) : Bool := (List.finRange 4).any fun p => (ctxOf d i p).sub.isSome

/-- A gate would take admitted work away. -/
def gateTakes (gate : Nat) (d : Dev) : Bool :=
  ((List.finRange 4).any fun i => bitOf gate i.val &&
    (heldOf d rcIsle i.val != 0 || heldOf d rcTap i.val != 0 || heldOf d rcHolmSes i.val != 0 || isleStats d i)) ||
  ((List.range 8).any fun e => bitOf gate (4 + e) && heldOf d rcEnc e != 0) ||
  ((List.range 2).any fun k => bitOf gate (12 + k) && heldOf d rcDec k != 0)

/-- Work that SHOAL would take away. -/
def shoalTakes (d : Dev) : Bool :=
  d.grps.any (·.run) || (List.finRange 4).any (isleStats d) ||
  ((List.finRange 4).any fun i => (List.finRange 8).any fun t => (tapOf d i t).ring.isSome) ||
  !d.enc.isEmpty || !d.holm.isEmpty || !d.dec.isEmpty || (d.recs.any fun p => !p.2.gone) || !d.flows.isEmpty ||
  (d.heads.any fun (h : Head) => h.on || h.next.isSome) || !d.auss.isEmpty

/-- REEF also loses enabled taps. -/
def reefTakes (d : Dev) : Bool :=
  shoalTakes d || (List.finRange 4).any fun i => (List.finRange 8).any fun t => (tapOf d i t).on

/-- STATE_CONFLICT of a POWER_STATE (20 R509): admitted work, and a firmware load or an activation that would wait for
the sleep, or the sleep for it. -/
def powerConflict (target gate t : Nat) (d : Dev) : Bool :=
  match target with
  | 0 => false
  | 1 => gateTakes gate d
  | _ =>
    (if target = 2 then shoalTakes d else reefTakes d) || d.boot.act.isSome || d.sec.commit.isSome ||
      othersOut d t fun o => isFwLoad o || o == .fwActivate

/-! The states (20 R508, R509). -/

def modPwr (f : Pwr → Pwr) (d : Dev) : Dev := { d with pwr := f d.pwr }

/-- RESULT of POWER_STATE: the state and the gate in force. -/
def powerResult (d : Dev) : Nat := d.pwr.state + d.pwr.gate * 2 ^ 8

/-- SHOAL powers the Strait lanes and the network ports down; a slaved clock runs in HOLDOVER (03 R107; 14 R391). -/
def enterShoal (d : Dev) : Dev :=
  if d.pwr.state = 2 then d
  else
    let d := (List.finRange 4).foldl (fun d p => if (port d p).enabled then toState p 0 d else d) d
    let d := (List.finRange 2).foldl (fun d n => netStop n d) d
    let d := if d.ptp.state = 1 || d.ptp.state = 2 then holdover d else d
    modPwr (fun p => { p with state := 2 }) d

/-- On a return from SHOAL enabled ports bring their links up again (03 R107). -/
def leaveShoal (d : Dev) : Dev :=
  if d.pwr.state = 2 then
    (List.finRange 4).foldl (fun d p => if (port d p).enabled then toDetect p d else d)
      (modPwr (fun p => { p with state := 0 }) d)
  else d

/-- RUN, REDUCED with a gate, or SHOAL; REDUCED with GATE 0 is RUN. -/
def applyPower (target gate : Nat) (d : Dev) : Dev :=
  if target = 2 then enterShoal d
  else
    let g := if target = 1 then gate else 0
    modPwr (fun p => { p with state := if g = 0 then 0 else 1, gate := g }) (leaveShoal d)

/-! REEF (20 R511). -/

/-- The device in REEF: the compute die is off but for the Safety Island, the time unit, the sensors and the settings
that its chapters keep; WAKE_MASK is in force and MAIN_EN falls (20 R508; 21 R530; 14 R391; 23 R552). -/
def reefOff (mask : Nat) (d : Dev) : Dev :=
  let t := d.thm
  emit (.pin 1 0)
    { dieOff d with
      thm := { t with
        throttle := 110, slope := 8, dfMin := 5, shedMs := 100, limit := 105000, pend := none, sub := none, telNow := false
        evOwed := false, shedArm := false, shedNs := none }
      mirror := d.mirror
      pwr := { state := 3, wake := mask } }

/-- Every other fetched command has completed, but for EVENT_ARMs (20 R511). -/
def reefDrained (d : Dev) (t : Nat) : Bool := d.host.outst.all fun c => c.tag == t || c.op == .eventArm

/-- Entry: its own completion, then a controller disable, then the state. -/
def enterReef (t mask : Nat) (s : State) : State :=
  s.resetDev fun d => reefOff mask (disable (endGrant (completeTag (some t) stSuccess (powerResult d) 0 d)))

/-- The REEF command that drains enters once it is drained. -/
def reefTry (t : Nat) (s : State) : State :=
  match s.dev.pwr.reef with
  | none => s
  | some (t', mask) => if t' = t && reefDrained s.dev t then enterReef t mask s else s

/-! POWER_STATE (20 R509, R514). -/

/-- An F core is halted: POWER_STATE waits for it (20 R514). -/
def fHalted (d : Dev) : Bool := d.sec.halted % 16 != 0

/-- The step of POWER_STATE: its checks, then the new state, unless a halted core or the drain delays it. -/
def powerBody (target : Nat) (c : Outst) (d : Dev) : Ans :=
  let gate := if target = 1 then fldBits c.e 36 0 14 else 0
  let mask := if target = 3 then fldBits c.e 40 0 2 else 0
  check (!powerConflict target gate c.tag d) stConflict <|
  if fHalted d then .stay (modPwr (fun p => { p with waits := p.waits ++ [(c.tag, target, gate, mask)] }) d) .stepped
  else if target = 3 then .stay (modPwr (fun p => { p with reef := some (c.tag, mask) }) d) .stepped
  else
    let d := applyPower target gate d
    okAns d (res := powerResult d)

def specPowerStateRun : CmdSpec where
  op := .powerStateRun
  layout := [(32, 0, 8)]

def execPowerStateRun (t : Nat) (s : State) : Host.Outcome State Fault Refusal :=
  .next (s.mapDev (hostRow specPowerStateRun t (powerBody 0)))

def specPowerStateReduced : CmdSpec where
  op := .powerStateReduced
  layout := [(32, 0, 8), (36, 0, 14)]

def execPowerStateReduced (t : Nat) (s : State) : Host.Outcome State Fault Refusal :=
  .next (s.mapDev (hostRow specPowerStateReduced t (powerBody 1)))

def specPowerStateShoal : CmdSpec where
  op := .powerStateShoal
  layout := [(32, 0, 8)]

def execPowerStateShoal (t : Nat) (s : State) : Host.Outcome State Fault Refusal :=
  .next (s.mapDev (hostRow specPowerStateShoal t (powerBody 2)))

def specPowerStateReef : CmdSpec where
  op := .powerStateReef
  layout := [(32, 0, 8), (40, 0, 2)]

/-- POWER_STATE REEF: its step, and the entry once the drain has ended. -/
def execPowerStateReef (t : Nat) (s : State) : Host.Outcome State Fault Refusal :=
  .next (reefTry t (s.mapDev (hostRow specPowerStateReef t (powerBody 3))))

/-! Wakes (20 R511; 23 R552). -/

/-- The function returns to D0 from REEF: the compute die boots; the Safety Island and the time unit run on. -/
def reefWake (s : State) : State :=
  if s.dev.pwr.state = 3 && dieRuns s.dev then s.resetDev fun d => leavePins d (dieBoots 6 (dieOff d)) else s

def execReefWake (s : State) : Host.Outcome State Fault Refusal := .next (reefWake s)

/-- WAKE# for a safe-state entry (WAKE_MASK bit 0) or a rising edge of SAFE_IN (bit 1). -/
def reefWakeEvent (safeIn : Bool) (d : Dev) : Dev :=
  let seen := if safeIn then bitOf d.pwr.wake 1 && d.safe.safeIn else bitOf d.pwr.wake 0 && d.safe.held
  if d.pwr.state = 3 && seen && !d.pwr.wakePin then modPwr (fun p => { p with wakePin := true }) (emit (.pin 0 0) d) else d

def execReefWakeEvent (safeIn : Bool) (s : State) : Host.Outcome State Fault Refusal :=
  .next (s.mapDev (reefWakeEvent safeIn))

/-! Halted F cores resume (20 R507, R514). -/

/-- A delayed POWER_STATE goes on: admitted work is looked at again. -/
def releaseOne (s : State) (w : Nat × Nat × Nat × Nat) : State :=
  match w with
  | (t, target, gate, mask) =>
    if powerConflict target gate t s.dev then s.mapDev (completeTag (some t) stConflict 0 0)
    else if target = 3 then reefTry t (s.mapDev (modPwr fun p => { p with reef := some (t, mask) }))
    else s.mapDev fun d =>
      let d := applyPower target gate d
      completeTag (some t) stSuccess (powerResult d) 0 d

/-- POWER_STATE commands that a halted F core has delayed go on, in order, once none is halted. -/
def releaseWaits (s : State) : State :=
  if fHalted s.dev then s
  else s.dev.pwr.waits.foldl releaseOne (s.mapDev (modPwr fun p => { p with waits := [] }))

/-- The debug port resumes a core. -/
def debugPortResume (n : Nat) (d : Dev) : Dev :=
  if !debugReaches d n then d
  else if n < 6 then modSec (fun s => { s with halted := clearBit s.halted n }) d
  else modCore (custOf n) (fun k => { k with halted := false }) d

def execDebugPortResume (core : Nat) (s : State) : Host.Outcome State Fault Refusal :=
  .next (releaseWaits (s.mapDev (debugPortResume core)))

/-! Rows that may end a debug grant, and with it the halts (20 R506, R507). -/

def execDebugTokenUnlock (t : Nat) (s : State) : Host.Outcome State Fault Refusal :=
  .next (releaseWaits (s.mapDev (debugTokenUnlock t)))

def execDebugTokenRelock (t : Nat) (s : State) : Host.Outcome State Fault Refusal :=
  .next (releaseWaits (s.mapDev (debugTokenRelock t)))

def execFunctionLevelReset (s : State) : Host.Outcome State Fault Refusal :=
  .next (releaseWaits (s.mapDev functionLevelReset))

def execHotReset (s : State) : Host.Outcome State Fault Refusal := .next (releaseWaits (s.mapDev hotReset))

def execHostLinkDown (s : State) : Host.Outcome State Fault Refusal := .next (releaseWaits (s.mapDev hostLinkDown))

end Sys2Proof.Machine
end

