-- ==== Sys2Proof/Machine/Dispatch.lean ====
section
/-!
DEFINITION. Machine/Dispatch.lean: one arm per row of the table; each calls the meaning of its row.
-/
namespace Sys2Proof.Machine

def exec (i : Instr) (s : State) : Host.Outcome State Fault Refusal :=
  match i with
  | .powerOn => Sys2Proof.Machine.execPowerOn s
  | .rstN => Sys2Proof.Machine.execRstN s
  | .pllLoss => Sys2Proof.Machine.execPllLoss s
  | .supplyReset => Sys2Proof.Machine.execSupplyReset s
  | .debugResetRequest => Sys2Proof.Machine.execDebugResetRequest s
  | .aonSupplyLoss => Sys2Proof.Machine.execAonSupplyLoss s
  | .bootStageDone ok => Sys2Proof.Machine.execBootStageDone ok s
  | .adminReady => Sys2Proof.Machine.execAdminReady s
  | .adminNotReady => Sys2Proof.Machine.execAdminNotReady s
  | .controllerEnable => Sys2Proof.Machine.execControllerEnable s
  | .controllerDisable => Sys2Proof.Machine.execControllerDisable s
  | .functionLevelReset => Sys2Proof.Machine.execFunctionLevelReset s
  | .hotReset => Sys2Proof.Machine.execHotReset s
  | .hostLinkDown => Sys2Proof.Machine.execHostLinkDown s
  | .busMasterEnableWrite v => Sys2Proof.Machine.execBusMasterEnableWrite v s
  | .hostLinkL0Entry rate width => Sys2Proof.Machine.execHostLinkL0Entry rate width s
  | .l0pWidthChange width => Sys2Proof.Machine.execL0pWidthChange width s
  | .pmD3hotEntry => Sys2Proof.Machine.execPmD3hotEntry s
  | .pmD0Return => Sys2Proof.Machine.execPmD0Return s
  | .sqTailDoorbell qp v => Sys2Proof.Machine.execSqTailDoorbell qp v s
  | .cqHeadDoorbell qp v => Sys2Proof.Machine.execCqHeadDoorbell qp v s
  | .msixVectorUnmask vec => Sys2Proof.Machine.execMsixVectorUnmask vec s
  | .registerWrite w => Sys2Proof.Machine.execRegisterWrite w s
  | .commandFetch e => Sys2Proof.Machine.execCommandFetch e s
  | .intCoalesceTimeout qp => Sys2Proof.Machine.execIntCoalesceTimeout qp s
  | .identify t => Sys2Proof.Machine.execIdentify t s
  | .qpCreate t => Sys2Proof.Machine.execQpCreate t s
  | .qpDelete t => Sys2Proof.Machine.execQpDelete t s
  | .qpReset t => Sys2Proof.Machine.execQpReset t s
  | .featureSetArbitration t => Sys2Proof.Machine.execFeatureSetArbitration t s
  | .featureSetIntCoalesce t => Sys2Proof.Machine.execFeatureSetIntCoalesce t s
  | .featureSetEventConfig t => Sys2Proof.Machine.execFeatureSetEventConfig t s
  | .featureSetQpClass t => Sys2Proof.Machine.execFeatureSetQpClass t s
  | .featureSetMemory t => Sys2Proof.Machine.execFeatureSetMemory t s
  | .coreLinkVector t => Sys2Proof.Machine.execCoreLinkVector t s
  | .coreLinkPost t => Sys2Proof.Machine.execCoreLinkPost t s
  | .coreLinkRestart t => Sys2Proof.Machine.execCoreLinkRestart t s
  | .coreLinkStop t => Sys2Proof.Machine.execCoreLinkStop t s
  | .featureGet t => Sys2Proof.Machine.execFeatureGet t s
  | .logGet t => Sys2Proof.Machine.execLogGet t s
  | .abort t => Sys2Proof.Machine.execAbort t s
  | .flush t => Sys2Proof.Machine.execFlush t s
  | .flushDone t => Sys2Proof.Machine.execFlushDone t s
  | .eventArm t => Sys2Proof.Machine.execEventArm t s
  | .mirrorUpdate => Sys2Proof.Machine.execMirrorUpdate s
  | .linkDiagStatus t => Sys2Proof.Machine.execLinkDiagStatus t s
  | .linkDiagCounters t => Sys2Proof.Machine.execLinkDiagCounters t s
  | .linkDiagEyeScan t => Sys2Proof.Machine.execLinkDiagEyeScan t s
  | .linkDiagCounterClear t => Sys2Proof.Machine.execLinkDiagCounterClear t s
  | .eyeScanDone t errors => Sys2Proof.Machine.execEyeScanDone t errors s
  | .trainReqTimer p => Sys2Proof.Machine.execTrainReqTimer p s
  | .retrainTimer p => Sys2Proof.Machine.execRetrainTimer p s
  | .noResponseTimeout p => Sys2Proof.Machine.execNoResponseTimeout p s
  | .failRetry p => Sys2Proof.Machine.execFailRetry p s
  | .trainBlockRx p lanes => Sys2Proof.Machine.execTrainBlockRx p lanes s
  | .adaptationDone p foms => Sys2Proof.Machine.execAdaptationDone p foms s
  | .presetAck p preset foms => Sys2Proof.Machine.execPresetAck p preset foms s
  | .presetAckTimeout p => Sys2Proof.Machine.execPresetAckTimeout p s
  | .commaBlockRx p lanes => Sys2Proof.Machine.execCommaBlockRx p lanes s
  | .alignTimeout p => Sys2Proof.Machine.execAlignTimeout p s
  | .laneLockLoss p lane cause => Sys2Proof.Machine.execLaneLockLoss p lane cause s
  | .sleepBlockRx p deep => Sys2Proof.Machine.execSleepBlockRx p deep s
  | .wakeTimeout p signalNs => Sys2Proof.Machine.execWakeTimeout p signalNs s
  | .bcSleepTimer p => Sys2Proof.Machine.execBcSleepTimer p s
  | .laneRecalTimer l => Sys2Proof.Machine.execLaneRecalTimer l s
  | .fomMeasure l fom => Sys2Proof.Machine.execFomMeasure l fom s
  | .portConfig t => Sys2Proof.Machine.execPortConfig t s
  | .groupConfig t => Sys2Proof.Machine.execGroupConfig t s
  | .captureStart t => Sys2Proof.Machine.execCaptureStart t s
  | .captureStop t => Sys2Proof.Machine.execCaptureStop t s
  | .captureStopDone g => Sys2Proof.Machine.execCaptureStopDone g s
  | .frameTrigger g boundary => Sys2Proof.Machine.execFrameTrigger g boundary s
  | .genlockInEdge rising stamp => Sys2Proof.Machine.execGenlockInEdge rising stamp s
  | .genlockTimeout g => Sys2Proof.Machine.execGenlockTimeout g s
  | .genlockStartTimeout g => Sys2Proof.Machine.execGenlockStartTimeout g s
  | .smiwaldHunt p header => Sys2Proof.Machine.execSmiwaldHunt p header s
  | .fsPacket p times => Sys2Proof.Machine.execFsPacket p times s
  | .fePacket p times => Sys2Proof.Machine.execFePacket p times s
  | .linePacket p times => Sys2Proof.Machine.execLinePacket p times s
  | .embeddedPacket p times => Sys2Proof.Machine.execEmbeddedPacket p times s
  | .ctrlRespPacket p times => Sys2Proof.Machine.execCtrlRespPacket p times s
  | .unknownTypePacket p times => Sys2Proof.Machine.execUnknownTypePacket p times s
  | .lineTimeout p => Sys2Proof.Machine.execLineTimeout p s
  | .fsDeadline p => Sys2Proof.Machine.execFsDeadline p s
  | .sensorCtrlWrite t => Sys2Proof.Machine.execSensorCtrlWrite t s
  | .sensorCtrlRead t => Sys2Proof.Machine.execSensorCtrlRead t s
  | .sensorCtrlTiming t => Sys2Proof.Machine.execSensorCtrlTiming t s
  | .sensorCtrlCounters t => Sys2Proof.Machine.execSensorCtrlCounters t s
  | .sensorNoResponse p tag => Sys2Proof.Machine.execSensorNoResponse p tag s
  | .frameFetch t => Sys2Proof.Machine.execFrameFetch t s
  | .frameFetchDone t => Sys2Proof.Machine.execFrameFetchDone t s
  | .tileRowStart u => Sys2Proof.Machine.execTileRowStart u s
  | .isleFrameStart u p => Sys2Proof.Machine.execIsleFrameStart u p s
  | .commandDeferTimeout t => Sys2Proof.Machine.execCommandDeferTimeout t s
  | .isleConfig t => Sys2Proof.Machine.execIsleConfig t s
  | .feTableLoad t => Sys2Proof.Machine.execFeTableLoad t s
  | .statsSubscribeStart t => Sys2Proof.Machine.execStatsSubscribeStart t s
  | .statsSubscribeStop t => Sys2Proof.Machine.execStatsSubscribeStop t s
  | .statsRecord u p => Sys2Proof.Machine.execStatsRecord u p s
  | .blendGridUpdate u p => Sys2Proof.Machine.execBlendGridUpdate u p s
  | .cfaKernelLoad t => Sys2Proof.Machine.execCfaKernelLoad t s
  | .colourLoadParams t => Sys2Proof.Machine.execColourLoadParams t s
  | .colourLoadBlendGrid t => Sys2Proof.Machine.execColourLoadBlendGrid t s
  | .colourLoadLook t => Sys2Proof.Machine.execColourLoadLook t s
  | .colourLoadTapOutput t => Sys2Proof.Machine.execColourLoadTapOutput t s
  | .lookSelect t => Sys2Proof.Machine.execLookSelect t s
  | .tapConfigEnable t => Sys2Proof.Machine.execTapConfigEnable t s
  | .tapConfigDisable t => Sys2Proof.Machine.execTapConfigDisable t s
  | .tapRingFrameDone u tap => Sys2Proof.Machine.execTapRingFrameDone u tap s
  | .encOpen t => Sys2Proof.Machine.execEncOpen t s
  | .encReconfig t => Sys2Proof.Machine.execEncReconfig t s
  | .encForce t => Sys2Proof.Machine.execEncForce t s
  | .encClose t => Sys2Proof.Machine.execEncClose t s
  | .encCloseDone ses => Sys2Proof.Machine.execEncCloseDone ses s
  | .encPictureDone ses engine rows => Sys2Proof.Machine.execEncPictureDone ses engine rows s
  | .encRowDone ses row => Sys2Proof.Machine.execEncRowDone ses row s
  | .motionFieldDone ses frame vecs => Sys2Proof.Machine.execMotionFieldDone ses frame vecs s
  | .encParityError e => Sys2Proof.Machine.execEncParityError e s
  | .encPictureTimeout ses => Sys2Proof.Machine.execEncPictureTimeout ses s
  | .encRowTimeout ses => Sys2Proof.Machine.execEncRowTimeout ses s
  | .encEngineResetDone e => Sys2Proof.Machine.execEncEngineResetDone e s
  | .holmOpen t => Sys2Proof.Machine.execHolmOpen t s
  | .holmClose t => Sys2Proof.Machine.execHolmClose t s
  | .holmCloseDone ses => Sys2Proof.Machine.execHolmCloseDone ses s
  | .holmRowDone ses choices => Sys2Proof.Machine.execHolmRowDone ses choices s
  | .holmAuDone ses => Sys2Proof.Machine.execHolmAuDone ses s
  | .holmParityError u => Sys2Proof.Machine.execHolmParityError u s
  | .holmRowTimeout u => Sys2Proof.Machine.execHolmRowTimeout u s
  | .decOpen t => Sys2Proof.Machine.execDecOpen t s
  | .decSubmit t => Sys2Proof.Machine.execDecSubmit t s
  | .decClose t => Sys2Proof.Machine.execDecClose t s
  | .decPictureDone ses pic => Sys2Proof.Machine.execDecPictureDone ses pic s
  | .decPicturePresent ses => Sys2Proof.Machine.execDecPicturePresent ses s
  | .decParityError e => Sys2Proof.Machine.execDecParityError e s
  | .decPictureTimeout ses => Sys2Proof.Machine.execDecPictureTimeout ses s
  | .katExpectedReady u p => Sys2Proof.Machine.execKatExpectedReady u p s
  | .katCompare u p crc => Sys2Proof.Machine.execKatCompare u p crc s
  | .hbmRefresh pc bank => Sys2Proof.Machine.execHbmRefresh pc bank s
  | .hbmTraining pc margin => Sys2Proof.Machine.execHbmTraining pc margin s
  | .scrubRead r => Sys2Proof.Machine.execScrubRead r s
  | .lagoonScrub r => Sys2Proof.Machine.execLagoonScrub r s
  | .lagoonRepair off copy => Sys2Proof.Machine.execLagoonRepair off copy s
  | .bankPressureInterval waits longest => Sys2Proof.Machine.execBankPressureInterval waits longest s
  | .mediumInserted m => Sys2Proof.Machine.execMediumInserted m s
  | .mediumInitDone m info => Sys2Proof.Machine.execMediumInitDone m info s
  | .mediumRemoved m => Sys2Proof.Machine.execMediumRemoved m s
  | .mediaLinkDown m fatal => Sys2Proof.Machine.execMediaLinkDown m fatal s
  | .mediaAttachAttach t => Sys2Proof.Machine.execMediaAttachAttach t s
  | .mediaAttachDetach t => Sys2Proof.Machine.execMediaAttachDetach t s
  | .mediaAttachInfo t => Sys2Proof.Machine.execMediaAttachInfo t s
  | .nvmeShutdownDone m reported => Sys2Proof.Machine.execNvmeShutdownDone m reported s
  | .recOpen t => Sys2Proof.Machine.execRecOpen t s
  | .recExtents t => Sys2Proof.Machine.execRecExtents t s
  | .recCommit t => Sys2Proof.Machine.execRecCommit t s
  | .recClose t => Sys2Proof.Machine.execRecClose t s
  | .recItemReady ses src => Sys2Proof.Machine.execRecItemReady ses src s
  | .nvmeWriteDone ses m ok retryable => Sys2Proof.Machine.execNvmeWriteDone ses m ok retryable s
  | .nvmeFlushDone ses m ok => Sys2Proof.Machine.execNvmeFlushDone ses m ok s
  | .nvmeTimeout ses m => Sys2Proof.Machine.execNvmeTimeout ses m s
  | .commitTimer ses => Sys2Proof.Machine.execCommitTimer ses s
  | .recCommitTimeout t => Sys2Proof.Machine.execRecCommitTimeout t s
  | .mediaReadBlocks t => Sys2Proof.Machine.execMediaReadBlocks t s
  | .mediaReadItems t => Sys2Proof.Machine.execMediaReadItems t s
  | .nvmeReadDone t r => Sys2Proof.Machine.execNvmeReadDone t r s
  | .netConfig t => Sys2Proof.Machine.execNetConfig t s
  | .netLinkChange n up cause => Sys2Proof.Machine.execNetLinkChange n up cause s
  | .firmwareProtocolRx n f kind => Sys2Proof.Machine.execFirmwareProtocolRx n f kind s
  | .chainForward n f => Sys2Proof.Machine.execChainForward n f s
  | .ptpConfig t => Sys2Proof.Machine.execPtpConfig t s
  | .ptpSyncRx m egress => Sys2Proof.Machine.execPtpSyncRx m egress s
  | .ptpFollowUpRx m => Sys2Proof.Machine.execPtpFollowUpRx m s
  | .ptpDelayReqRx m egress => Sys2Proof.Machine.execPtpDelayReqRx m egress s
  | .ptpDelayRespRx m => Sys2Proof.Machine.execPtpDelayRespRx m s
  | .ptpAnnounceRx m => Sys2Proof.Machine.execPtpAnnounceRx m s
  | .ptpManagementRx m => Sys2Proof.Machine.execPtpManagementRx m s
  | .ptpSyncTx n stamp => Sys2Proof.Machine.execPtpSyncTx n stamp s
  | .ptpAnnounceTx n => Sys2Proof.Machine.execPtpAnnounceTx n s
  | .ptpDelayReqTx n stamp => Sys2Proof.Machine.execPtpDelayReqTx n stamp s
  | .syncHoldoverTimeout announce => Sys2Proof.Machine.execSyncHoldoverTimeout announce s
  | .timeGetRead t => Sys2Proof.Machine.execTimeGetRead t s
  | .timeGetSet t => Sys2Proof.Machine.execTimeGetSet t s
  | .timeGetStatus t => Sys2Proof.Machine.execTimeGetStatus t s
  | .flowOpen t => Sys2Proof.Machine.execFlowOpen t s
  | .flowClose t => Sys2Proof.Machine.execFlowClose t s
  | .flowFrameTx flow t => Sys2Proof.Machine.execFlowFrameTx flow t s
  | .audioPacketTx flow first frames => Sys2Proof.Machine.execAudioPacketTx flow first frames s
  | .rxFlowPacket flow k => Sys2Proof.Machine.execRxFlowPacket flow k s
  | .ltcInFrame code stamp => Sys2Proof.Machine.execLtcInFrame code stamp s
  | .ltcInLost => Sys2Proof.Machine.execLtcInLost s
  | .ltcOutFrame t => Sys2Proof.Machine.execLtcOutFrame t s
  | .headConfigEnable t => Sys2Proof.Machine.execHeadConfigEnable t s
  | .headConfigDisable t => Sys2Proof.Machine.execHeadConfigDisable t s
  | .headCommit t => Sys2Proof.Machine.execHeadCommit t s
  | .commitCopyDone h => Sys2Proof.Machine.execCommitCopyDone h s
  | .headFrameSelect h f => Sys2Proof.Machine.execHeadFrameSelect h f s
  | .headFrameStart h => Sys2Proof.Machine.execHeadFrameStart h s
  | .sourceGap h => Sys2Proof.Machine.execSourceGap h s
  | .dpHpd out => Sys2Proof.Machine.execDpHpd out s
  | .dpLinkTrained out rate lanes => Sys2Proof.Machine.execDpLinkTrained out rate lanes s
  | .audConfigEnable t => Sys2Proof.Machine.execAudConfigEnable t s
  | .audConfigDisable t => Sys2Proof.Machine.execAudConfigDisable t s
  | .audEnableDone p => Sys2Proof.Machine.execAudEnableDone p s
  | .audNoClockTimeout p => Sys2Proof.Machine.execAudNoClockTimeout p s
  | .audDisableDone p => Sys2Proof.Machine.execAudDisableDone p s
  | .audClockLoss p => Sys2Proof.Machine.execAudClockLoss p s
  | .audClockRestored p => Sys2Proof.Machine.execAudClockRestored p s
  | .audStreamOpen t => Sys2Proof.Machine.execAudStreamOpen t s
  | .audStreamClose t => Sys2Proof.Machine.execAudStreamClose t s
  | .audStreamMask t => Sys2Proof.Machine.execAudStreamMask t s
  | .audStreamStatus t => Sys2Proof.Machine.execAudStreamStatus t s
  | .audPeriodDone stream frames => Sys2Proof.Machine.execAudPeriodDone stream frames s
  | .audPlaybackRead stream slot => Sys2Proof.Machine.execAudPlaybackRead stream slot s
  | .axisConfigEnable t => Sys2Proof.Machine.execAxisConfigEnable t s
  | .axisConfigDisable t => Sys2Proof.Machine.execAxisConfigDisable t s
  | .axisConfigTimeout a => Sys2Proof.Machine.execAxisConfigTimeout a s
  | .axisGridSample a x => Sys2Proof.Machine.execAxisGridSample a x s
  | .encoderReadDone a r => Sys2Proof.Machine.execEncoderReadDone a r s
  | .axisIndex a t => Sys2Proof.Machine.execAxisIndex a t s
  | .axisFault a cause => Sys2Proof.Machine.execAxisFault a cause s
  | .axisFaultClear a => Sys2Proof.Machine.execAxisFaultClear a s
  | .latchInstantRx a r => Sys2Proof.Machine.execLatchInstantRx a r s
  | .latchResolve a => Sys2Proof.Machine.execLatchResolve a s
  | .skerryLinkFrame f => Sys2Proof.Machine.execSkerryLinkFrame f s
  | .computeLinkFrame goodA goodB => Sys2Proof.Machine.execComputeLinkFrame goodA goodB s
  | .linkPathChange pathB up => Sys2Proof.Machine.execLinkPathChange pathB up s
  | .posSnapshotLoad c a => Sys2Proof.Machine.execPosSnapshotLoad c a s
  | .posPresetWrite c a v => Sys2Proof.Machine.execPosPresetWrite c a v s
  | .posErrCntRead c a => Sys2Proof.Machine.execPosErrCntRead c a s
  | .pwmCmdWrite c a v => Sys2Proof.Machine.execPwmCmdWrite c a v s
  | .pwmArmWrite c a v => Sys2Proof.Machine.execPwmArmWrite c a v s
  | .brakeRelWrite c a v => Sys2Proof.Machine.execBrakeRelWrite c a v s
  | .pwmPeriodStart a => Sys2Proof.Machine.execPwmPeriodStart a s
  | .pwmCmdTimeout a => Sys2Proof.Machine.execPwmCmdTimeout a s
  | .skerryPor => Sys2Proof.Machine.execSkerryPor s
  | .safeInDemand => Sys2Proof.Machine.execSafeInDemand s
  | .heartbeatLoss => Sys2Proof.Machine.execHeartbeatLoss s
  | .configMismatch => Sys2Proof.Machine.execConfigMismatch s
  | .lockstep => Sys2Proof.Machine.execLockstep s
  | .siWatchdog => Sys2Proof.Machine.execSiWatchdog s
  | .siMemory => Sys2Proof.Machine.execSiMemory s
  | .siSelftest => Sys2Proof.Machine.execSiSelftest s
  | .clockCompute => Sys2Proof.Machine.execClockCompute s
  | .clockSkerry => Sys2Proof.Machine.execClockSkerry s
  | .supply => Sys2Proof.Machine.execSupply s
  | .skerryInternal => Sys2Proof.Machine.execSkerryInternal s
  | .outputReadback a => Sys2Proof.Machine.execOutputReadback a s
  | .safetyConfigLoad t => Sys2Proof.Machine.execSafetyConfigLoad t s
  | .safetyConfigReset t => Sys2Proof.Machine.execSafetyConfigReset t s
  | .safetyConfigForce t => Sys2Proof.Machine.execSafetyConfigForce t s
  | .safetyConfigProofTest t => Sys2Proof.Machine.execSafetyConfigProofTest t s
  | .proofTestDone passed => Sys2Proof.Machine.execProofTestDone passed s
  | .safetyStatus t => Sys2Proof.Machine.execSafetyStatus t s
  | .irqClaim c => Sys2Proof.Machine.execIrqClaim c s
  | .irqComplete c v => Sys2Proof.Machine.execIrqComplete c v s
  | .irqSpuriousRead c => Sys2Proof.Machine.execIrqSpuriousRead c s
  | .sgiWrite c v => Sys2Proof.Machine.execSgiWrite c v s
  | .irqTargetWrite c id v => Sys2Proof.Machine.execIrqTargetWrite c id v s
  | .tmrExpiry c n => Sys2Proof.Machine.execTmrExpiry c n s
  | .tmrCountRead c n => Sys2Proof.Machine.execTmrCountRead c n s
  | .timeSnapshotLoad c => Sys2Proof.Machine.execTimeSnapshotLoad c s
  | .mbxOutPush c v => Sys2Proof.Machine.execMbxOutPush c v s
  | .mbxInPop c => Sys2Proof.Machine.execMbxInPop c s
  | .mbxOutTake c => Sys2Proof.Machine.execMbxOutTake c s
  | .customerAccessFault c store addr => Sys2Proof.Machine.execCustomerAccessFault c store addr s
  | .fwDownload t => Sys2Proof.Machine.execFwDownload t s
  | .fwCommitWrite t => Sys2Proof.Machine.execFwCommitWrite t s
  | .fwCommitWriteAndSelect t => Sys2Proof.Machine.execFwCommitWriteAndSelect t s
  | .fwCommitSelectOnly t => Sys2Proof.Machine.execFwCommitSelectOnly t s
  | .fwCommitCustomer t => Sys2Proof.Machine.execFwCommitCustomer t s
  | .fwCommitKeys t => Sys2Proof.Machine.execFwCommitKeys t s
  | .flashWriteDone flashOk readbackOk => Sys2Proof.Machine.execFlashWriteDone flashOk readbackOk s
  | .fwActivate t => Sys2Proof.Machine.execFwActivate t s
  | .activationStop => Sys2Proof.Machine.execActivationStop s
  | .activationHoldTimeout => Sys2Proof.Machine.execActivationHoldTimeout s
  | .activationSwitch importOk => Sys2Proof.Machine.execActivationSwitch importOk s
  | .engineWatchdog tablesOk => Sys2Proof.Machine.execEngineWatchdog tablesOk s
  | .attestEvidence t => Sys2Proof.Machine.execAttestEvidence t s
  | .attestCerts t => Sys2Proof.Machine.execAttestCerts t s
  | .debugTokenChallenge t => Sys2Proof.Machine.execDebugTokenChallenge t s
  | .debugTokenUnlock t => Sys2Proof.Machine.execDebugTokenUnlock t s
  | .debugTokenRelock t => Sys2Proof.Machine.execDebugTokenRelock t s
  | .debugTokenTransition t => Sys2Proof.Machine.execDebugTokenTransition t s
  | .powerStateRun t => Sys2Proof.Machine.execPowerStateRun t s
  | .powerStateReduced t => Sys2Proof.Machine.execPowerStateReduced t s
  | .powerStateShoal t => Sys2Proof.Machine.execPowerStateShoal t s
  | .powerStateReef t => Sys2Proof.Machine.execPowerStateReef t s
  | .reefWake => Sys2Proof.Machine.execReefWake s
  | .reefWakeEvent safeIn => Sys2Proof.Machine.execReefWakeEvent safeIn s
  | .sensorSample readings => Sys2Proof.Machine.execSensorSample readings s
  | .sensorFault x jump => Sys2Proof.Machine.execSensorFault x jump s
  | .shedStep => Sys2Proof.Machine.execShedStep s
  | .thermalTrip x reading => Sys2Proof.Machine.execThermalTrip x reading s
  | .thermalConfig t => Sys2Proof.Machine.execThermalConfig t s
  | .telemetrySnapshot t => Sys2Proof.Machine.execTelemetrySnapshot t s
  | .telemetrySubscribe t => Sys2Proof.Machine.execTelemetrySubscribe t s
  | .telemetryUnsubscribe t => Sys2Proof.Machine.execTelemetryUnsubscribe t s
  | .telemetryRecord => Sys2Proof.Machine.execTelemetryRecord s
  | .safeInRelease => Sys2Proof.Machine.execSafeInRelease s
  | .debugPortHalt core => Sys2Proof.Machine.execDebugPortHalt core s
  | .debugPortResume core => Sys2Proof.Machine.execDebugPortResume core s
  | .audFirstFsync p stamp => Sys2Proof.Machine.execAudFirstFsync p stamp s
  | .ioQueuesCreated m => Sys2Proof.Machine.execIoQueuesCreated m s
  | .flowCloseDone flow => Sys2Proof.Machine.execFlowCloseDone flow s
  | .activationVerifyFailed => Sys2Proof.Machine.execActivationVerifyFailed s

end Sys2Proof.Machine
end

