-- ==== Sys2Proof/Machine/Idle.lean ====
section
/-!
DEFINITION. Machine/Idle.lean: what passes while no command waits: one SCLK period, five TCLK edges of the
time unit (01 R10, 14 R367; notes/assumptions/3.md), the write queues drain (12 R324; log 87), and the network ports send
what is due and what waits (14 R366, R382).
-/
namespace Sys2Proof.Machine

def idleTick (d : Dev) : Dev :=
  drainPort 1 (drainPort 0 (pumpFlows (drainIdle { d with tu := tuAdvance 5 d.tu })))

end Sys2Proof.Machine
end

