-- ==== Sys2Proof/Safety.lean ====
section
/-!
DEFINITION. Safety.lean: the terms in which claims about the machine are made: the parts of its state, what each command
may change of them, when a host command begins its step, and what every state must meet.
-/
namespace Sys2Proof.Machine

/-! When a host command begins its step, and how it ends (01 R22; 02 R56). -/

/-- Command `t` is outstanding as `c`, a command of the row, may begin its step, and passes the checks of its entry alone. -/
def Begins (sp : CmdSpec) (t : Nat) (s : State) (c : Outst) : Prop :=
  startable sp.op t s.dev = some c ∧ specCheck sp c = none

/-- The state with a command completed: its entry is posted with the status and results given, on top of a device state. -/
def State.finish (s : State) (c : Outst) (st res ext : Nat) (d : Dev) : State :=
  { s with dev := complete c st res ext 0xFF d }

/-- The state with a command left outstanding in a phase, on top of a device state. -/
def State.await (s : State) (c : Outst) (ph : Phase) (d : Dev) : State := { s with dev := setPhase c.tag ph d }

/-! The parts of the state. -/

inductive Part where
  /-- HCTL and HSTS, and a command engine that waits for a new enable (02 R39; 22 R539) -/
  | control
  /-- ADMIN_SQ_BASE, ADMIN_CQ_BASE and ADMIN_SIZES (02 R39) -/
  | adminRegs
  /-- HVER (02 R39) -/
  | hver
  /-- the queue pairs (02 R46) -/
  | pairs
  /-- the arbitration weights (02 R71) -/
  | weights
  /-- the arbitration credits and the pair served last (02 R51) -/
  | credits
  /-- the outstanding commands (02 R56) -/
  | outstanding
  /-- the fetch number -/
  | fetchNumber
  /-- the error log (02 R72) -/
  | errorLog
  /-- the counters of page 0x05 (02 R72) -/
  | hostCounters
  /-- what waits for delivery (02 R562) -/
  | heldBack
  /-- the event queue and EVENT_SEQ (02 R62) -/
  | events
  /-- EVENT_CONFIG (02 R71) -/
  | eventMask
  /-- open objects and their generations (02 R52) -/
  | objects
  /-- the reservations (01 R24) -/
  | reservations
  /-- the host link (02 R36) -/
  | hostLink
  /-- Bus Master Enable and the power state of the function (02 R562; 20 R512) -/
  | pciCommand
  /-- the MSI-X table and function mask (02 R67) -/
  | msixTable
  /-- the pending-bit array (02 R67) -/
  | msixPending
  /-- a LINK_CAPACITY shortfall (02 R37) -/
  | linkShort
  /-- how often delivery has stopped (02 R562) -/
  | deliveryEpoch
  /-- the time unit (14 R367) -/
  | timeUnit
  /-- the power state, the gate and WAKE# (20 R508) -/
  | power
  /-- POWER_STATE commands that wait (20 R511, R514) -/
  | powerWaits
  /-- C0 and C1 with their banks (19) -/
  | customerCores
  /-- pending flags of the shared sources (19 R484) -/
  | sharedPending
  /-- PRIORITY and TARGET of the shared sources (19 R486, R488) -/
  | sharedRouting
  /-- PAUSED (19 R490) -/
  | mailboxPause
  /-- log page 0x0C (19 R492) -/
  | hostPosts
  /-- a customer image is present (20 R497) -/
  | customerImage
  /-- lifecycle, key slots, revocation, floors, locks (20 R494-R504) -/
  | fuses
  /-- the debug grant, its nonce and its halts (20 R506, R507) -/
  | debugGrant
  /-- EVIDENCE_SEQ (20 R502) -/
  | evidenceSeq
  /-- the staging areas (20 R498) -/
  | staging
  /-- a commit whose flash write is under way (20 R499) -/
  | commitUnderWay
  /-- the images in the flash and the bank selection (22 R533, R534) -/
  | flashImages
  /-- the running images (20 R501, R502) -/
  | runningImages
  /-- the boot and BOOT_STATUS (22 R532, R536) -/
  | bootState
  /-- the event log and BOOT_COUNT (22 R535) -/
  | eventLog
  /-- FW_ACTIVATE under way (22 R541) -/
  | activation
  /-- THERMAL_CONFIG (21 R527) -/
  | thermalSettings
  /-- the telemetry subscription (21 R528) -/
  | telemetry
  /-- the trip state and counter (21 R525) -/
  | tripCounter
  /-- the thermal sensors and what follows from them (21 R517-R522) -/
  | temperatures
  /-- the monitoring configuration (18 R472) -/
  | safetyConfiguration
  /-- the proof test (18 R476) -/
  | proofTest
  /-- the safe state, its causes and history, the barrier link (18 R466-R475) -/
  | safetyState
  /-- the Lagoon (12 R337) -/
  | lagoon
  /-- the customer windows (19 R481) -/
  | windows
  /-- the TCMs (19 R481) -/
  | tcms
  /-- identity -/
  | identity
  /-- mirror -/
  | mirror
  /-- lanes -/
  | lanes
  /-- links -/
  | links
  /-- sensor ports -/
  | sensorPorts
  /-- sync groups -/
  | syncGroups
  /-- isles -/
  | isles
  /-- holm sessions -/
  | holmSessions
  /-- encode sessions -/
  | encodeSessions
  /-- ladder groups -/
  | ladderGroups
  /-- encode resets -/
  | encodeResets
  /-- decode sessions -/
  | decodeSessions
  /-- heads -/
  | heads
  /-- hbm -/
  | hbm
  /-- media -/
  | media
  /-- recordings -/
  | recordings
  /-- media reads -/
  | mediaReads
  /-- net ports -/
  | netPorts
  /-- flows -/
  | flows
  /-- ptp -/
  | ptp
  /-- audio ports -/
  | audioPorts
  /-- audio streams -/
  | audioStreams
  /-- integrity counters -/
  | integrityCounters
  /-- axes -/
  | axes
  /-- axis records -/
  | axisRecords
  /-- output -/
  | output
  /-- free values -/
  | freeValues
deriving DecidableEq, Repr

/-- The part reads the same in two states. -/
def Part.same (p : Part) (x y : State) : Prop :=
  match p with
  | .control => x.dev.host.enable = y.dev.host.enable ∧ x.dev.host.ready = y.dev.host.ready ∧
      x.dev.host.fatal = y.dev.host.fatal ∧ x.dev.host.activating = y.dev.host.activating ∧
      x.dev.host.cfgErr = y.dev.host.cfgErr ∧ x.dev.host.restart = y.dev.host.restart
  | .adminRegs => x.dev.host.asqBase = y.dev.host.asqBase ∧ x.dev.host.acqBase = y.dev.host.acqBase ∧
      x.dev.host.sizes = y.dev.host.sizes
  | .hver => x.dev.host.hver = y.dev.host.hver
  | .pairs => x.dev.host.qps = y.dev.host.qps
  | .weights => x.dev.host.wHigh = y.dev.host.wHigh ∧ x.dev.host.wMed = y.dev.host.wMed ∧
      x.dev.host.wLow = y.dev.host.wLow
  | .credits => x.dev.host.crHigh = y.dev.host.crHigh ∧ x.dev.host.crMed = y.dev.host.crMed ∧
      x.dev.host.crLow = y.dev.host.crLow ∧ x.dev.host.last = y.dev.host.last
  | .outstanding => x.dev.host.outst = y.dev.host.outst
  | .fetchNumber => x.dev.host.nextTag = y.dev.host.nextTag
  | .errorLog => x.dev.host.errLog = y.dev.host.errLog ∧ x.dev.host.errSeq = y.dev.host.errSeq
  | .hostCounters => x.dev.host.cnt = y.dev.host.cnt
  | .heldBack => x.dev.host.held = y.dev.host.held
  | .events => x.dev.evt.queue = y.dev.evt.queue ∧ x.dev.evt.seq = y.dev.evt.seq
  | .eventMask => x.dev.evt.mask = y.dev.evt.mask
  | .objects => x.dev.evt.objs = y.dev.evt.objs ∧ x.dev.evt.gens = y.dev.evt.gens
  | .reservations => x.dev.evt.resv = y.dev.evt.resv
  | .hostLink => x.dev.pcie.up = y.dev.pcie.up ∧ x.dev.pcie.rate = y.dev.pcie.rate ∧
      x.dev.pcie.width = y.dev.pcie.width
  | .pciCommand => x.dev.pcie.bme = y.dev.pcie.bme ∧ x.dev.pcie.d3hot = y.dev.pcie.d3hot
  | .msixTable => x.dev.pcie.funcMask = y.dev.pcie.funcMask ∧ x.dev.pcie.msix = y.dev.pcie.msix
  | .msixPending => x.dev.pcie.pba = y.dev.pcie.pba
  | .linkShort => x.dev.pcie.short = y.dev.pcie.short
  | .deliveryEpoch => x.dev.pcie.epoch = y.dev.pcie.epoch
  | .timeUnit => x.dev.tu.ns = y.dev.tu.ns ∧ x.dev.tu.frac = y.dev.tu.frac ∧ x.dev.tu.addend = y.dev.tu.addend ∧
      x.dev.tu.steps = y.dev.tu.steps ∧ x.dev.tu.held = y.dev.tu.held
  | .power => x.dev.pwr.state = y.dev.pwr.state ∧ x.dev.pwr.gate = y.dev.pwr.gate ∧ x.dev.pwr.wake = y.dev.pwr.wake ∧
      x.dev.pwr.heldReset = y.dev.pwr.heldReset ∧ x.dev.pwr.wakePin = y.dev.pwr.wakePin
  | .powerWaits => x.dev.pwr.reef = y.dev.pwr.reef ∧ x.dev.pwr.waits = y.dev.pwr.waits
  | .customerCores => x.dev.cores.c = y.dev.cores.c
  | .sharedPending => x.dev.cores.pend = y.dev.cores.pend
  | .sharedRouting => x.dev.cores.prio = y.dev.cores.prio ∧ x.dev.cores.target = y.dev.cores.target
  | .mailboxPause => x.dev.cores.paused = y.dev.cores.paused
  | .hostPosts => x.dev.cores.posts = y.dev.cores.posts ∧ x.dev.cores.seq = y.dev.cores.seq
  | .customerImage => x.dev.cores.image = y.dev.cores.image
  | .fuses => x.dev.sec.life = y.dev.sec.life ∧ x.dev.sec.lifeNext = y.dev.sec.lifeNext ∧
      x.dev.sec.slots = y.dev.sec.slots ∧ x.dev.sec.revoked = y.dev.sec.revoked ∧
      x.dev.sec.floorFw = y.dev.sec.floorFw ∧ x.dev.sec.floorCust = y.dev.sec.floorCust ∧
      x.dev.sec.udsLock = y.dev.sec.udsLock ∧ x.dev.sec.rmaDone = y.dev.sec.rmaDone
  | .debugGrant => x.dev.sec.level = y.dev.sec.level ∧ x.dev.sec.full = y.dev.sec.full ∧
      x.dev.sec.nonce = y.dev.sec.nonce ∧ x.dev.sec.halted = y.dev.sec.halted
  | .evidenceSeq => x.dev.sec.evSeq = y.dev.sec.evSeq
  | .staging => x.dev.sec.stFw = y.dev.sec.stFw ∧ x.dev.sec.stCust = y.dev.sec.stCust ∧
      x.dev.sec.stKeys = y.dev.sec.stKeys
  | .commitUnderWay => x.dev.sec.commit = y.dev.sec.commit
  | .flashImages => x.dev.sec.bankA = y.dev.sec.bankA ∧ x.dev.sec.bankB = y.dev.sec.bankB ∧
      x.dev.sec.cust = y.dev.sec.cust ∧ x.dev.sec.torn = y.dev.sec.torn ∧ x.dev.sec.sel = y.dev.sec.sel ∧
      x.dev.sec.selSeq = y.dev.sec.selSeq
  | .runningImages => x.dev.sec.bank = y.dev.sec.bank ∧ x.dev.sec.running = y.dev.sec.running ∧
      x.dev.sec.bootDigest = y.dev.sec.bootDigest ∧ x.dev.sec.activated = y.dev.sec.activated ∧
      x.dev.sec.custRun = y.dev.sec.custRun
  | .bootState => x.dev.boot.stage = y.dev.boot.stage ∧ x.dev.boot.cause = y.dev.boot.cause ∧
      x.dev.boot.stop = y.dev.boot.stop ∧ x.dev.boot.trip = y.dev.boot.trip ∧
      x.dev.boot.tripNext = y.dev.boot.tripNext ∧ x.dev.boot.fallback = y.dev.boot.fallback
  | .eventLog => x.dev.boot.log = y.dev.boot.log ∧ x.dev.boot.seq = y.dev.boot.seq ∧
      x.dev.boot.boots = y.dev.boot.boots
  | .activation => x.dev.boot.act = y.dev.boot.act
  | .thermalSettings => x.dev.thm.limit = y.dev.thm.limit ∧ x.dev.thm.throttle = y.dev.thm.throttle ∧
      x.dev.thm.slope = y.dev.thm.slope ∧ x.dev.thm.dfMin = y.dev.thm.dfMin ∧ x.dev.thm.shedMs = y.dev.thm.shedMs ∧
      x.dev.thm.pend = y.dev.thm.pend
  | .telemetry => x.dev.thm.sub = y.dev.thm.sub ∧ x.dev.thm.telNow = y.dev.thm.telNow
  | .tripCounter => x.dev.thm.tripped = y.dev.thm.tripped ∧ x.dev.thm.trips = y.dev.thm.trips
  | .temperatures => x.dev.thm.state = y.dev.thm.state ∧ x.dev.thm.ts = y.dev.thm.ts ∧
      x.dev.thm.prev = y.dev.thm.prev ∧ x.dev.thm.sampled = y.dev.thm.sampled ∧
      x.dev.thm.invalid = y.dev.thm.invalid ∧ x.dev.thm.jumps = y.dev.thm.jumps ∧ x.dev.thm.tj = y.dev.thm.tj ∧
      x.dev.thm.hot = y.dev.thm.hot ∧ x.dev.thm.share = y.dev.thm.share ∧ x.dev.thm.shed = y.dev.thm.shed ∧
      x.dev.thm.shedNs = y.dev.thm.shedNs ∧ x.dev.thm.shedArm = y.dev.thm.shedArm ∧ x.dev.thm.evNs = y.dev.thm.evNs ∧
      x.dev.thm.evOwed = y.dev.thm.evOwed ∧ x.dev.thm.nsThrottling = y.dev.thm.nsThrottling ∧
      x.dev.thm.nsAlarm = y.dev.thm.nsAlarm ∧ x.dev.thm.tjMax = y.dev.thm.tjMax ∧
      x.dev.thm.sampNs = y.dev.thm.sampNs ∧ x.dev.thm.owed = y.dev.thm.owed
  | .safetyConfiguration => x.dev.safe.cfg = y.dev.safe.cfg ∧ x.dev.safe.por = y.dev.safe.por ∧
      x.dev.safe.fwRev = y.dev.safe.fwRev
  | .proofTest => x.dev.safe.proofNs = y.dev.safe.proofNs ∧ x.dev.safe.proof = y.dev.safe.proof ∧
      x.dev.safe.proofCmds = y.dev.safe.proofCmds
  | .safetyState => x.dev.safe.held = y.dev.safe.held ∧ x.dev.safe.safeIn = y.dev.safe.safeIn ∧
      x.dev.safe.last = y.dev.safe.last ∧ x.dev.safe.lastAxis = y.dev.safe.lastAxis ∧
      x.dev.safe.count = y.dev.safe.count ∧ x.dev.safe.entry = y.dev.safe.entry ∧
      x.dev.safe.present = y.dev.safe.present ∧ x.dev.safe.history = y.dev.safe.history ∧
      x.dev.safe.good = y.dev.safe.good ∧ x.dev.safe.goodUp = y.dev.safe.goodUp ∧ x.dev.safe.seq = y.dev.safe.seq ∧
      x.dev.safe.missed = y.dev.safe.missed ∧ x.dev.safe.pathA = y.dev.safe.pathA ∧
      x.dev.safe.pathB = y.dev.safe.pathB ∧ x.dev.safe.cnt = y.dev.safe.cnt ∧ x.dev.safe.goodNs = y.dev.safe.goodNs ∧
      x.dev.safe.frameCrc = y.dev.safe.frameCrc
  | .lagoon => x.mem.lagoon = y.mem.lagoon
  | .windows => x.mem.win0 = y.mem.win0 ∧ x.mem.win1 = y.mem.win1
  | .tcms => x.mem.tcm0 = y.mem.tcm0 ∧ x.mem.tcm1 = y.mem.tcm1
  | .identity => x.dev.ident = y.dev.ident
  | .mirror => x.dev.mirror = y.dev.mirror
  | .lanes => x.dev.lanes = y.dev.lanes
  | .links => x.dev.links = y.dev.links
  | .sensorPorts => x.dev.ports = y.dev.ports
  | .syncGroups => x.dev.grps = y.dev.grps
  | .isles => x.dev.isles = y.dev.isles
  | .holmSessions => x.dev.holm = y.dev.holm
  | .encodeSessions => x.dev.enc = y.dev.enc
  | .ladderGroups => x.dev.ladders = y.dev.ladders
  | .encodeResets => x.dev.encReset = y.dev.encReset
  | .decodeSessions => x.dev.dec = y.dev.dec
  | .heads => x.dev.heads = y.dev.heads
  | .hbm => x.dev.hbm = y.dev.hbm
  | .media => x.dev.media = y.dev.media
  | .recordings => x.dev.recs = y.dev.recs
  | .mediaReads => x.dev.reads = y.dev.reads
  | .netPorts => x.dev.nets = y.dev.nets
  | .flows => x.dev.flows = y.dev.flows
  | .ptp => x.dev.ptp = y.dev.ptp
  | .audioPorts => x.dev.auds = y.dev.auds
  | .audioStreams => x.dev.auss = y.dev.auss
  | .integrityCounters => x.dev.integ = y.dev.integ
  | .axes => x.dev.axes = y.dev.axes
  | .axisRecords => x.dev.axrec = y.dev.axrec
  | .output => x.dev.out = y.dev.out
  | .freeValues => x.dev.free = y.dev.free

/-! What each command may change. -/

/-- What completing a command changes: its pair, the outstanding list, the error log and what leaves for the host
(02 R45-R47, R56, R66, R67, R72). -/
def answering : List Part := [.pairs, .outstanding, .errorLog, .heldBack, .msixPending, .output]

/-- What raising an event changes, with the EVENT_ARM that it completes (02 R61, R62). -/
def eventing : List Part := .events :: answering

/-- Everything but the parts named. -/
def allBut (kept : List Part) : List Part :=
  [.control, .adminRegs, .hver, .pairs, .weights, .credits, .outstanding, .fetchNumber,
   .errorLog, .hostCounters, .heldBack, .events, .eventMask, .objects, .reservations, .hostLink,
   .pciCommand, .msixTable, .msixPending, .linkShort, .deliveryEpoch, .timeUnit, .power, .powerWaits,
   .customerCores, .sharedPending, .sharedRouting, .mailboxPause, .hostPosts, .customerImage, .fuses, .debugGrant,
   .evidenceSeq, .staging, .commitUnderWay, .flashImages, .runningImages, .bootState, .eventLog, .activation,
   .thermalSettings, .telemetry, .tripCounter, .temperatures, .safetyConfiguration, .proofTest, .safetyState, .lagoon,
   .windows, .tcms, .identity, .mirror, .lanes, .links, .sensorPorts, .syncGroups,
   .isles, .holmSessions, .encodeSessions, .ladderGroups, .encodeResets, .decodeSessions, .heads, .hbm,
   .media, .recordings, .mediaReads, .netPorts, .flows, .ptp, .audioPorts, .audioStreams,
   .integrityCounters, .axes, .axisRecords, .output, .freeValues].filter fun p => !kept.contains p

/-- The parts that a command may change; every other part, and the queue of commands, stays as it is. For FUNCTION_LEVEL_RESET,
HOT_RESET, HOST_LINK_DOWN, DEBUG_PORT_RESUME, DEBUG_TOKEN UNLOCK and RELOCK the list holds where no POWER_STATE waits for a
halted core (20 R514). -/
def mayChange (i : Instr) : List Part :=
  match i with
  | .powerOn | .rstN | .pllLoss => allBut [.eventLog, .safetyConfiguration, .identity, .freeValues]
  | .supplyReset | .debugResetRequest => allBut [.timeUnit, .eventLog, .safetyConfiguration, .identity, .freeValues]
  | .aonSupplyLoss => allBut [.fuses, .eventLog, .safetyConfiguration, .identity, .freeValues]
  | .bootStageDone _ =>
      [.control, .hver, .timeUnit, .customerCores, .customerImage, .fuses, .flashImages, .runningImages, .bootState,
      .eventLog, .tcms, .hbm, .freeValues] ++ eventing
  | .adminReady | .adminNotReady => [.control]
  | .controllerEnable => [.control, .pairs, .credits, .hostCounters, .heldBack, .msixPending, .deliveryEpoch, .output]
  | .controllerDisable =>
      [.control, .reservations, .linkShort, .deliveryEpoch, .lanes, .sensorPorts, .isles, .encodeSessions, .heads,
      .recordings, .mediaReads, .audioPorts, .audioStreams] ++ eventing
  | .functionLevelReset | .hotReset =>
      [.control, .adminRegs, .weights, .credits, .hostCounters, .eventMask, .reservations, .pciCommand, .msixTable,
      .linkShort, .deliveryEpoch, .customerCores, .sharedPending, .debugGrant, .safetyState, .lanes, .sensorPorts,
      .isles, .encodeSessions, .heads, .hbm, .recordings, .mediaReads, .audioPorts, .audioStreams, .axes] ++ eventing
  | .hostLinkDown =>
      [.control, .adminRegs, .weights, .credits, .hostCounters, .eventMask, .reservations, .hostLink, .pciCommand,
      .msixTable, .linkShort, .deliveryEpoch, .customerCores, .sharedPending, .debugGrant, .safetyState, .lanes,
      .sensorPorts, .isles, .encodeSessions, .heads, .hbm, .recordings, .mediaReads, .audioPorts, .audioStreams,
      .axes] ++ eventing
  | .busMasterEnableWrite _ | .pmD0Return =>
      [.hostCounters, .heldBack, .pciCommand, .msixPending, .deliveryEpoch, .output]
  | .hostLinkL0Entry _ _ => [.hostCounters, .hostLink, .linkShort, .deliveryEpoch] ++ eventing
  | .l0pWidthChange _ => [.hostCounters, .hostLink, .linkShort] ++ eventing
  | .pmD3hotEntry => [.pciCommand, .deliveryEpoch]
  | .sqTailDoorbell _ _ | .cqHeadDoorbell _ _ => [.hostCounters] ++ eventing
  | .msixVectorUnmask _ => [.hostCounters, .msixTable, .msixPending, .output]
  | .registerWrite _ =>
      [.adminRegs, .hostCounters, .msixTable, .msixPending, .customerCores, .safetyConfiguration, .windows, .tcms,
      .hbm, .axes, .output]
  | .commandFetch _ => [.credits, .fetchNumber, .hostCounters] ++ answering
  | .intCoalesceTimeout _ => [.pairs, .heldBack, .msixPending, .output]
  | .identify _ | .qpCreate _ | .featureSetIntCoalesce _ | .featureSetQpClass _ | .featureGet _ | .logGet _
  | .flushDone _ | .linkDiagStatus _ | .linkDiagCounters _ | .sensorCtrlCounters _ | .mediaAttachInfo _
  | .timeGetRead _ | .timeGetStatus _ | .audStreamStatus _ | .safetyStatus _ | .attestCerts _ | .telemetrySnapshot _ =>
      answering
  | .qpDelete _ | .qpReset _ | .abort _ =>
      [.reservations, .linkShort, .lanes, .sensorPorts, .isles, .encodeSessions, .heads, .recordings, .mediaReads,
      .audioPorts, .audioStreams, .freeValues] ++ eventing
  | .featureSetArbitration _ => [.weights] ++ answering
  | .featureSetEventConfig _ => [.eventMask] ++ answering
  | .featureSetMemory _ => [.hbm] ++ answering
  | .coreLinkVector _ | .coreLinkPost _ | .coreLinkStop _ => [.customerCores] ++ answering
  | .coreLinkRestart _ => [.customerCores, .customerImage, .runningImages, .tcms] ++ answering
  | .flush _ | .recOpen _ | .nvmeWriteDone _ _ _ _ | .nvmeFlushDone _ _ _ | .nvmeTimeout _ _ | .recCommitTimeout _ =>
      [.objects, .reservations, .linkShort, .recordings] ++ eventing
  | .eventArm _ => eventing
  | .mirrorUpdate => [.mirror]
  | .linkDiagEyeScan _ | .linkDiagCounterClear _ | .eyeScanDone _ _ => [.lanes] ++ answering
  | .trainReqTimer _ | .retrainTimer _ | .bcSleepTimer _ => [.lanes, .links, .sensorPorts, .output]
  | .noResponseTimeout _ | .failRetry _ | .laneLockLoss _ _ _ => [.lanes, .links] ++ eventing
  | .trainBlockRx _ _ | .commaBlockRx _ _ | .alignTimeout _ | .sleepBlockRx _ _ | .wakeTimeout _ _ | .portConfig _
  | .smiwaldHunt _ _ => [.lanes, .links, .sensorPorts] ++ eventing
  | .adaptationDone _ _ | .presetAck _ _ _ | .presetAckTimeout _ =>
      [.lanes, .links, .sensorPorts, .freeValues] ++ eventing
  | .laneRecalTimer _ => [.lanes, .freeValues]
  | .fomMeasure _ _ => [.lanes] ++ eventing
  | .groupConfig _ => [.syncGroups] ++ answering
  | .captureStart _ =>
      [.objects, .reservations, .linkShort, .sensorPorts, .syncGroups, .isles, .axisRecords, .freeValues] ++ eventing
  | .captureStop _ =>
      [.objects, .reservations, .linkShort, .customerCores, .sharedPending, .lanes, .links, .sensorPorts,
      .syncGroups, .isles, .holmSessions, .encodeSessions, .heads, .hbm, .flows, .integrityCounters] ++ eventing
  | .captureStopDone _ =>
      [.objects, .reservations, .linkShort, .sensorPorts, .syncGroups, .isles, .encodeSessions] ++ eventing
  | .frameTrigger _ _ =>
      [.objects, .reservations, .linkShort, .sharedPending, .lanes, .links, .sensorPorts, .syncGroups, .isles,
      .holmSessions, .encodeSessions, .integrityCounters, .axisRecords] ++ eventing
  | .genlockInEdge _ _ => [.timeUnit, .customerCores, .sharedPending, .syncGroups, .heads, .ptp] ++ eventing
  | .genlockTimeout _ | .genlockStartTimeout _ => [.syncGroups] ++ eventing
  | .fsPacket _ _ | .fePacket _ _ =>
      [.reservations, .linkShort, .customerCores, .sharedPending, .lanes, .links, .sensorPorts, .syncGroups, .isles,
      .holmSessions, .encodeSessions, .heads, .hbm, .flows, .integrityCounters] ++ eventing
  | .linePacket _ _ => [.lanes, .links, .sensorPorts, .holmSessions, .integrityCounters] ++ eventing
  | .embeddedPacket _ _ | .ctrlRespPacket _ _ | .unknownTypePacket _ _ =>
      [.lanes, .links, .sensorPorts, .integrityCounters] ++ eventing
  | .lineTimeout _ | .fsDeadline _ =>
      [.reservations, .linkShort, .customerCores, .sharedPending, .sensorPorts, .syncGroups, .isles, .holmSessions,
      .encodeSessions, .heads, .hbm, .flows, .integrityCounters] ++ eventing
  | .sensorCtrlWrite _ | .sensorCtrlRead _ => [.lanes, .links, .sensorPorts] ++ answering
  | .sensorCtrlTiming _ | .sensorNoResponse _ _ => [.sensorPorts] ++ answering
  | .frameFetch _ => [.reservations, .linkShort, .sensorPorts] ++ eventing
  | .frameFetchDone _ => [.reservations, .linkShort, .sensorPorts, .hbm, .integrityCounters] ++ eventing
  | .tileRowStart _ =>
      [.reservations, .linkShort, .sensorPorts, .isles, .encodeSessions, .heads, .hbm, .flows, .integrityCounters] ++
      eventing
  | .isleFrameStart _ _ =>
      [.reservations, .linkShort, .sensorPorts, .isles, .encodeSessions, .heads, .hbm, .flows] ++ eventing
  | .commandDeferTimeout _ => [.isles, .encodeSessions] ++ answering
  | .isleConfig _ | .feTableLoad _ | .cfaKernelLoad _ | .colourLoadParams _ | .colourLoadBlendGrid _
  | .colourLoadTapOutput _ | .lookSelect _ | .tapConfigEnable _ | .tapConfigDisable _ | .encReconfig _ =>
      [.reservations, .linkShort, .isles, .encodeSessions] ++ eventing
  | .statsSubscribeStart _ | .statsSubscribeStop _ | .statsRecord _ _ =>
      [.reservations, .linkShort, .isles] ++ eventing
  | .blendGridUpdate _ _ | .katExpectedReady _ _ => [.isles]
  | .colourLoadLook _ => [.isles] ++ answering
  | .tapRingFrameDone _ _ => [.isles] ++ eventing
  | .encOpen _ => [.objects, .reservations, .linkShort, .isles, .encodeSessions, .ladderGroups] ++ eventing
  | .encForce _ => [.encodeSessions] ++ answering
  | .encClose _ => [.objects, .isles, .encodeSessions] ++ eventing
  | .encCloseDone _ =>
      [.objects, .reservations, .linkShort, .isles, .encodeSessions, .ladderGroups, .recordings, .netPorts, .flows]
      ++ eventing
  | .encPictureDone _ _ _ =>
      [.isles, .encodeSessions, .hbm, .recordings, .netPorts, .flows, .integrityCounters] ++ eventing
  | .encRowDone _ _ =>
      [.objects, .reservations, .linkShort, .isles, .encodeSessions, .ladderGroups, .hbm, .recordings, .netPorts,
      .flows, .integrityCounters] ++ eventing
  | .motionFieldDone _ _ _ => [.ladderGroups]
  | .encParityError _ | .encPictureTimeout _ | .encRowTimeout _ =>
      [.isles, .encodeSessions, .encodeResets] ++ eventing
  | .encEngineResetDone _ => [.encodeResets]
  | .holmOpen _ => [.objects, .reservations, .linkShort, .holmSessions] ++ eventing
  | .holmClose _ => [.objects, .holmSessions] ++ answering
  | .holmCloseDone _ =>
      [.objects, .reservations, .linkShort, .holmSessions, .hbm, .recordings, .netPorts, .flows, .integrityCounters]
      ++ eventing
  | .holmRowDone _ _ => [.holmSessions, .hbm, .integrityCounters] ++ eventing
  | .holmAuDone _ => [.holmSessions, .hbm, .recordings, .netPorts, .flows, .integrityCounters] ++ eventing
  | .holmParityError _ | .holmRowTimeout _ => [.holmSessions] ++ eventing
  | .decOpen _ => [.objects, .reservations, .linkShort, .sensorPorts, .decodeSessions] ++ eventing
  | .decSubmit _ => [.decodeSessions, .hbm] ++ eventing
  | .decClose _ =>
      [.objects, .reservations, .linkShort, .sensorPorts, .isles, .encodeSessions, .decodeSessions, .heads,
      .mediaReads] ++ eventing
  | .decPictureDone _ _ => [.decodeSessions, .hbm, .integrityCounters] ++ eventing
  | .decPicturePresent _ => [.sensorPorts, .isles, .decodeSessions, .hbm, .axisRecords] ++ eventing
  | .decParityError _ | .decPictureTimeout _ => [.decodeSessions, .freeValues] ++ eventing
  | .katCompare _ _ _ => [.reservations, .linkShort, .isles, .encodeSessions, .integrityCounters] ++ eventing
  | .hbmRefresh _ _ => [.hbm]
  | .hbmTraining _ _ | .scrubRead _ | .bankPressureInterval _ _ => [.hbm] ++ eventing
  | .lagoonScrub _ => [.sensorPorts, .hbm] ++ eventing
  | .lagoonRepair _ _ => [.lagoon, .hbm]
  | .mediumInserted _ | .mediumInitDone _ _ => [.media] ++ eventing
  | .mediumRemoved _ | .mediaLinkDown _ _ =>
      [.objects, .reservations, .linkShort, .media, .recordings, .mediaReads] ++ eventing
  | .mediaAttachAttach _ | .mediaAttachDetach _ | .nvmeShutdownDone _ _ | .ioQueuesCreated _ => [.media] ++ answering
  | .recExtents _ => [.recordings] ++ eventing
  | .recCommit _ => [.recordings] ++ answering
  | .recClose _ | .recItemReady _ _ =>
      [.objects, .reservations, .linkShort, .hbm, .recordings, .integrityCounters] ++ eventing
  | .commitTimer _ => [.recordings, .output]
  | .mediaReadBlocks _ | .mediaReadItems _ => [.mediaReads] ++ answering
  | .nvmeReadDone _ _ => [.decodeSessions, .hbm, .mediaReads, .integrityCounters] ++ eventing
  | .netConfig _ => [.reservations, .linkShort, .lanes, .netPorts] ++ eventing
  | .netLinkChange _ _ _ => [.sharedPending, .lanes, .netPorts, .ptp] ++ eventing
  | .firmwareProtocolRx _ _ _ | .ptpDelayReqRx _ _ | .ptpManagementRx _ => [.netPorts, .output]
  | .chainForward _ _ => [.netPorts] ++ eventing
  | .ptpConfig _ => [.sharedPending, .ptp] ++ eventing
  | .ptpSyncRx _ _ | .ptpFollowUpRx _ | .ptpDelayRespRx _ =>
      [.timeUnit, .customerCores, .sharedPending, .heads, .netPorts, .ptp] ++ eventing
  | .ptpAnnounceRx _ => [.sharedPending, .netPorts, .ptp] ++ eventing
  | .ptpSyncTx _ _ | .ptpAnnounceTx _ | .ptpDelayReqTx _ _ => [.netPorts, .ptp, .output]
  | .syncHoldoverTimeout _ => [.timeUnit, .sharedPending, .ptp] ++ eventing
  | .timeGetSet _ | .ltcInFrame _ _ => [.timeUnit, .customerCores, .sharedPending, .heads, .ptp] ++ eventing
  | .flowOpen _ | .flowCloseDone _ => [.objects, .reservations, .linkShort, .isles, .netPorts, .flows] ++ eventing
  | .flowClose _ => [.objects, .isles, .netPorts, .flows] ++ answering
  | .flowFrameTx _ _ => [.isles, .hbm, .netPorts, .flows, .integrityCounters] ++ eventing
  | .audioPacketTx _ _ _ => [.netPorts, .flows] ++ eventing
  | .rxFlowPacket _ _ => [.decodeSessions, .hbm, .netPorts, .flows] ++ eventing
  | .ltcInLost => [.ptp] ++ eventing
  | .ltcOutFrame _ => [.output]
  | .headConfigEnable _ => [.reservations, .isles, .heads] ++ answering
  | .headConfigDisable _ | .headCommit _ => [.heads] ++ answering
  | .commitCopyDone _ => [.heads, .hbm] ++ eventing
  | .headFrameSelect _ _ => [.isles, .heads]
  | .headFrameStart _ | .sourceGap _ =>
      [.reservations, .linkShort, .isles, .decodeSessions, .heads, .hbm, .flows, .integrityCounters] ++ eventing
  | .dpHpd _ | .dpLinkTrained _ _ _ => [.heads] ++ eventing
  | .audConfigEnable _ | .audEnableDone _ | .audNoClockTimeout _ | .audDisableDone _ =>
      [.reservations, .linkShort, .audioPorts] ++ eventing
  | .audConfigDisable _ => [.audioPorts] ++ answering
  | .audClockLoss _ | .audClockRestored _ => [.audioPorts] ++ eventing
  | .audStreamOpen _ | .audStreamClose _ | .audPlaybackRead _ _ =>
      [.objects, .reservations, .linkShort, .audioStreams] ++ eventing
  | .audStreamMask _ => [.audioStreams] ++ answering
  | .audPeriodDone _ _ => [.objects, .reservations, .linkShort, .hbm, .recordings, .audioStreams] ++ eventing
  | .axisConfigEnable _ | .axisConfigDisable _ | .axisConfigTimeout _ => [.axes] ++ answering
  | .axisGridSample _ _ | .axisIndex _ _ => [.sharedPending, .safetyState, .axes, .freeValues] ++ eventing
  | .encoderReadDone _ _ | .axisFault _ _ | .skerryLinkFrame _ | .safeInDemand | .heartbeatLoss | .configMismatch
  | .lockstep | .siWatchdog | .siMemory | .siSelftest | .clockCompute | .clockSkerry | .supply | .skerryInternal
  | .outputReadback _ | .safetyConfigForce _ => [.sharedPending, .safetyState, .axes] ++ eventing
  | .axisFaultClear _ | .pwmPeriodStart _ | .pwmCmdTimeout _ => [.safetyState, .axes] ++ eventing
  | .latchInstantRx _ _ => [.safetyState, .axes, .axisRecords]
  | .latchResolve _ => [.axes, .axisRecords]
  | .computeLinkFrame _ _ | .safeInRelease => [.safetyState]
  | .linkPathChange _ _ => [.sharedPending, .safetyState] ++ eventing
  | .posSnapshotLoad _ _ | .irqSpuriousRead _ | .tmrCountRead _ _ | .timeSnapshotLoad _ | .mbxInPop _
  | .customerAccessFault _ _ _ => [.customerCores, .output]
  | .posPresetWrite _ _ _ | .pwmCmdWrite _ _ _ | .pwmArmWrite _ _ _ | .brakeRelWrite _ _ _ =>
      [.customerCores, .axes, .output]
  | .posErrCntRead _ _ => [.axes, .output]
  | .skerryPor | .safetyConfigLoad _ => [.sharedPending, .safetyConfiguration, .safetyState, .axes] ++ eventing
  | .safetyConfigReset _ => [.sharedPending, .safetyState, .freeValues] ++ eventing
  | .safetyConfigProofTest _ | .proofTestDone _ => [.sharedPending, .proofTest, .safetyState, .axes] ++ eventing
  | .irqClaim _ => [.customerCores, .sharedPending, .output]
  | .irqComplete _ _ | .sgiWrite _ _ | .tmrExpiry _ _ | .mbxOutPush _ _ => [.customerCores]
  | .irqTargetWrite _ _ _ => [.customerCores, .sharedRouting]
  | .mbxOutTake _ => [.heldBack, .msixPending, .customerCores, .hostPosts, .output]
  | .fwDownload _ => [.staging] ++ answering
  | .fwCommitWrite _ | .fwCommitWriteAndSelect _ | .fwCommitSelectOnly _ | .fwCommitCustomer _ =>
      [.commitUnderWay, .eventLog] ++ answering
  | .fwCommitKeys _ => [.fuses, .staging, .eventLog] ++ answering
  | .flashWriteDone _ _ => [.fuses, .staging, .commitUnderWay, .flashImages, .eventLog] ++ answering
  | .fwActivate _ => [.activation] ++ answering
  | .activationStop => [.control, .customerCores, .mailboxPause, .activation, .lanes, .mediaReads] ++ eventing
  | .activationHoldTimeout | .activationVerifyFailed => [.eventLog, .activation] ++ answering
  | .activationSwitch _ =>
      [.control, .hver, .customerCores, .mailboxPause, .runningImages, .eventLog, .activation] ++ eventing
  | .engineWatchdog _ =>
      [.control, .reservations, .linkShort, .powerWaits, .mailboxPause, .commitUnderWay, .flashImages, .eventLog,
      .activation, .lanes, .sensorPorts, .isles, .encodeSessions, .heads, .recordings, .mediaReads, .audioPorts,
      .audioStreams, .freeValues] ++ eventing
  | .attestEvidence _ => [.evidenceSeq] ++ answering
  | .debugTokenChallenge _ => [.debugGrant, .freeValues] ++ answering
  | .debugTokenUnlock _ | .debugTokenRelock _ | .debugPortHalt _ =>
      [.customerCores, .sharedPending, .debugGrant, .safetyState, .axes] ++ eventing
  | .debugTokenTransition _ => [.fuses, .debugGrant, .eventLog] ++ answering
  | .powerStateRun _ | .powerStateReduced _ | .powerStateShoal _ =>
      [.timeUnit, .power, .powerWaits, .sharedPending, .lanes, .links, .netPorts, .ptp] ++ eventing
  | .powerStateReef _ => allBut [.fuses, .eventLog, .safetyConfiguration, .proofTest, .identity, .freeValues]
  | .reefWake => allBut [.timeUnit, .eventLog, .safetyConfiguration, .proofTest, .safetyState, .identity, .freeValues]
  | .reefWakeEvent _ => [.power, .output]
  | .sensorSample _ =>
      [.sharedPending, .thermalSettings, .telemetry, .temperatures, .safetyState, .axes, .freeValues] ++ eventing
  | .sensorFault _ _ => [.temperatures] ++ eventing
  | .shedStep =>
      [.objects, .reservations, .linkShort, .customerCores, .sharedPending, .temperatures, .lanes, .links,
      .sensorPorts, .syncGroups, .isles, .holmSessions, .encodeSessions, .ladderGroups, .decodeSessions, .heads,
      .hbm, .recordings, .mediaReads, .netPorts, .flows, .audioStreams, .integrityCounters] ++ eventing
  | .thermalTrip _ _ => allBut [.fuses, .safetyConfiguration, .proofTest, .safetyState, .identity, .freeValues]
  | .thermalConfig _ => [.thermalSettings] ++ answering
  | .telemetrySubscribe _ | .telemetryUnsubscribe _ => [.telemetry] ++ answering
  | .telemetryRecord => [.heldBack, .msixPending, .telemetry, .output]
  | .debugPortResume _ => [.customerCores, .debugGrant]
  | .audFirstFsync _ _ => [.audioPorts]

/-- A command changes no part beyond its own, and never the queue. -/
def Keeps (i : Instr) : Prop :=
  ∀ s t : State, exec i s = .next t → t.pending = s.pending ∧ ∀ p : Part, p ∉ mayChange i → p.same s t

/-- The same of a command that may release what waits for a halted core, where nothing waits (20 R514). -/
def KeepsIdle (i : Instr) : Prop :=
  ∀ s t : State, s.dev.pwr.waits = [] → exec i s = .next t →
    t.pending = s.pending ∧ ∀ p : Part, p ∉ mayChange i → p.same s t

/-! What a reset leaves (22 R531, R532). -/

/-- `t` is `s` after a reset of the compute die with a cause: the boot at its first stage, the memories, the host function,
the events and every session at reset, the safe state held; the event log, the fuses and the monitoring configuration stand. -/
def AfterReset (cause : Nat) (s t : State) : Prop :=
  t.pending = s.pending ∧ t.mem = {} ∧ t.dev.boot.stage = 0 ∧ t.dev.boot.cause = cause ∧
  t.dev.host = {} ∧ t.dev.evt = {} ∧ t.dev.pcie = {} ∧ t.dev.cores = {} ∧ t.dev.ports = ({} : Dev).ports ∧
  t.dev.links = ({} : Dev).links ∧ t.dev.isles = ({} : Dev).isles ∧ t.dev.heads = ({} : Dev).heads ∧
  t.dev.enc = [] ∧ t.dev.dec = [] ∧ t.dev.holm = [] ∧ t.dev.recs = [] ∧ t.dev.flows = [] ∧ t.dev.auss = [] ∧
  t.dev.safe.held = true ∧ (∀ a, (axisOf t.dev a).arm = false ∧ (axisOf t.dev a).applied = 0) ∧
  t.dev.safe.cfg = s.dev.safe.cfg ∧ t.dev.boot.log = s.dev.boot.log ∧
  t.dev.boot.boots = s.dev.boot.boots ∧ t.dev.sec.floorFw = s.dev.sec.floorFw ∧
  t.dev.sec.floorCust = s.dev.sec.floorCust ∧ t.dev.sec.life = s.dev.sec.lifeNext ∧ t.dev.thm.trips = s.dev.thm.trips

/-! What a function reset leaves (02 R38). -/

/-- `t` is `s` after an FLR, a hot reset or a link down: the controller disabled, the registers and features of the host
interface at reset, and the rest of the device's work standing. -/
def FunctionReset (s t : State) : Prop :=
  t.dev.host.enable = false ∧ t.dev.host.qps = [] ∧ t.dev.host.asqBase = 0 ∧ t.dev.host.acqBase = 0 ∧
  t.dev.host.sizes = 0 ∧ t.dev.host.wHigh = 15 ∧ t.dev.host.wMed = 7 ∧ t.dev.host.wLow = 3 ∧
  t.dev.host.cnt.flr = s.dev.host.cnt.flr + 1 ∧ t.dev.evt.mask = 0x1FFE ∧ t.dev.pcie.msix = [] ∧ t.dev.pcie.pba = [] ∧
  t.dev.pcie.bme = false ∧ t.dev.hbm.hash = s.dev.hbm.hash ∧ t.dev.hbm.hours = 24 ∧ t.dev.hbm.ceLimit = 4 ∧
  (∀ c : CoreId, (core t.dev c).vector = 0) ∧ t.dev.evt.objs = s.dev.evt.objs ∧ t.dev.grps = s.dev.grps ∧
  t.dev.tu = s.dev.tu ∧ t.dev.sec.level = 0 ∧ t.dev.sec.nonce = none

/-- From `s` to `t` a doorbell is refused: counted, no tail or head moved, and DOORBELL_INVALID queued where it can be
(02 R42, R62, R64). -/
def RefusedDoorbell (q : Nat) (v : Word) (cq : Bool) (s t : State) : Prop :=
  t.dev.host.cnt.badDb = s.dev.host.cnt.badDb + 1 ∧
  (∀ q' p, getQp s.dev q' = some p → ∃ p', getQp t.dev q' = some p' ∧ p'.sqTail = p.sqTail ∧ p'.cqHead = p.cqHead) ∧
  (bitOf s.dev.evt.mask 12 = true → oldestArm s.dev = none → s.dev.evt.queue.length < 63 →
    t.dev.evt.queue = s.dev.evt.queue ++ [{
      cls := 12, code := 2, handle := 0, ns32 := s.dev.tu.ns % 2 ^ 32, seq := s.dev.evt.seq
      detail := q + b2n cq * 2 ^ 12 + v.toNat % 65536 * 2 ^ 16 }])

/-! Units that a row does not name. -/

/-- The links of the other sensor ports stay as they are. -/
def OtherLinksStay (p : PortId) (s t : State) : Prop := ∀ q, q ≠ p → link t.dev q = link s.dev q

/-- The port's sequencer waits for TRAIN blocks (03 R86, R563). -/
def TrainBlocksAwaited (s : State) (p : PortId) : Prop :=
  (link s.dev p).state = 1 ∨ (link s.dev p).state = 2 ∧ (link s.dev p).retrain = true

/-- The sequencer of a port stays as it is; its back channel may not (03 R85, R93). -/
def SequencerStays (p : PortId) (s t : State) : Prop :=
  link s.dev p = { link t.dev p with
    bcq := (link s.dev p).bcq, bcAsleep := (link s.dev p).bcAsleep, bcFree := (link s.dev p).bcFree
    askedNs := (link s.dev p).askedNs, req := (link s.dev p).req }

/-- The back channel of a port is free for a frame now: none waits, it is awake, its two K28.5 have passed, a character
begins now, and no trigger is scheduled within 3 us (03 R91, R93, R95). -/
def BcFree (s : State) (p : PortId) : Prop :=
  (link s.dev p).bcq = [] ∧ (link s.dev p).bcAsleep = false ∧ (link s.dev p).bcFree ≤ s.dev.tu.ns ∧
  (s.dev.tu.ns - (link s.dev p).bcFree) % 40 = 0 ∧ ∀ b, bcGuard s.dev p = some b → s.dev.tu.ns + 3000 ≤ b

/-- From `s` to `t` a frame is handed to the port's back channel: a free one sends it at once, a busy one keeps it behind
those that wait (03 R91-R93). -/
def HandsOver (p : PortId) (cls : Nat) (payload : List Byte) (s t : State) (tag : Option Byte := none) : Prop :=
  (BcFree s p → ∃ l o, t.dev.out = l ++ .bc p s.dev.tu.ns (bcChars cls payload) :: o ++ s.dev.out) ∧
  (s.dev.tu.ns < (link s.dev p).bcFree →
    (link t.dev p).bcq = (link s.dev p).bcq ++ [{ cls, payload, ns := s.dev.tu.ns, tag }])

/-- The block time is a SLEEP block time of the port, light or deep (03 R81, R82, R95). -/
def SleepBlock (d : Dev) (p : PortId) (b : BlkTime) (deep : Bool) : Prop :=
  ∃ l bytes, (timeLanes d p b).find? (fun x => x.2.1 == some false) = some (l, some false, bytes) ∧
    timeKind ((timeLanes d p b).map fun x => x.2.1) = some false ∧ le bytes 0 1 = cbSleep ∧
    le (descramble (lane d l).scr (bytes.drop 1)).1 0 1 = b2n deep

/-- The lane is in a state that allows an eye scan (03 R104, R106). -/
def ScanAllowed (s : State) (l : LaneId) : Prop :=
  scanAllowed s.dev l (fun n => netUp s.dev ⟨n % 2, Nat.mod_lt _ (by decide)⟩) = true

/-! Events and shadow copies in statements. -/

/-- An event of the class raised in `s` joins the queue: the class is enabled, no EVENT_ARM waits and the queue has room. -/
def Queues (s : State) (cls : Nat) : Prop :=
  bitOf s.dev.evt.mask cls = true ∧ oldestArm s.dev = none ∧ s.dev.evt.queue.length < 63

/-- The entry an event raised in `s` takes (02 R61, R62). -/
def newEvent (s : State) (cls code handle detail : Nat) : Event :=
  { cls, code, handle, ns32 := ns32 s.dev, seq := s.dev.evt.seq, detail }

/-- What a cause leaves (18 R465, R467, R468): the safe state is held and the cause present; a new cause is LAST_FAULT, is counted
and heads the history; on entry ARM and BRAKE_REL of every channel are 0, SAFE_OK and STO_OUT go low, source 40 pends and
SAFETY_STATE joins the queue where it can; in the safe state nothing is entered again. -/
def ForcedBy (code axis : Nat) (s : State) (o : Host.Outcome State Fault Refusal) : Prop :=
  ∃ t, o = .next t ∧ t.dev.safe.held = true ∧ (∃ k ∈ t.dev.safe.present, k.code = code ∧ k.axis = axis) ∧
    ((∀ k ∈ s.dev.safe.present, k.code ≠ code ∨ k.axis ≠ axis) → t.dev.safe.last = code ∧ t.dev.safe.lastAxis = axis ∧
      t.dev.safe.count = min (s.dev.safe.count + 1) 0xFFFFFFFF ∧
      t.dev.safe.history.head? = some { ns32 := ns32 s.dev, code, axis, entered := true }) ∧
    (s.dev.safe.held = false → t.dev.safe.entry = s.dev.tu.ns ∧
      (∀ a, (axisOf t.dev a).arm = false ∧ (axisOf t.dev a).brk = false ∧ (axisOf t.dev a).applied = 0) ∧
      bitOf t.dev.cores.pend 8 = true ∧ (Queues s 9 → (∃ l, t.dev.out = .pin 4 0 :: .pin 3 0 :: l ++ s.dev.out) ∧
        t.dev.evt.queue = s.dev.evt.queue ++ [newEvent s 9 0x10 0 (code + axis * 2 ^ 8 + ns32 s.dev * 2 ^ 32)])) ∧
    (s.dev.safe.held = true → t.dev.safe.entry = s.dev.safe.entry ∧ t.dev.evt = s.dev.evt ∧ t.dev.axes = s.dev.axes)

/-- The shadow copy that a command makes (05 R160). -/
def newShadow (c : Outst) (kind idx sub : Nat) (p : PortId) (apply : Nat) (bytes : List Byte) : Shadow :=
  { kind, idx, sub, port := p.val, apply, minT := c.ns + 100000, cmd := c.tag, bytes, deferred := false }

/-- The outcome of a command with a shadow copy (05 R160): while the port it counts on captures or plays, the copy waits and what is
active stands; otherwise it is active at once, as `P` says, and the command completes with RESULT 0xFFFFFFFF. -/
def Shadowed (s : State) (c : Outst) (i : IsleId) (sh : Shadow) (P : Dev → Prop)
    (o : Host.Outcome State Fault Refusal) : Prop :=
  (counting s.dev (portOf sh.port) = true →
    ∃ d, o = .next (s.await c .waiting d) ∧ (isle d i).shadows = (isle s.dev i).shadows ++ [sh] ∧
      (∀ p, (ctxOf d i p).pipe = (ctxOf s.dev i p).pipe) ∧ (isle d i).taps = (isle s.dev i).taps ∧
      (isle d i).tapOut = (isle s.dev i).tapOut ∧ (isle d i).route = (isle s.dev i).route) ∧
  (counting s.dev (portOf sh.port) = false →
    ∃ d, o = .next (s.finish c 0 0xFFFFFFFF 0 d) ∧ (isle d i).shadows = (isle s.dev i).shadows ∧ P d)

/-- The session in the slot is x, and no other encode session has its slot or its handle. -/
def OneEnc (s : State) (slot : Nat) (x : EncSes) : Prop :=
  tabGet s.dev.enc slot = some x ∧ ∀ p ∈ s.dev.enc, p.1 = slot ∨ p.2.handle = x.handle → p = (slot, x)

/-- The other contexts of the Isle keep their pipes. -/
def OtherPipesStay (s : State) (d : Dev) (i : IsleId) (p : PortId) : Prop :=
  ∀ q, q ≠ p → (ctxOf d i q).pipe = (ctxOf s.dev i q).pipe

/-! Families of commands. -/

/-- Where a command acts. -/
inductive Family where
  /-- the host interface, resets, boot, power, security, temperatures and the customer cores (02, 19-22) -/
  | control
  /-- the sensor links, capture, the Isles, the codecs and the memory (03-12) -/
  | pictures
  /-- media, clocks, networks, displays, audio, motion and safety (13-18) -/
  | surroundings
deriving DecidableEq, Repr

/-- The family of a command. -/
def familyOf (i : Instr) : Family :=
  match i with
  | .powerOn | .rstN | .pllLoss | .supplyReset | .debugResetRequest | .aonSupplyLoss | .bootStageDone _
  | .adminReady | .adminNotReady | .controllerEnable | .controllerDisable | .functionLevelReset | .hotReset
  | .hostLinkDown | .busMasterEnableWrite _ | .hostLinkL0Entry _ _ | .l0pWidthChange _ | .pmD3hotEntry
  | .pmD0Return | .sqTailDoorbell _ _ | .cqHeadDoorbell _ _ | .msixVectorUnmask _ | .registerWrite _
  | .commandFetch _ | .intCoalesceTimeout _ | .identify _ | .qpCreate _ | .qpDelete _ | .qpReset _
  | .featureSetArbitration _ | .featureSetIntCoalesce _ | .featureSetEventConfig _ | .featureSetQpClass _
  | .coreLinkVector _ | .coreLinkPost _ | .coreLinkRestart _ | .coreLinkStop _ | .featureGet _ | .logGet _
  | .abort _ | .flush _ | .flushDone _ | .eventArm _ | .mirrorUpdate | .irqClaim _ | .irqComplete _ _
  | .irqSpuriousRead _ | .sgiWrite _ _ | .irqTargetWrite _ _ _ | .tmrExpiry _ _ | .tmrCountRead _ _
  | .timeSnapshotLoad _ | .mbxOutPush _ _ | .mbxInPop _ | .mbxOutTake _ | .customerAccessFault _ _ _
  | .fwDownload _ | .fwCommitWrite _ | .fwCommitWriteAndSelect _ | .fwCommitSelectOnly _ | .fwCommitCustomer _
  | .fwCommitKeys _ | .flashWriteDone _ _ | .fwActivate _ | .activationStop | .activationHoldTimeout
  | .activationSwitch _ | .engineWatchdog _ | .attestEvidence _ | .attestCerts _ | .debugTokenChallenge _
  | .debugTokenUnlock _ | .debugTokenRelock _ | .debugTokenTransition _ | .powerStateRun _ | .powerStateReduced _
  | .powerStateShoal _ | .powerStateReef _ | .reefWake | .reefWakeEvent _ | .sensorSample _ | .sensorFault _ _
  | .shedStep | .thermalTrip _ _ | .thermalConfig _ | .telemetrySnapshot _ | .telemetrySubscribe _
  | .telemetryUnsubscribe _ | .telemetryRecord | .debugPortHalt _ | .debugPortResume _ | .activationVerifyFailed
    => .control
  | .featureSetMemory _ | .linkDiagStatus _ | .linkDiagCounters _ | .linkDiagCounterClear _ | .eyeScanDone _ _
  | .trainReqTimer _ | .retrainTimer _ | .noResponseTimeout _ | .failRetry _ | .trainBlockRx _ _
  | .adaptationDone _ _ | .presetAck _ _ _ | .presetAckTimeout _ | .commaBlockRx _ _ | .alignTimeout _
  | .laneLockLoss _ _ _ | .sleepBlockRx _ _ | .wakeTimeout _ _ | .bcSleepTimer _ | .laneRecalTimer _
  | .fomMeasure _ _ | .portConfig _ | .groupConfig _ | .captureStart _ | .captureStop _ | .captureStopDone _
  | .frameTrigger _ _ | .genlockTimeout _ | .genlockStartTimeout _ | .smiwaldHunt _ _ | .fsPacket _ _
  | .fePacket _ _ | .linePacket _ _ | .embeddedPacket _ _ | .ctrlRespPacket _ _ | .unknownTypePacket _ _
  | .lineTimeout _ | .fsDeadline _ | .sensorCtrlWrite _ | .sensorCtrlRead _ | .sensorCtrlTiming _
  | .sensorCtrlCounters _ | .sensorNoResponse _ _ | .frameFetch _ | .frameFetchDone _ | .tileRowStart _
  | .isleFrameStart _ _ | .commandDeferTimeout _ | .isleConfig _ | .feTableLoad _ | .statsSubscribeStart _
  | .statsSubscribeStop _ | .statsRecord _ _ | .blendGridUpdate _ _ | .cfaKernelLoad _ | .colourLoadParams _
  | .colourLoadBlendGrid _ | .colourLoadLook _ | .colourLoadTapOutput _ | .lookSelect _ | .tapConfigEnable _
  | .tapConfigDisable _ | .tapRingFrameDone _ _ | .encOpen _ | .encReconfig _ | .encForce _ | .encClose _
  | .encCloseDone _ | .encPictureDone _ _ _ | .encRowDone _ _ | .motionFieldDone _ _ _ | .encParityError _
  | .encPictureTimeout _ | .encRowTimeout _ | .encEngineResetDone _ | .holmOpen _ | .holmClose _ | .holmCloseDone _
  | .holmRowDone _ _ | .holmAuDone _ | .holmParityError _ | .holmRowTimeout _ | .decOpen _ | .decSubmit _
  | .decClose _ | .decPictureDone _ _ | .decPicturePresent _ | .decParityError _ | .decPictureTimeout _
  | .katExpectedReady _ _ | .katCompare _ _ _ | .hbmRefresh _ _ | .hbmTraining _ _ | .scrubRead _ | .lagoonScrub _
  | .lagoonRepair _ _ | .bankPressureInterval _ _
    => .pictures
  | .linkDiagEyeScan _ | .genlockInEdge _ _ | .mediumInserted _ | .mediumInitDone _ _ | .mediumRemoved _
  | .mediaLinkDown _ _ | .mediaAttachAttach _ | .mediaAttachDetach _ | .mediaAttachInfo _ | .nvmeShutdownDone _ _
  | .recOpen _ | .recExtents _ | .recCommit _ | .recClose _ | .recItemReady _ _ | .nvmeWriteDone _ _ _ _
  | .nvmeFlushDone _ _ _ | .nvmeTimeout _ _ | .commitTimer _ | .recCommitTimeout _ | .mediaReadBlocks _
  | .mediaReadItems _ | .nvmeReadDone _ _ | .netConfig _ | .netLinkChange _ _ _ | .firmwareProtocolRx _ _ _
  | .chainForward _ _ | .ptpConfig _ | .ptpSyncRx _ _ | .ptpFollowUpRx _ | .ptpDelayReqRx _ _ | .ptpDelayRespRx _
  | .ptpAnnounceRx _ | .ptpManagementRx _ | .ptpSyncTx _ _ | .ptpAnnounceTx _ | .ptpDelayReqTx _ _
  | .syncHoldoverTimeout _ | .timeGetRead _ | .timeGetSet _ | .timeGetStatus _ | .flowOpen _ | .flowClose _
  | .flowFrameTx _ _ | .audioPacketTx _ _ _ | .rxFlowPacket _ _ | .ltcInFrame _ _ | .ltcInLost | .ltcOutFrame _
  | .headConfigEnable _ | .headConfigDisable _ | .headCommit _ | .commitCopyDone _ | .headFrameSelect _ _
  | .headFrameStart _ | .sourceGap _ | .dpHpd _ | .dpLinkTrained _ _ _ | .audConfigEnable _ | .audConfigDisable _
  | .audEnableDone _ | .audNoClockTimeout _ | .audDisableDone _ | .audClockLoss _ | .audClockRestored _
  | .audStreamOpen _ | .audStreamClose _ | .audStreamMask _ | .audStreamStatus _ | .audPeriodDone _ _
  | .audPlaybackRead _ _ | .axisConfigEnable _ | .axisConfigDisable _ | .axisConfigTimeout _ | .axisGridSample _ _
  | .encoderReadDone _ _ | .axisIndex _ _ | .axisFault _ _ | .axisFaultClear _ | .latchInstantRx _ _
  | .latchResolve _ | .skerryLinkFrame _ | .computeLinkFrame _ _ | .linkPathChange _ _ | .posSnapshotLoad _ _
  | .posPresetWrite _ _ _ | .posErrCntRead _ _ | .pwmCmdWrite _ _ _ | .pwmArmWrite _ _ _ | .brakeRelWrite _ _ _
  | .pwmPeriodStart _ | .pwmCmdTimeout _ | .skerryPor | .safeInDemand | .heartbeatLoss | .configMismatch
  | .lockstep | .siWatchdog | .siMemory | .siSelftest | .clockCompute | .clockSkerry | .supply | .skerryInternal
  | .outputReadback _ | .safetyConfigLoad _ | .safetyConfigReset _ | .safetyConfigForce _
  | .safetyConfigProofTest _ | .proofTestDone _ | .safetyStatus _ | .safeInRelease | .audFirstFsync _ _
  | .ioQueuesCreated _ | .flowCloseDone _
    => .surroundings

/-- Commands that may release what waits for a halted core (20 R514). -/
def releases (i : Instr) : Bool :=
  match i with
  | .functionLevelReset | .hotReset | .hostLinkDown | .debugPortResume _ | .debugTokenUnlock _ | .debugTokenRelock _ => true
  | _ => false

/-- The frame of a command. -/
def Frame (i : Instr) : Prop := if releases i = true then KeepsIdle i else Keeps i

/-! What every step keeps. -/

/-- The memories are in their canonical form, and under the safe state no channel is armed and no brake released. -/
def State.Inv (s : State) : Prop :=
  s.mem.wf = true ∧ (s.dev.safe.held = true → ∀ a, (axisOf s.dev a).arm = false ∧ (axisOf s.dev a).brk = false)


end Sys2Proof.Machine
end

