-- ==== Sys2Proof/Certificates/Slice0/Obligations.lean ====
section
/-!
DEFINITION. Certificates/Slice0/Obligations.lean: the statements for the provers. A row's result is stated as the next state
its rules give (or as a next state and what it holds), under conditions on the state and the operands alone; what a row leaves
alone is stated over the parts of Safety.lean.
-/
open Sys2Proof Sys2Proof.Machine

/-- A step takes the front command and runs it with the rest. -/
def Obligations.StepRunsTheFrontCommand : Prop :=
  ∀ (c : Instr) (rest : List Instr) (s : State),
    step { s with pending := c :: rest } = exec c { s with pending := rest }

/-- The model's choice of notes/assumptions/3.md: an empty queue passes one SCLK period, in which what waits drains. -/
def Obligations.EmptyQueuePassesAPeriod : Prop :=
  (∀ s : State, s.pending = [] →
    ∃ t, step s = .next t ∧ t.pending = [] ∧ t.dev.tu = tuAdvance 5 s.dev.tu ∧
      (s.dev.tu.held = true → t.dev.tu = s.dev.tu)) ∧
  (∀ s : State, s.pending = [] → (s.dev.hbm.queue = [] ∨ hbmRuns s.dev = false) → s.dev.flows = [] →
    (∀ n, (net s.dev n).txq = []) →
    step s = .next { s with dev := { s.dev with tu := tuAdvance 5 s.dev.tu } } ∧
    (s.dev.tu.held = true → step s = .next s))

/-- 22 R531, R532: the five resets that begin a boot at once. -/
def Obligations.ResetsBeginABoot : Prop :=
  (∀ s, ∃ t, exec .powerOn s = .next t ∧ AfterReset 1 s t ∧ t.dev.tu = {}) ∧
  (∀ s, s.dev.pwr.heldReset = false → ∃ t, exec .rstN s = .next t ∧ AfterReset 2 s t ∧ t.dev.tu = {}) ∧
  (∀ s, s.dev.pwr.heldReset = true → exec .rstN s = .next s) ∧
  (∀ s, dieRuns s.dev = true → s.dev.pwr.state ≠ 3 →
    ∃ t, exec .pllLoss s = .next t ∧ AfterReset 3 s t ∧ t.dev.tu = { s.dev.tu with held := true }) ∧
  (∀ s, dieRuns s.dev = true → s.dev.pwr.state ≠ 3 →
    ∃ t, exec .supplyReset s = .next t ∧ AfterReset 4 s t ∧ t.dev.tu = s.dev.tu) ∧
  (∀ s, dieRuns s.dev = true → s.dev.sec.level = 2 →
    ∃ t, exec .debugResetRequest s = .next t ∧ AfterReset 5 s t ∧ t.dev.tu = s.dev.tu) ∧
  (∀ s, dieRuns s.dev = true → s.dev.pwr.state = 3 →
    exec .supplyReset s = .next s ∧
    ∃ t, exec .pllLoss s = .next t ∧ t.dev.pwr = s.dev.pwr ∧ t.dev.tu = { s.dev.tu with held := true } ∧
      t.dev.safe.held = true) ∧
  (∀ s, dieRuns s.dev = false →
    exec .pllLoss s = .next s ∧ exec .supplyReset s = .next s ∧ exec .debugResetRequest s = .next s) ∧
  (∀ s, s.dev.sec.level ≠ 2 → exec .debugResetRequest s = .next s)

/-- 02 R40, R43, R57, R60. -/
def Obligations.ControllerEnableAndDisable : Prop :=
  (∀ s : State, s.dev.host.enable = false → bar0Live s.dev = true → adminValid s.dev = true →
    ∃ t, exec .controllerEnable s = .next t ∧ t.dev.host.enable = true ∧ t.dev.host.restart = false ∧
      t.dev.host.cfgErr = s.dev.host.cfgErr ∧
      t.dev.host.qps = tabSet s.dev.host.qps 0
        { sqBase := s.dev.host.asqBase, cqBase := s.dev.host.acqBase, vector := 0, cls := 0
          sqSize := bitsOf s.dev.host.sizes.toNat 0 12 + 1, cqSize := bitsOf s.dev.host.sizes.toNat 16 12 + 1 } ∧
      t.dev.host.crHigh = s.dev.host.wHigh + 1 ∧ t.dev.host.crMed = s.dev.host.wMed + 1 ∧
      t.dev.host.crLow = s.dev.host.wLow + 1) ∧
  (∀ s : State, s.dev.host.enable = false → bar0Live s.dev = true → adminValid s.dev = false →
    ∃ t, exec .controllerEnable s = .next t ∧ t.dev.host.enable = true ∧ t.dev.host.restart = false ∧
      t.dev.host.cfgErr = true ∧ t.dev.host.qps = s.dev.host.qps) ∧
  (∀ s : State, (s.dev.host.enable = true ∨ bar0Live s.dev = false) →
    ∃ t, exec .controllerEnable s = .next t ∧ t.dev.host.enable = s.dev.host.enable ∧
      t.dev.host.cfgErr = s.dev.host.cfgErr ∧ t.dev.host.qps = s.dev.host.qps) ∧
  (∀ s : State, s.dev.host.enable = true → s.dev.host.cfgErr = false → s.dev.boot.stage = 8 → s.dev.host.fatal = false →
    s.dev.host.restart = false →
    exec .adminReady s = .next { s with dev := { s.dev with host := { s.dev.host with ready := true } } }) ∧
  (∀ s : State, s.dev.host.enable = true → s.dev.host.cfgErr = false → s.dev.boot.stage = 10 →
    exec .adminReady s = .next { s with dev := { s.dev with host := { s.dev.host with ready := true } } }) ∧
  (∀ s : State, s.dev.host.enable = true → s.dev.host.cfgErr = true → exec .adminReady s = .next s) ∧
  (∀ s : State, s.dev.host.enable = false → s.dev.host.activating = false →
    exec .adminNotReady s = .next { s with dev := { s.dev with host := { s.dev.host with ready := false } } }) ∧
  (∀ s : State, (s.dev.host.enable = true ∨ s.dev.host.activating = true) → exec .adminNotReady s = .next s) ∧
  (∀ s : State, s.dev.host.enable = false → exec .controllerDisable s = .next s) ∧
  (∀ s : State, s.dev.host.enable = true → bar0Live s.dev = true →
    ∃ t, exec .controllerDisable s = .next t ∧ t.dev.host.enable = false ∧ t.dev.host.cfgErr = false ∧
      t.dev.host.held = [] ∧ (∀ p ∈ t.dev.host.qps, p.1 = 0) ∧ (∀ c ∈ t.dev.host.outst, c.qp = 4096) ∧
      t.dev.evt.objs = s.dev.evt.objs ∧ t.dev.host.wHigh = s.dev.host.wHigh ∧ t.dev.out = s.dev.out)

/-- 02 R38. -/
def Obligations.FunctionResetsReturnTheFeatures : Prop :=
  (∀ s : State, functionOn s.dev = true → s.dev.pcie.up = true → s.dev.pwr.waits = [] →
    (∃ t, exec .functionLevelReset s = .next t ∧ FunctionReset s t ∧ t.dev.pcie.up = true) ∧
    (∃ t, exec .hotReset s = .next t ∧ FunctionReset s t ∧ t.dev.pcie.up = true) ∧
    (∃ t, exec .hostLinkDown s = .next t ∧ FunctionReset s t ∧ t.dev.pcie.up = false)) ∧
  (∀ s : State, functionOn s.dev = true → s.dev.pcie.up = true → ∀ i ∈ [.functionLevelReset, .hotReset, .hostLinkDown],
    ∃ t, exec i s = .next t ∧ t.dev.host.enable = false ∧ t.dev.pcie.bme = false) ∧
  (∀ s : State, (functionOn s.dev = false ∨ s.dev.pcie.up = false) → s.dev.pwr.waits = [] →
    ∀ i ∈ [.functionLevelReset, .hotReset, .hostLinkDown], exec i s = .next s)

/-- 02 R562; 20 R512. -/
def Obligations.DeliveryAndTheHostLink : Prop :=
  (∀ s : State, exec (.busMasterEnableWrite false) s = .next { s with dev := { s.dev with pcie := { s.dev.pcie with
    bme := false, epoch := s.dev.pcie.epoch + b2n (delivering s.dev) } } }) ∧
  (∀ s : State, functionOn s.dev = true →
    exec .pmD3hotEntry s = .next { s with dev := { s.dev with pcie := { s.dev.pcie with
      d3hot := true, epoch := s.dev.pcie.epoch + b2n (delivering s.dev) } } }) ∧
  (∀ s : State, s.dev.host.enable = true → s.dev.pcie.up = true → s.dev.pcie.d3hot = false →
    ∃ t, exec (.busMasterEnableWrite true) s = .next t ∧ t.dev.pcie.bme = true ∧ t.dev.host.held = [] ∧
      ∀ l : List Out, s.dev.pcie.pba = [] → s.dev.host.held = l.map .post → t.dev.out = l.reverse ++ s.dev.out) ∧
  (∀ s : State, functionOn s.dev = true → s.dev.host.enable = true → s.dev.pcie.up = true → s.dev.pcie.bme = true →
    ∃ t, exec .pmD0Return s = .next t ∧ t.dev.pcie.d3hot = false ∧ t.dev.host.held = [] ∧
      ∀ l : List Out, s.dev.pcie.pba = [] → s.dev.host.held = l.map .post → t.dev.out = l.reverse ++ s.dev.out) ∧
  (∀ s : State, s.dev.host.enable = false →
    exec (.busMasterEnableWrite true) s =
      .next { s with dev := { s.dev with pcie := { s.dev.pcie with bme := true } } } ∧
    (functionOn s.dev = true →
      exec .pmD0Return s = .next { s with dev := { s.dev with pcie := { s.dev.pcie with d3hot := false } } })) ∧
  (∀ (d : Dev) (o : Out), d.host.enable = true → delivering d = false →
    postOut o d = { d with host := { d.host with held := d.host.held ++ [.post o] } }) ∧
  (∀ (s : State) (rate width : Nat), functionOn s.dev = true →
    ∃ t, exec (.hostLinkL0Entry rate width) s = .next t ∧ t.dev.pcie.up = true ∧ t.dev.pcie.rate = rate ∧
      t.dev.pcie.width = width ∧
      t.dev.pcie.short = decide (linkCapacityOf rate width < linkHeld s.dev) ∧
      t.dev.host.cnt.below = s.dev.host.cnt.below + (if linkCapacityOf rate width < linkHeld s.dev then 1 else 0) ∧
      t.dev.host.cnt.retrain = s.dev.host.cnt.retrain + (if s.dev.pcie.up then 1 else 0)) ∧
  (∀ (s : State) (width : Nat), s.dev.pcie.up = true → 6 ≤ s.dev.pcie.rate →
    ∃ t, exec (.l0pWidthChange width) s = .next t ∧ t.dev.pcie.width = width ∧ t.dev.pcie.rate = s.dev.pcie.rate ∧
      t.dev.pcie.short = decide (linkCapacityOf s.dev.pcie.rate width < linkHeld s.dev)) ∧
  (∀ (s : State) (width : Nat), (s.dev.pcie.up = false ∨ s.dev.pcie.rate < 6) →
    exec (.l0pWidthChange width) s = .next s) ∧
  (∀ (s : State) (rate width : Nat), functionOn s.dev = false → exec .pmD3hotEntry s = .next s ∧
    exec .pmD0Return s = .next s ∧ exec (.hostLinkL0Entry rate width) s = .next s) ∧
  linkCapacityOf 1 1 = 200 ∧ linkCapacityOf 5 8 = 25206 ∧ linkCapacityOf 7 16 = 188800

/-- 02 R42. -/
def Obligations.DoorbellsMoveTheirIndexOrAreCounted : Prop :=
  (∀ (s : State) (q : Nat) (v : Word) (p : Qp), s.dev.host.enable = true → bar0Live s.dev = true →
    getQp s.dev q = some p → v.toNat % 65536 < p.sqSize →
    (p.sqTail + p.sqSize - p.sqHead) % p.sqSize + (v.toNat % 65536 + p.sqSize - p.sqTail) % p.sqSize < p.sqSize →
    exec (.sqTailDoorbell q v) s =
      .next { s with dev := setQp q { p with sqTail := v.toNat % 65536 } s.dev }) ∧
  (∀ (s : State) (q : Nat) (v : Word) (p : Qp), s.dev.host.enable = true → bar0Live s.dev = true →
    getQp s.dev q = some p → v.toNat % 65536 < p.cqSize →
    (v.toNat % 65536 + p.cqSize - p.cqHead) % p.cqSize ≤ posted s.dev q p →
    exec (.cqHeadDoorbell q v) s =
      .next { s with dev := setQp q { p with
        cqHead := v.toNat % 65536
        unrel := p.unrel - (v.toNat % 65536 + p.cqSize - p.cqHead) % p.cqSize } s.dev }) ∧
  (∀ (s : State) (q : Nat) (v : Word), s.dev.host.enable = true → bar0Live s.dev = true → q < 4096 →
    (∀ p, getQp s.dev q = some p → ¬ (v.toNat % 65536 < p.sqSize ∧
      (p.sqTail + p.sqSize - p.sqHead) % p.sqSize + (v.toNat % 65536 + p.sqSize - p.sqTail) % p.sqSize < p.sqSize)) →
    ∃ t, exec (.sqTailDoorbell q v) s = .next t ∧ RefusedDoorbell q v false s t) ∧
  (∀ (s : State) (q : Nat) (v : Word), s.dev.host.enable = true → bar0Live s.dev = true → q < 4096 →
    (∀ p, getQp s.dev q = some p → ¬ (v.toNat % 65536 < p.cqSize ∧
      (v.toNat % 65536 + p.cqSize - p.cqHead) % p.cqSize ≤ posted s.dev q p)) →
    ∃ t, exec (.cqHeadDoorbell q v) s = .next t ∧ RefusedDoorbell q v true s t) ∧
  (∀ (s : State) (q : Nat) (v : Word), (s.dev.host.enable = false ∨ bar0Live s.dev = false) →
    exec (.sqTailDoorbell q v) s = .next s ∧ exec (.cqHeadDoorbell q v) s = .next s)

/-- 02 R51. -/
def Obligations.ArbitrationPicksTheBestClass : Prop :=
  (∀ (d d' : Dev) (cls q : Nat), pick d = some (cls, q, d') →
    ∃ p, (q, p) ∈ d'.host.qps ∧ p.cls = cls ∧ eligible d' q p = true ∧
      (cls ≠ 0 → (∀ x ∈ d'.host.qps, x.2.cls = 0 → eligible d' x.1 x.2 = false) ∧ credit d'.host cls ≠ 0 ∧
        ∀ b, 1 ≤ b → b < cls → credit d'.host b ≠ 0 →
          ∀ x ∈ d'.host.qps, x.2.cls = b → eligible d' x.1 x.2 = false)) ∧
  (∀ d : Dev, pick d = none → (∀ x ∈ d.host.qps, x.2.cls ≤ 3 ∧ x.2.clsNext ≤ 3) →
    ∀ x ∈ d.host.qps, eligible d x.1 x.2 = false)

/-- 02 R49-R51. -/
def Obligations.FetchTakesTheHeadEntry : Prop :=
  (∀ (s : State) (e : Sqe) (q : Nat) (p : Qp) (op : HostOp), canFetch s.dev = true →
    nextEligible s.dev 0 (lastOf s.dev.host 0) = some q → getQp s.dev q = some p →
    routeIn s.dev q e = .ok op → (ordered e = false ∨ pairOutst s.dev q = []) →
    (holding s.dev = false ∨ isLong op = false) →
    exec (.commandFetch e) s = .next { s with dev := { countStall s.dev with host := { (countStall s.dev).host with
      qps := tabSet s.dev.host.qps q { p with sqHead := (p.sqHead + 1) % p.sqSize, headOrd := false, headLong := false },
      last := s.dev.host.last.setIfInBounds 0 q
      nextTag := s.dev.host.nextTag + 1
      outst := s.dev.host.outst ++
        [{ tag := s.dev.host.nextTag, qp := q, op, e, phase := .fetched, ns := s.dev.tu.ns }] } } }) ∧
  (∀ (s : State) (e : Sqe) (cls q : Nat) (d : Dev) (p : Qp) (op : HostOp), canFetch s.dev = true →
    pick s.dev = some (cls, q, d) → getQp d q = some p → routeIn s.dev q e = .ok op →
    (ordered e = false ∨ pairOutst s.dev q = []) → (holding s.dev = false ∨ isLong op = false) →
    ∃ t, exec (.commandFetch e) s = .next t ∧ t.dev.host.nextTag = s.dev.host.nextTag + 1 ∧
      getQp t.dev q = some { p with sqHead := (p.sqHead + 1) % p.sqSize, headOrd := false, headLong := false } ∧
      t.dev.host.outst = s.dev.host.outst ++
        [{ tag := s.dev.host.nextTag, qp := q, op, e, phase := .fetched, ns := s.dev.tu.ns }]) ∧
  (∀ (s : State) (e : Sqe) (cls q : Nat) (d : Dev) (p : Qp) (st fb : Nat), canFetch s.dev = true →
    pick s.dev = some (cls, q, d) → getQp d q = some p → routeIn s.dev q e = .error (st, fb) →
    (ordered e = false ∨ pairOutst s.dev q = []) → (∀ o ∈ s.dev.host.outst, o.tag < s.dev.host.nextTag) →
    ∃ t p', exec (.commandFetch e) s = .next t ∧ getQp t.dev q = some p' ∧ p'.sqHead = (p.sqHead + 1) % p.sqSize ∧
      p'.unrel = p.unrel + 1 ∧ t.dev.host.outst = s.dev.host.outst) ∧
  (∀ (s : State) (e : Sqe) (cls q : Nat) (d : Dev) (p : Qp), canFetch s.dev = true →
    pick s.dev = some (cls, q, d) → getQp d q = some p → ordered e = true → pairOutst s.dev q ≠ [] →
    ∃ t, exec (.commandFetch e) s = .next t ∧ getQp t.dev q = some { p with headOrd := true } ∧
      t.dev.host.outst = s.dev.host.outst ∧ t.dev.host.nextTag = s.dev.host.nextTag) ∧
  (∀ (s : State) (e : Sqe) (cls q : Nat) (d : Dev) (p : Qp) (op : HostOp), canFetch s.dev = true →
    pick s.dev = some (cls, q, d) → getQp d q = some p → (ordered e = false ∨ pairOutst s.dev q = []) →
    routeIn s.dev q e = .ok op → holding s.dev = true → isLong op = true →
    ∃ t, exec (.commandFetch e) s = .next t ∧ getQp t.dev q = some { p with headLong := true } ∧
      t.dev.host.outst = s.dev.host.outst ∧ t.dev.host.nextTag = s.dev.host.nextTag) ∧
  (∀ (s : State) (e : Sqe), delivering s.dev = false → exec (.commandFetch e) s = .next s) ∧
  (∀ (s : State) (e : Sqe), stalled s.dev = false → pick s.dev = none → exec (.commandFetch e) s = .next s) ∧
  (∀ (q : Nat) (e : Sqe), e.opcode.toNat ≠ 9 → (q = 0 ↔ ¬ (1 ≤ e.opcode.toNat ∧ e.opcode.toNat ≤ 16)) →
    route q e = .error (stInvalidOpcode, 0)) ∧
  (∀ (q : Nat) (e : Sqe), e.opcode.toNat = 9 → route q e = .ok .flush)

/-- 02 R45, R46, R66, R67. -/
def Obligations.CompletionsAndTheirInterrupts : Prop :=
  (∀ (c : Outst) (st res ext fb : Nat) (d : Dev) (p : Qp), getQp d c.qp = some p → delivering d = true →
    (∀ o ∈ (complete c st res ext fb d).host.outst, o.tag ≠ c.tag) ∧
    (∃ rest, (complete c st res ext fb d).out = rest ++ .cqe
        { qp := c.qp, slot := p.cqTail, result := res % 2 ^ 64, sqhd := p.sqHead, cid := c.e.cid, phase := p.phase
          status := st, ext := ext % 2 ^ 128 } :: d.out ∧
      ((c.qp = 0 ∨ st ≠ 0 ∨ p.aggCount ≤ p.since) → vecMasked d p.vector = false → rest = [.msix p.vector]) ∧
      (c.qp ≠ 0 → st = 0 → p.since < p.aggCount → rest = [])) ∧
    (∃ p', getQp (complete c st res ext fb d) c.qp = some p' ∧ p'.unrel = p.unrel + 1 ∧
      p'.cqTail = (if p.cqTail + 1 = p.cqSize then 0 else p.cqTail + 1) ∧
      p'.phase = (if p.cqTail + 1 = p.cqSize then !p.phase else p.phase))) ∧
  (∀ (s : State) (q : Nat) (p : Qp), getQp s.dev q = some p → p.aggTime ≠ 0 → p.since ≠ 0 →
    p.firstNs + p.aggTime * 1000 ≤ s.dev.tu.ns → delivering s.dev = true → vecMasked s.dev p.vector = false →
    exec (.intCoalesceTimeout q) s = .next { s with dev :=
      { setQp q { p with since := 0 } s.dev with out := .msix p.vector :: s.dev.out } }) ∧
  (∀ (s : State) (q : Nat), (∀ p, getQp s.dev q = some p →
      p.aggTime = 0 ∨ p.since = 0 ∨ s.dev.tu.ns < p.firstNs + p.aggTime * 1000) →
    exec (.intCoalesceTimeout q) s = .next s) ∧
  (∀ (s : State) (v : Nat), bar0Live s.dev = true → s.dev.pcie.funcMask = false →
    ∃ t l, exec (.msixVectorUnmask v) s = .next t ∧ vecMasked t.dev v = false ∧ t.dev.out = l ++ s.dev.out ∧
      t.dev.host.cnt.pend = s.dev.host.cnt.pend + l.length ∧
      (delivering s.dev = true → v ∈ s.dev.pcie.pba → Out.msix v ∈ l) ∧ (delivering s.dev = true → v ∉ t.dev.pcie.pba) ∧
      (delivering s.dev = false ∨ s.dev.pcie.pba = [] → l = [] ∧ t.dev.pcie.pba = s.dev.pcie.pba)) ∧
  (∀ (v : Nat) (d : Dev), delivering d = true → vecMasked d v = true →
    (trigger v d).out = d.out ∧ v ∈ (trigger v d).pcie.pba)

/-- 02 R61, R62. -/
def Obligations.EventsAreNumberedQueuedAndDelivered : Prop :=
  (∀ (cls code handle detail : Nat) (d : Dev), bitOf d.evt.mask cls = false → raise cls code handle detail d = d) ∧
  (∀ (cls code handle detail : Nat) (d : Dev), bitOf d.evt.mask cls = true →
    (raise cls code handle detail d).evt.seq = (d.evt.seq + 1) % 2 ^ 32) ∧
  (∀ (cls code handle detail : Nat) (d : Dev) (c : Outst), bitOf d.evt.mask cls = true → oldestArm d = some c →
    raise cls code handle detail d =
      complete c 0 (cls + code * 2 ^ 16 + handle * 2 ^ 32)
        (d.tu.ns % 2 ^ 32 + d.evt.seq % 2 ^ 32 * 2 ^ 32 + detail % 2 ^ 64 * 2 ^ 64) 0xFF
        { d with evt := { d.evt with seq := (d.evt.seq + 1) % 2 ^ 32 } }) ∧
  (∀ (cls code handle detail : Nat) (d : Dev), bitOf d.evt.mask cls = true → oldestArm d = none →
    ∃ v : Event, v = { cls, code, handle, ns32 := d.tu.ns % 2 ^ 32, seq := d.evt.seq, detail } ∧
      (d.evt.queue.length < 63 → (raise cls code handle detail d).evt.queue = d.evt.queue ++ [v]) ∧
      (d.evt.queue.length = 63 → (raise cls code handle detail d).evt.queue =
        d.evt.queue ++ [{ cls := 12, code := 3, handle := 0, ns32 := v.ns32, seq := v.seq, detail := 1 }]) ∧
      (∀ q l, d.evt.queue = q ++ [l] → 63 ≤ q.length → q.length < 64 →
        (raise cls code handle detail d).evt.queue = q ++ [{ l with detail := l.detail + 1 }])) ∧
  (∀ (s : State) (t : Nat) (c : Outst) (v : Event) (q : List Event), Begins specEventArm t s c →
    s.dev.evt.queue = v :: q →
    exec (.eventArm t) s = .next (s.finish c 0 (eventResult v) (eventExt v)
      { s.dev with evt := { s.dev.evt with queue := q } })) ∧
  (∀ (s : State) (t : Nat) (c : Outst), Begins specEventArm t s c → s.dev.evt.queue = [] →
    (s.dev.host.outst.filter fun o => o.op == .eventArm && o.phase == .waiting).length < 16 →
    exec (.eventArm t) s = .next (s.await c .waiting s.dev)) ∧
  (∀ (s : State) (t : Nat) (c : Outst), Begins specEventArm t s c → s.dev.evt.queue = [] →
    16 ≤ (s.dev.host.outst.filter fun o => o.op == .eventArm && o.phase == .waiting).length →
    exec (.eventArm t) s = .next (s.finish c 0x0101 0 0 s.dev))

/-- 02 R69, R70, R57. -/
def Obligations.QueuePairsComeAndGo : Prop :=
  (∀ (s : State) (t : Nat) (c : Outst), Begins specQpCreate t s c → getQp s.dev (fld c.e 52 2) = none →
    exec (.qpCreate t) s = .next (s.finish c 0 (0x01000000 + fld c.e 52 2) 0
      (setQp (fld c.e 52 2) { sqBase := BitVec.ofNat 64 (fld c.e 32 8), cqBase := BitVec.ofNat 64 (fld c.e 40 8)
                              sqSize := fld c.e 48 2 + 1, cqSize := fld c.e 50 2 + 1, vector := fld c.e 54 2
                              cls := fld c.e 56 1, clsNext := fld c.e 56 1 } s.dev))) ∧
  (∀ (s : State) (t : Nat) (c : Outst), Begins specQpCreate t s c → (getQp s.dev (fld c.e 52 2)).isSome = true →
    exec (.qpCreate t) s = .next { s with dev := complete c 0x0100 0 0 52 s.dev }) ∧
  (∀ (s : State) (t : Nat) (c : Outst) (q : Nat), Begins specQpReset t s c → c.e.handle.toNat = 2 ^ 24 + q → q ≠ 0 →
    q < 4096 → c.qp ≠ q → (getQp s.dev q).isSome = true →
    ∃ u p, exec (.qpReset t) s = .next u ∧ getQp u.dev q = some p ∧ p.sqHead = 0 ∧ p.sqTail = 0 ∧ p.cqTail = 0 ∧
      p.cqHead = 0 ∧ p.unrel = 0 ∧ p.phase = true ∧
      (∀ o ∈ u.dev.host.outst, o.qp = q → abandonable o = false) ∧ u.dev.evt.objs = s.dev.evt.objs) ∧
  (∀ (s : State) (t : Nat) (c : Outst) (q : Nat), Begins specQpDelete t s c → c.e.handle.toNat = 2 ^ 24 + q → q ≠ 0 →
    q < 4096 → (getQp s.dev q).isSome = true →
    ∃ u, exec (.qpDelete t) s = .next u ∧ (c.qp ≠ q → getQp u.dev q = none) ∧
      (∀ o ∈ u.dev.host.outst, o.qp ≠ q) ∧ u.dev.evt.objs = s.dev.evt.objs) ∧
  (∀ (s : State) (t : Nat) (c : Outst), Begins specQpReset t s c → c.e.handle.toNat = 2 ^ 24 →
    exec (.qpReset t) s = .next { s with dev := complete c 2 0 0 4 s.dev }) ∧
  (∀ (s : State) (t : Nat) (c : Outst), Begins specQpDelete t s c → c.e.handle.toNat = 2 ^ 24 →
    exec (.qpDelete t) s = .next { s with dev := complete c 2 0 0 4 s.dev }) ∧
  (∀ (s : State) (t : Nat) (c : Outst) (q : Nat), Begins specQpReset t s c → c.e.handle.toNat = 2 ^ 24 + q → q ≠ 0 →
    q < 2 ^ 24 → getQp s.dev q = none →
    exec (.qpReset t) s = .next { s with dev := complete c 3 0 0 4 s.dev }) ∧
  (∀ (s : State) (t : Nat) (c : Outst) (q : Nat), Begins specQpDelete t s c → c.e.handle.toNat = 2 ^ 24 + q → q ≠ 0 →
    q < 2 ^ 24 → getQp s.dev q = none →
    exec (.qpDelete t) s = .next { s with dev := complete c 3 0 0 4 s.dev })

/-- 02 R71. -/
def Obligations.HostFeaturesAreSetAndReturned : Prop :=
  (∀ (s : State) (t : Nat) (c : Outst), Begins specFeatureSetArbitration t s c →
    exec (.featureSetArbitration t) s = .next (s.finish c 0 0 0 { s.dev with host := { s.dev.host with
      wHigh := fld c.e 36 1, wMed := fld c.e 37 1, wLow := fld c.e 38 1 } })) ∧
  (∀ (s : State) (t : Nat) (c : Outst), Begins specFeatureSetEventConfig t s c →
    exec (.featureSetEventConfig t) s = .next (s.finish c 0 0 0 { s.dev with evt := { s.dev.evt with
      mask := fld c.e 36 4 } })) ∧
  (∀ (s : State) (t : Nat) (c : Outst) (p : Qp), Begins specFeatureSetIntCoalesce t s c →
    getQp s.dev (fldBits c.e 36 0 12) = some p →
    exec (.featureSetIntCoalesce t) s = .next (s.finish c 0 0 0
      (setQp (fldBits c.e 36 0 12) { p with aggCount := fld c.e 40 1, aggTime := fld c.e 41 2 } s.dev))) ∧
  (∀ (s : State) (t : Nat) (c : Outst) (p : Qp), Begins specFeatureSetQpClass t s c →
    getQp s.dev (fldBits c.e 36 0 12) = some p →
    exec (.featureSetQpClass t) s = .next (s.finish c 0 0 0
      (setQp (fldBits c.e 36 0 12) { p with clsNext := fldBits c.e 40 0 2 } s.dev))) ∧
  (∀ (s : State) (t : Nat) (c : Outst), Begins specFeatureSetIntCoalesce t s c →
    getQp s.dev (fldBits c.e 36 0 12) = none →
    exec (.featureSetIntCoalesce t) s = .next { s with dev := complete c 2 0 0 36 s.dev }) ∧
  (∀ (s : State) (t : Nat) (c : Outst), Begins specFeatureSetQpClass t s c →
    getQp s.dev (fldBits c.e 36 0 12) = none →
    exec (.featureSetQpClass t) s = .next { s with dev := complete c 2 0 0 36 s.dev }) ∧
  (∀ (s : State) (t : Nat) (c : Outst), Begins (specFeatureGet 1) t s c → fld c.e 32 1 = 1 →
    exec (.featureGet t) s = .next (s.finish c 0
      (s.dev.host.wHigh + s.dev.host.wMed * 2 ^ 8 + s.dev.host.wLow * 2 ^ 16) 0 s.dev)) ∧
  (∀ (s : State) (t : Nat) (c : Outst) (p : Qp), Begins (specFeatureGet 2) t s c → fld c.e 32 1 = 2 →
    fldBits c.e 36 0 12 ≠ 0 → getQp s.dev (fldBits c.e 36 0 12) = some p →
    exec (.featureGet t) s = .next (s.finish c 0
      (fldBits c.e 36 0 12 + (p.aggCount + p.aggTime * 2 ^ 8) * 2 ^ 32) 0 s.dev)) ∧
  (∀ (s : State) (t : Nat) (c : Outst), Begins (specFeatureGet 3) t s c → fld c.e 32 1 = 3 →
    exec (.featureGet t) s = .next (s.finish c 0 s.dev.evt.mask 0 s.dev)) ∧
  (∀ (s : State) (t : Nat) (c : Outst) (p : Qp), Begins (specFeatureGet 4) t s c → fld c.e 32 1 = 4 →
    fldBits c.e 36 0 12 ≠ 0 → getQp s.dev (fldBits c.e 36 0 12) = some p →
    exec (.featureGet t) s = .next (s.finish c 0 (fldBits c.e 36 0 12 + p.clsNext * 2 ^ 32) 0 s.dev)) ∧
  (∀ (s : State) (t fid : Nat) (c : Outst), Begins (specFeatureGet fid) t s c → fld c.e 32 1 = fid →
    (fid = 2 ∨ fid = 4) → (fldBits c.e 36 0 12 = 0 ∨ getQp s.dev (fldBits c.e 36 0 12) = none) →
    exec (.featureGet t) s = .next { s with dev := complete c 2 0 0 36 s.dev }) ∧
  (∀ (s : State) (t : Nat) (c : Outst), Begins (specFeatureGet 5) t s c → fld c.e 32 1 = 5 →
    exec (.featureGet t) s = .next (s.finish c 0 (memoryFeature s.dev) 0 s.dev)) ∧
  (∀ (s : State) (t : Nat) (c : Outst), Begins (specFeatureGet 6) t s c → fld c.e 32 1 = 6 →
    exec (.featureGet t) s = .next (s.finish c 0 (coreFeature s.dev (coreArg c.e)).1
      (coreFeature s.dev (coreArg c.e)).2 s.dev))

/-- 02 R68, R72-R74. -/
def Obligations.IdentifyLogAbortFlushAndTheMirror : Prop :=
  (∀ (s : State) (t : Nat) (c : Outst), Begins specIdentify t s c →
    exec (.identify t) s = .next (s.finish c 0 0 0 (postOut (dataOut c 0 ((identity s.dev).take c.e.dataLen.toNat)) s.dev))) ∧
  (∀ d : Dev, (identity d).length = 4096 ∧ le (identity d) 0 8 = hid d % 2 ^ 64 ∧ le (identity d) 51 1 = 0x0F ∧
    le (identity d) 52 2 = 0x0FFF ∧ le (identity d) 54 2 = 0xFFFF ∧ le (identity d) 56 2 = 0x07FF) ∧
  (∀ (s : State) (t : Nat) (c : Outst) (l : List Byte), Begins specLogGet t s c →
    logPage s.dev (fld c.e 32 1) = some l → fld c.e 36 8 < l.length →
    exec (.logGet t) s = .next (s.finish c 0
      (min c.e.dataLen.toNat (l.length - fld c.e 36 8) + l.length * 2 ^ 32) 0
      (postOut (dataOut c 0 ((l.drop (fld c.e 36 8)).take c.e.dataLen.toNat)) s.dev))) ∧
  (∀ (s : State) (t : Nat) (c : Outst) (l : List Byte), Begins specLogGet t s c →
    logPage s.dev (fld c.e 32 1) = some l → l.length ≤ fld c.e 36 8 →
    exec (.logGet t) s = .next { s with dev := complete c 2 0 0 36 s.dev }) ∧
  (∀ (s : State) (t : Nat) (c o : Outst), Begins specAbort t s c → abortTarget c s.dev = some o →
    (∀ r ∈ s.dev.reads, r.cmd ≠ o.tag) →
    ∃ d, exec (.abort t) s = .next (s.finish c 0 1 0 d) ∧ ∀ x ∈ d.host.outst, x.tag ≠ o.tag) ∧
  (∀ (s : State) (t : Nat) (c o : Outst) (r : MediaRead), Begins specAbort t s c → abortTarget c s.dev = some o →
    s.dev.reads.find? (fun r => r.cmd == o.tag) = some r →
    exec (.abort t) s = .next (s.finish c 0 1 0 (stopRead r s.dev))) ∧
  (∀ (s : State) (t : Nat) (c : Outst), Begins specAbort t s c → abortTarget c s.dev = none →
    exec (.abort t) s = .next (s.finish c 0 0 0 s.dev)) ∧
  (∀ (s : State) (t : Nat) (c : Outst), Begins specFlush t s c →
    exec (.flush t) s = .next (s.await c .waiting (flushRecs c s.dev))) ∧
  (∀ (s : State) (t : Nat) (c : Outst), findOutst s.dev t = some c → c.op = .flush → c.phase = .waiting →
    (∀ o ∈ s.dev.host.outst, o.qp = c.qp → o.tag < c.tag → o.op = .eventArm) →
    (∀ r ∈ s.dev.recs, ∀ w ∈ r.2.waits, w.qp = c.qp → c.tag ≤ w.tag) →
    (∀ r ∈ s.dev.recs, ∀ f ∈ r.2.flushes, f.1 ≠ c.tag) →
    exec (.flushDone t) s = .next (s.finish c 0 0 0 s.dev)) ∧
  (∀ (s : State) (t : Nat) (c o : Outst), findOutst s.dev t = some c → o ∈ s.dev.host.outst → o.qp = c.qp →
    o.tag < c.tag → o.op ≠ .eventArm → exec (.flushDone t) s = .next s) ∧
  (∀ (s : State) (t h : Nat) (c : Outst) (r : RecSes) (w : RecWait), findOutst s.dev t = some c → (h, r) ∈ s.dev.recs →
    w ∈ r.waits → w.qp = c.qp → w.tag < c.tag → exec (.flushDone t) s = .next s) ∧
  (∀ (s : State) (t h : Nat) (c : Outst) (r : RecSes) (f : Nat × Option Nat × Option Nat), findOutst s.dev t = some c →
    (h, r) ∈ s.dev.recs → f ∈ r.flushes → f.1 = c.tag → exec (.flushDone t) s = .next s) ∧
  (∀ s : State,
      (islandRuns s.dev = true → ∃ m : Mirror,
        exec .mirrorUpdate s = .next { s with dev := { s.dev with mirror := m } } ∧
        m.seq = s.dev.mirror.seq + 1 ∧ m.safeState = s.dev.safe.held ∧ m.safeOk = !s.dev.safe.held ∧
        m.stoOut = !s.dev.safe.held ∧ m.safeIn = s.dev.safe.safeIn ∧ m.lastFault.toNat = s.dev.safe.last % 256 ∧
        m.faultCount.toNat = min s.dev.safe.count 0xFFFF ∧ m.tj = BitVec.ofInt 16 s.dev.thm.tj ∧
        m.thmState = s.dev.thm.state ∧ m.hotSensor = s.dev.thm.hot) ∧
      (islandRuns s.dev = false → exec .mirrorUpdate s = .next s))

/-- 03 R85-R87, R91-R94, R99, R563. -/
def Obligations.BringUpFollowsTheSequencer : Prop :=
  (∀ (s : State) (p : PortId), (link s.dev p).state = 1 → reqDue s.dev p = true →
    ∃ t, exec (.trainReqTimer p) s = .next t ∧ SequencerStays p s t ∧ OtherLinksStay p s t ∧
      HandsOver p 1 [1, BitVec.ofNat 8 (link s.dev p).rate, BitVec.ofNat 8 (link s.dev p).width, 0xFF] s t) ∧
  (∀ (s : State) (p : PortId), (link s.dev p).state = 2 → (link s.dev p).retrain = true → reqDue s.dev p = true →
    ∃ t, exec (.retrainTimer p) s = .next t ∧ SequencerStays p s t ∧ OtherLinksStay p s t ∧
      HandsOver p 1 [5, 0, 0, 0] s t) ∧
  (∀ (s : State) (p : PortId) (a b : Nat), TrainBlocksAwaited s p → (link s.dev p).req = some (a, b) →
    a + 10000000 ≤ s.dev.tu.ns →
    ∃ t, exec (.noResponseTimeout p) s = .next t ∧ OtherLinksStay p s t ∧
      link t.dev p = { link s.dev p with
        state := 7, reason := 6, asked := none, retrain := false, req := none, failNs := s.dev.tu.ns }) ∧
  (∀ (s : State) (p : PortId), (link s.dev p).state = 7 → (link s.dev p).failNs + 100000000 ≤ s.dev.tu.ns →
    ∃ t, exec (.failRetry p) s = .next t ∧ OtherLinksStay p s t ∧ (link t.dev p).state = 1 ∧
      (link t.dev p).attempts = 0 ∧ (link t.dev p).adapted = false ∧ (link t.dev p).retrain = false ∧
      (link t.dev p).reason = (link s.dev p).reason) ∧
  (∀ (s : State) (p : PortId) (bs : List (List Blk)) (ls : List LaneTrain), TrainBlocksAwaited s p →
    trainLanes s.dev p bs = ls.map some → ls ≠ [] → (∀ l ∈ ls, l.width = (link s.dev p).width ∧ l.rateCode = (link s.dev p).rate) →
    (inOrder ls = true ∨ isReversed ls = true) →
    ∃ t, exec (.trainBlockRx p bs) s = .next t ∧ OtherLinksStay p s t ∧ (link t.dev p).state = 2 ∧
      (link t.dev p).retrain = false ∧ ((link t.dev p).reversed = !inOrder ls) ∧
      ((link s.dev p).search = true → (∀ l ∈ ls, l.txEq = true) → (link s.dev p).adapted = false →
        (link t.dev p).asked = some 0 ∧ HandsOver p 1 [2, 0, 0, 0] s t)) ∧
  (∀ (s : State) (p : PortId) (bs : List (List Blk)), TrainBlocksAwaited s p → none ∈ trainLanes s.dev p bs →
    (∃ l, some l ∈ trainLanes s.dev p bs) →
    ∃ t, exec (.trainBlockRx p bs) s = .next t ∧ OtherLinksStay p s t ∧ (link t.dev p).state = 7 ∧ (link t.dev p).reason = 5) ∧
  (∀ (s : State) (p : PortId) (bs : List (List Blk)) (ls : List LaneTrain), TrainBlocksAwaited s p →
    trainLanes s.dev p bs = ls.map some → (∃ l ∈ ls, l.width ≠ (link s.dev p).width) →
    ∃ t, exec (.trainBlockRx p bs) s = .next t ∧ OtherLinksStay p s t ∧ (link t.dev p).state = 7 ∧ (link t.dev p).reason = 5) ∧
  (∀ (s : State) (p : PortId) (bs : List (List Blk)) (ls : List LaneTrain), TrainBlocksAwaited s p →
    trainLanes s.dev p bs = ls.map some → ls ≠ [] → (∀ l ∈ ls, l.width = (link s.dev p).width) → (∃ l ∈ ls, l.rateCode ≠ (link s.dev p).rate) →
    ∃ t, exec (.trainBlockRx p bs) s = .next t ∧ OtherLinksStay p s t ∧ (link t.dev p).state = 7 ∧ (link t.dev p).reason = 4) ∧
  (∀ (s : State) (p : PortId) (bs : List (List Blk)) (ls : List LaneTrain), TrainBlocksAwaited s p →
    trainLanes s.dev p bs = ls.map some → ls ≠ [] → (∀ l ∈ ls, l.width = (link s.dev p).width ∧ l.rateCode = (link s.dev p).rate) → inOrder ls = false →
    isReversed ls = false →
    ∃ t, exec (.trainBlockRx p bs) s = .next t ∧ OtherLinksStay p s t ∧ (link t.dev p).state = 7 ∧ (link t.dev p).reason = 2) ∧
  (∀ (s : State) (p : PortId) (foms : List Nat), (link s.dev p).state = 2 → (link s.dev p).retrain = false →
    (link s.dev p).asked = none → foms.length = (link s.dev p).width → (∀ f ∈ foms, 24 ≤ f) →
    ∃ t, exec (.adaptationDone p foms) s = .next t ∧ OtherLinksStay p s t ∧ (link t.dev p).state = 3 ∧
      (link t.dev p).adapted = true ∧ HandsOver p 1 [3, 0, 0, 0] s t) ∧
  (∀ (s : State) (p : PortId) (foms : List Nat), (link s.dev p).state = 2 → (link s.dev p).retrain = false →
    (link s.dev p).asked = none → (∃ f ∈ foms, f < 24) →
    ∃ t, exec (.adaptationDone p foms) s = .next t ∧ OtherLinksStay p s t ∧
      (link t.dev p).attempts = (link s.dev p).attempts + 1 ∧
      (link t.dev p).state = (if 2 ≤ (link s.dev p).attempts then 7 else 2) ∧
      (2 ≤ (link s.dev p).attempts → (link t.dev p).reason = 1)) ∧
  (∀ (s : State) (p : PortId) (time : BlkTime) (b : List Byte) (n : Nat) (foms : List Nat),
    (link s.dev p).state = 2 → (link s.dev p).asked = some n → (link s.dev p).final = false → n < 15 →
    (lctlCopies s.dev p time).find? (·.1) = some (true, b) → le b 1 1 = 0x81 → le b 2 1 = n →
    ∃ t, exec (.presetAck p time foms) s = .next t ∧ OtherLinksStay p s t ∧ (link t.dev p).asked = some (n + 1) ∧
      (link t.dev p).preset = n ∧
      ((link s.dev p).best = none → (link t.dev p).best = some (n, foms)) ∧
      (∀ b, (link s.dev p).best = some b →
        (link t.dev p).best = if portFom b.2 < portFom foms then some (n, foms) else some b) ∧
      HandsOver p 1 [2, BitVec.ofNat 8 (n + 1), 0, 0] s t) ∧
  (∀ (s : State) (p : PortId) (n a : Nat), (link s.dev p).state = 2 → (link s.dev p).asked = some n →
    (link s.dev p).askedNs = some a → a + 20000 ≤ s.dev.tu.ns → (link s.dev p).again = false →
    ∃ t, exec (.presetAckTimeout p) s = .next t ∧ (link t.dev p).again = true ∧ (link t.dev p).state = 2 ∧
      (link t.dev p).asked = some n ∧ OtherLinksStay p s t ∧ HandsOver p 1 [2, BitVec.ofNat 8 n, 0, 0] s t) ∧
  (∀ (cls : Nat) (payload : List Byte), cls ≤ 2 → payload.length = 4 →
    bcChars cls payload = [.k277, .d (BitVec.ofNat 8 cls), .d 3] ++ payload.map .d ++
      [.d (BitVec.ofNat 8 (crc16 (bcFrame cls payload |>.take 6) / 256)),
       .d (BitVec.ofNat 8 (crc16 (bcFrame cls payload |>.take 6) % 256)), .k297, .k285, .k285])

/-- 03 R86, R88, R90, R95-R101, R563. -/
def Obligations.AlignmentSleepAndCalibration : Prop :=
  (∀ (s : State) (p : PortId) (bs : List CommaRx) (ls : List LaneComma), (link s.dev p).state = 3 →
    commaLanes s.dev p bs = ls → commaOk (link s.dev p).width ls = true → skewPclk ls ≤ 63 → (link s.dev p).seen = true →
    ∃ t, exec (.commaBlockRx p bs) s = .next t ∧ OtherLinksStay p s t ∧ (link t.dev p).state = 4 ∧
      (link t.dev p).d = newD (link s.dev p) (skewPclk ls) ∧ (port t.dev p).hunt = false ∧
      HandsOver p 1 [4, BitVec.ofNat 8 (newD (link s.dev p) (skewPclk ls)), 0, 0] s t) ∧
  (∀ (s : State) (p : PortId) (bs : List CommaRx) (ls : List LaneComma), (link s.dev p).state = 3 →
    commaLanes s.dev p bs = ls → commaOk (link s.dev p).width ls = true → skewPclk ls ≤ 63 → (link s.dev p).seen = false →
    ∃ t, exec (.commaBlockRx p bs) s = .next t ∧ link t.dev p = { link s.dev p with seen := true }) ∧
  (∀ (s : State) (p : PortId) (bs : List CommaRx) (ls : List LaneComma), (link s.dev p).state = 3 →
    commaLanes s.dev p bs = ls → commaOk (link s.dev p).width ls = true → 63 < skewPclk ls →
    ∃ t, exec (.commaBlockRx p bs) s = .next t ∧ (link t.dev p).state = 7 ∧ (link t.dev p).reason = 3) ∧
  (∀ (s : State) (p : PortId) (bs : List CommaRx), ((link s.dev p).state = 5 ∨ (link s.dev p).state = 6) →
    commaOk (link s.dev p).width (commaLanes s.dev p bs) = true →
    ∃ t, exec (.commaBlockRx p bs) s = .next t ∧ link t.dev p = { link s.dev p with state := 3, seen := true, alignNs := s.dev.tu.ns }) ∧
  (∀ (k : Link) (n : Nat), newD k n = if k.dHeld = true ∧ n ≤ k.d then k.d else n) ∧
  (∀ (s : State) (p : PortId), (link s.dev p).state = 3 →
    (link s.dev p).alignNs + commaNs (link s.dev p) 4 ≤ s.dev.tu.ns →
    ∃ t, exec (.alignTimeout p) s = .next t ∧ OtherLinksStay p s t ∧ (link t.dev p).state = 2 ∧
      (link t.dev p).retrain = true ∧ (link t.dev p).adapted = true ∧ (link t.dev p).attempts = 0 ∧
      HandsOver p 1 [5, 0, 0, 0] s t) ∧
  (∀ (s : State) (p : PortId) (a : Nat), ((link s.dev p).state = 5 ∨ (link s.dev p).state = 6) →
    a + commaNs (link s.dev p) 4 ≤ s.dev.tu.ns →
    ∃ t, exec (.wakeTimeout p a) s = .next t ∧ OtherLinksStay p s t ∧ (link t.dev p).state = 2 ∧
      (link t.dev p).retrain = true ∧ (link t.dev p).adapted = true ∧ HandsOver p 1 [5, 0, 0, 0] s t) ∧
  (∀ (s : State) (p : PortId) (n cause : Nat), (link s.dev p).state = 4 → cause ≠ 3 →
    ∃ t, exec (.laneLockLoss p n cause) s = .next t ∧ OtherLinksStay p s t ∧
      link t.dev p = { link s.dev p with state := 3, seen := false, alignNs := s.dev.tu.ns }) ∧
  (∀ (s : State) (p : PortId) (n : Nat), (link s.dev p).state = 4 → (link s.dev p).slips.length ≤ 2 →
    ∃ t, exec (.laneLockLoss p n 3) s = .next t ∧ OtherLinksStay p s t ∧ (link t.dev p).state = 3) ∧
  (∀ (s : State) (p : PortId) (n : Nat) (a b c : Nat), (link s.dev p).state = 4 → (link s.dev p).slips = [a, b, c] →
    s.dev.tu.ns < a + 1000000000 → s.dev.tu.ns < b + 1000000000 → s.dev.tu.ns < c + 1000000000 →
    ∃ t, exec (.laneLockLoss p n 3) s = .next t ∧ (link t.dev p).state = 7 ∧ (link t.dev p).reason = 7) ∧
  (∀ (s : State) (p : PortId) (deep : Bool) (ts : List BlkTime) (b : BlkTime),
    (link (receive p ts s.dev) p).state = 4 → SleepBlock (receive p ts s.dev) p b deep →
    ∃ t, exec (.sleepBlockRx p (ts ++ [b])) s = .next t ∧ OtherLinksStay p s t ∧
      link t.dev p = { link (receive p ts s.dev) p with state := if deep then 6 else 5 }) ∧
  (∀ (s : State) (p : PortId), (link s.dev p).state ≠ 0 → (link s.dev p).bcSleep = true → (link s.dev p).clkRef = true →
    (link s.dev p).bcq = [] → (link s.dev p).bcFree + 20000 ≤ s.dev.tu.ns →
    exec (.bcSleepTimer p) s = .next { s with dev := setLink p { link s.dev p with bcAsleep := true } s.dev }) ∧
  (∀ (s : State) (l : LaneId), laneRuns s.dev l = true → recalDue s.dev l = true →
    ∃ t, exec (.laneRecalTimer l) s = .next t ∧ (lane t.dev l).spare = (!(lane s.dev l).spare) ∧
      (lane t.dev l).cnt = (lane s.dev l).cnt.set 10 (min ((lane s.dev l).cnt[10] + 1) 0xFFFFFFFF) ∧
      (lane t.dev l).calNs = s.dev.tu.ns ∧ (lane t.dev l).calT = laneTemp s.dev l ∧ (lane t.dev l).ctle < 16 ∧
      (lane t.dev l).dfe.length = dfeTaps (laneCode s.dev l) ∧ (∀ k, k ≠ l → lane t.dev k = lane s.dev k) ∧
      t.dev.links = s.dev.links ∧ t.dev.out = s.dev.out) ∧
  (∀ (s : State) (l : LaneId) (fom : Nat), laneRuns s.dev l = true → (lane s.dev l).fomNs + 10000000 ≤ s.dev.tu.ns →
    bitOf s.dev.evt.mask 2 = true →
    ∃ t, exec (.fomMeasure l fom) s = .next t ∧
      lane t.dev l = { lane s.dev l with
        fom, low := if fom < 16 then (lane s.dev l).low + 1 else 0, fomNs := s.dev.tu.ns
        cnt := (lane s.dev l).cnt.set 13 (min (lane s.dev l).cnt[13] fom) } ∧
      (∀ k, k ≠ l → lane t.dev k = lane s.dev k) ∧
      t.dev.evt.seq = if fom < 16 ∧ (lane s.dev l).low = 2 ∧ l.val < 32 then (s.dev.evt.seq + 1) % 2 ^ 32
        else s.dev.evt.seq)

/-- 03 R103-R106. -/
def Obligations.LinkDiagReadsClearsAndScans : Prop :=
  (∀ (s : State) (t : Nat) (c : Outst), Begins specLinkDiagStatus t s c →
    exec (.linkDiagStatus t) s = .next (s.finish c 0 (diagStatus s.dev (diagLane c.e)) 0 s.dev)) ∧
  (∀ (d : Dev) (p : PortId), (link d p).state < 256 →
    diagStatus d (portLane p 0) % 256 = (link d p).state) ∧
  (∀ (s : State) (t : Nat) (c : Outst), Begins specLinkDiagCounters t s c →
    exec (.linkDiagCounters t) s = .next (s.finish c 0 0 0
      (postOut (dataOut c 0 ((laneCounters s.dev (diagLane c.e)).take c.e.dataLen.toNat)) s.dev))) ∧
  (∀ (d : Dev) (l : LaneId), (laneCounters d l).length = 64) ∧
  (∀ (s : State) (t : Nat) (c : Outst), Begins specLinkDiagCounterClear t s c →
    exec (.linkDiagCounterClear t) s = .next (s.finish c 0 0 0
      (setLane (diagLane c.e) { lane s.dev (diagLane c.e) with cnt := (Vector.replicate 16 0).set 13 255 } s.dev))) ∧
  (∀ (s : State) (t : Nat) (c : Outst), Begins specLinkDiagEyeScan t s c →
    (pam4Lane s.dev (diagLane c.e) = true ∨ fld c.e 42 1 = 1) → ScanAllowed s (diagLane c.e) →
    (lane s.dev (diagLane c.e)).scan = none →
    exec (.linkDiagEyeScan t) s = .next (s.await c .waiting
      (setLane (diagLane c.e) { lane s.dev (diagLane c.e) with scan := some t, scanStop := false } s.dev))) ∧
  (∀ (s : State) (t : Nat) (c : Outst), Begins specLinkDiagEyeScan t s c →
    (pam4Lane s.dev (diagLane c.e) = true ∨ fld c.e 42 1 = 1) →
    (¬ ScanAllowed s (diagLane c.e) ∨ (lane s.dev (diagLane c.e)).scan ≠ none) →
    exec (.linkDiagEyeScan t) s = .next (s.finish c 6 0 0 s.dev)) ∧
  (∀ (s : State) (t : Nat) (c : Outst), Begins specLinkDiagEyeScan t s c → pam4Lane s.dev (diagLane c.e) = false →
    fld c.e 42 1 ≠ 1 → exec (.linkDiagEyeScan t) s = .next { s with dev := complete c 2 0 0 42 s.dev }) ∧
  (∀ (s : State) (t : Nat) (c : Outst) (l : LaneId) (errors : List Nat), findOutst s.dev t = some c →
    scanLane s.dev t = some l → scanPoints c.e ≤ errors.length →
    exec (.eyeScanDone t errors) s = .next (s.finish c 0 (scanPoints c.e) 0
      (setLane l { lane s.dev l with scan := none, scanStop := false }
        (writeData c ((List.range (scanPoints c.e)).flatMap fun i => scanRecord c.e i (errors.getD i 0)) s.dev)))) ∧
  (∀ (s : State) (t : Nat) (c : Outst) (l : LaneId) (errors : List Nat), findOutst s.dev t = some c →
    scanLane s.dev t = some l → (lane s.dev l).scanStop = true → errors.length < scanPoints c.e →
    exec (.eyeScanDone t errors) s = .next (s.finish c 0 (errors.length + 2 ^ 16) 0
      (setLane l { lane s.dev l with scan := none, scanStop := false }
        (writeData c ((List.range errors.length).flatMap fun i => scanRecord c.e i (errors.getD i 0)) s.dev)))) ∧
  (∀ (s : State) (t : Nat) (l : LaneId) (errors : List Nat) (c : Outst), findOutst s.dev t = some c →
    scanLane s.dev t = some l → (lane s.dev l).scanStop = false → errors.length < scanPoints c.e →
    exec (.eyeScanDone t errors) s = .next s)

/-- 04 R120, R127. -/
def Obligations.TimeGridIsTheRoundedUpMultiple : Prop :=
  (∀ (g : Group) (k : Nat), 0 < g.num →
    g.phase ≤ timeGrid g k ∧ k * g.den * 1000000000 ≤ (timeGrid g k - g.phase) * g.num ∧
    (timeGrid g k - g.phase) * g.num < k * g.den * 1000000000 + g.num) ∧
  (∀ (g : Group) (s k : Nat), 0 < g.num → 0 < g.den →
    s ≤ timeGrid g (firstIndex g s) ∧ (k < firstIndex g s → timeGrid g k < s)) ∧
  (∀ g : Group, g.num = 120 → g.den = 1 → g.phase = 0 → timeGrid g 7 = 58333334)

/-- 04 R117-R119. -/
def Obligations.PortsAndGroupsAreConfigured : Prop :=
  (∀ (s : State) (t : Nat) (c : Outst), Begins specPortConfig t s c → fld c.e 32 1 = 1 →
    (fld c.e 37 1 = 0 ∨ memoryBindings s.dev (fld c.e 36 1) (portArg c.e) < 3) → capturing s.dev (portArg c.e) = false → (port s.dev (portArg c.e)).play = none → s.dev.pwr.state < 2 →
    ∃ d, exec (.portConfig t) s = .next (s.finish c 0 0 0 d) ∧
      (port d (portArg c.e)).enabled = true ∧ (port d (portArg c.e)).memory = (fld c.e 37 1 == 1) ∧
      (port d (portArg c.e)).isle = fld c.e 36 1 ∧ (port d (portArg c.e)).bits = fld c.e 38 1 ∧
      (port d (portArg c.e)).streams = fld c.e 39 1 ∧ (port d (portArg c.e)).samples = fld c.e 40 2 ∧
      (port d (portArg c.e)).height = fld c.e 42 2 ∧
      (port d (portArg c.e)).timing = { eo := fld c.e 48 4, ed := fld c.e 52 4, ls := fld c.e 56 4 } ∧
      (link d (portArg c.e)).state = 1 ∧ (link d (portArg c.e)).rate = fld c.e 34 1 ∧
      (link d (portArg c.e)).width = fld c.e 33 1 ∧ (link d (portArg c.e)).dHeld = false ∧
      ∀ q, q ≠ portArg c.e → port d q = port s.dev q ∧ link d q = link s.dev q) ∧
  (∀ (s : State) (t : Nat) (c : Outst), Begins specPortConfig t s c → fld c.e 32 1 = 0 →
    capturing s.dev (portArg c.e) = false →
    ∃ d, exec (.portConfig t) s = .next (s.finish c 0 0 0 d) ∧
      port d (portArg c.e) = { port s.dev (portArg c.e) with enabled := false } ∧ (link d (portArg c.e)).state = 0 ∧
      ∀ q, q ≠ portArg c.e → port d q = port s.dev q ∧ link d q = link s.dev q) ∧
  (∀ (s : State) (t : Nat) (c : Outst), Begins specPortConfig t s c → fld c.e 32 1 = 1 → fld c.e 37 1 = 1 →
    3 ≤ memoryBindings s.dev (fld c.e 36 1) (portArg c.e) →
    exec (.portConfig t) s = .next (s.finish c 2 0 0 s.dev)) ∧
  (∀ (s : State) (t : Nat) (c : Outst), Begins specPortConfig t s c → (fld c.e 32 1 = 0 ∨ fld c.e 37 1 = 0) →
    capturing s.dev (portArg c.e) = true → exec (.portConfig t) s = .next (s.finish c 6 0 0 s.dev)) ∧
  (∀ (s : State) (t : Nat) (c : Outst), Begins specGroupConfig t s c → fld c.e 32 1 ≠ 0 →
    (grp s.dev (groupArg c.e)).run = false → (∀ p : PortId, bitOf (fld c.e 32 1) p.val = true → capturing s.dev p = false) →
    ∃ d, exec (.groupConfig t) s = .next (s.finish c 0 0 0 d) ∧
      grp d (groupArg c.e) =
        { members := fld c.e 32 1, genlock := fld c.e 33 1 == 1, glDiv := fld c.e 34 1, falling := fld c.e 35 1 == 1
          num := fld c.e 36 4, den := fld c.e 40 4, phase := fld c.e 44 4, window := fld c.e 48 4 } ∧
      ∀ h, h ≠ groupArg c.e → ∀ p : PortId, bitOf (grp d h).members p.val =
        (bitOf (grp s.dev h).members p.val && !bitOf (fld c.e 32 1) p.val)) ∧
  (∀ (s : State) (t : Nat) (c : Outst), Begins specGroupConfig t s c → fld c.e 32 1 = 0 →
    (grp s.dev (groupArg c.e)).run = false →
    exec (.groupConfig t) s = .next (s.finish c 0 0 0 (setGrp (groupArg c.e) {} s.dev))) ∧
  (∀ (s : State) (t : Nat) (c : Outst), Begins specGroupConfig t s c → (grp s.dev (groupArg c.e)).run = true →
    exec (.groupConfig t) s = .next (s.finish c 6 0 0 s.dev))

/-- 04 R114, R120, R121, R127, R130. -/
def Obligations.CapturesStartTriggerAndStop : Prop :=
  (∀ (s : State) (t : Nat) (c : Outst), Begins specCaptureStart t s c → members s.dev (groupArg c.e) ≠ [] →
    (∀ p ∈ members s.dev (groupArg c.e), (port s.dev p).enabled = true ∧ (port s.dev p).play = none ∧
      isleAvail s.dev (port s.dev p).isle = true ∧
      linkCarries (grp s.dev (groupArg c.e)) (port s.dev p) (link s.dev p) = true) →
    (grp s.dev (groupArg c.e)).run = false → s.dev.pwr.state < 2 →
    admitFails s.dev (groupHandle (groupArg c.e)) true (captureWants s.dev (groupArg c.e) (fld c.e 48 2)) = none →
    ∃ d off ext, off ≤ 40 ∧ (fld c.e 48 2 = 0 → ext = 0) ∧
      (0 < fld c.e 48 2 → s.dev.evt.objs.length < 65000 → ∀ p ∈ members s.dev (groupArg c.e), ∃ h,
        (port d p).raw = some { handle := h, slots := fld c.e 48 2, frames := [] }) ∧ exec (.captureStart t) s = .next (s.finish c 0
        (if (grp s.dev (groupArg c.e)).genlock then 2 ^ 32
         else (timeGrid (grp s.dev (groupArg c.e))
           (firstIndex (grp s.dev (groupArg c.e)) (max (fld c.e 40 8) (c.ns + 1000000))) + off) % 2 ^ 32) ext d) ∧
      (grp d (groupArg c.e)).run = true ∧ (grp d (groupArg c.e)).next = fld c.e 32 4 ∧
      (grp d (groupArg c.e)).fired = false ∧ (grp d (groupArg c.e)).stop = none ∧
      (grp d (groupArg c.e)).s = max (fld c.e 40 8) (c.ns + 1000000) ∧
      ((grp s.dev (groupArg c.e)).genlock = false → (grp d (groupArg c.e)).first = some (timeGrid (grp s.dev (groupArg c.e))
        (firstIndex (grp s.dev (groupArg c.e)) (max (fld c.e 40 8) (c.ns + 1000000))) + off)) ∧
      { handle := groupHandle (groupArg c.e), opener := c.qp, st := 2 } ∈ d.evt.objs) ∧
  (∀ (s : State) (g : GroupId) (b T : Nat), nextTrig (grp s.dev g) = some T → (grp s.dev g).run = true →
    (grp s.dev g).ended = false → T ≤ b → b ≤ T + 40 → b ≤ s.dev.tu.ns →
    ((grp s.dev g).fired = false → ∀ x, (grp s.dev g).first = some x → x = b) →
    ∃ t, exec (.frameTrigger g b) s = .next t ∧ (grp t.dev g).next = fnAdd (grp s.dev g).next 1 ∧
      ((grp s.dev g).olds = [] → (grp t.dev g).k = (grp s.dev g).k + 1) ∧ (grp t.dev g).fired = true ∧ (grp t.dev g).lastT = b ∧
      ∀ p ∈ members s.dev g,
        (.bc p b (bcChars 2 ([0x10] ++ toLE 4 (grp s.dev g).next ++ [if (grp s.dev g).fired then 0 else 1])) : Out) ∈ t.dev.out ∧
        ∃ x, (port t.dev p).await = (port s.dev p).await ++ [x] ∧ x.num = (grp s.dev g).next ∧ x.t = b ∧ x.doom = 0) ∧
  (∀ (s : State) (g : GroupId) (b T : Nat), nextTrig (grp s.dev g) = some T → b < T →
    exec (.frameTrigger g b) s = .next s) ∧
  (∀ (s : State) (t : Nat) (c : Outst), Begins specCaptureStop t s c → fld c.e 32 1 = 0 → fld c.e 36 4 = 0xFFFFFFFF →
    (grp s.dev (groupArg c.e)).run = true → (grp s.dev (groupArg c.e)).fired = true →
    (grp s.dev (groupArg c.e)).stop = none →
    groupLatestEnd s.dev c.ns (groupArg c.e) (fnPred (grp s.dev (groupArg c.e)).next) ≤ c.ns + 80000000 →
    ∃ d, exec (.captureStop t) s = .next (s.await c .stepped d) ∧ (grp d (groupArg c.e)).ended = true ∧
      (grp d (groupArg c.e)).stop =
        some { frame := fnPred (grp s.dev (groupArg c.e)).next, immediate := false, cmds := [c.tag] }) ∧
  (∀ (s : State) (t : Nat) (c : Outst), Begins specCaptureStop t s c → fld c.e 32 1 = 1 →
    (grp s.dev (groupArg c.e)).run = true → (grp s.dev (groupArg c.e)).fired = true →
    (grp s.dev (groupArg c.e)).stop = none →
    ∃ d, exec (.captureStop t) s = .next (s.await c .stepped d) ∧ (grp d (groupArg c.e)).ended = true ∧
      (grp d (groupArg c.e)).stop =
        some { frame := fnPred (grp s.dev (groupArg c.e)).next, immediate := true, cmds := [c.tag] }) ∧
  (∀ (s : State) (t : Nat) (c : Outst), Begins specCaptureStop t s c → (grp s.dev (groupArg c.e)).run = false →
    exec (.captureStop t) s = .next (s.finish c 6 0 0 s.dev)) ∧
  (∀ (s : State) (g : GroupId) (x : Stop), (grp s.dev g).stop = some x → (grp s.dev g).run = true →
    (grp s.dev g).ended = true → (∀ p ∈ members s.dev g, memberIdle s.dev p = true ∧ rawBusy s.dev p = false) →
    ∃ t, exec (.captureStopDone g) s = .next t ∧ (grp t.dev g).run = false ∧ (grp t.dev g).stop = none ∧
      (∀ r ∈ t.dev.evt.resv, r.owner ≠ groupHandle g) ∧ (∀ o ∈ t.dev.evt.objs, o.handle ≠ groupHandle g) ∧
      ∀ n ∈ x.cmds, findOutst t.dev n = none) ∧
  (∀ (s : State) (g : GroupId) (e : Nat), (grp s.dev g).anchor = some e → (grp s.dev g).run = true →
    (grp s.dev g).ended = false → (grp s.dev g).genlock = true → (grp s.dev g).free = false →
    e + periods (grp s.dev g) (grp s.dev g).glDiv + 10000 ≤ s.dev.tu.ns →
    ∃ t, exec (.genlockTimeout g) s = .next t ∧ grp t.dev g = { grp s.dev g with free := true } ∧
      (bitOf s.dev.evt.mask 2 = true → t.dev.evt.seq = (s.dev.evt.seq + 1) % 2 ^ 32)) ∧
  (∀ (s : State) (g : GroupId), (grp s.dev g).anchor = none → (grp s.dev g).run = true →
    (grp s.dev g).ended = false → (grp s.dev g).genlock = true → (grp s.dev g).s + 1000000000 ≤ s.dev.tu.ns →
    ∃ t, exec (.genlockStartTimeout g) s = .next t ∧
      grp t.dev g = { grp s.dev g with free := true, anchor := some ((grp s.dev g).s + 1000000000) } ∧
      (bitOf s.dev.evt.mask 2 = true → t.dev.evt.seq = (s.dev.evt.seq + 1) % 2 ^ 32))

/-- 04 R110-R113, R123-R126. -/
def Obligations.PacketsOpenFillAndCloseFrames : Prop :=
  (∀ (s : State) (p : PortId) (ts : List BlkTime) (d : Dev) (l : List (Byte × Bool)), receive p ts s.dev = d →
    (port d p).hunt = false → skipPads (port d p).rx = l → 8 ≤ l.length → headerBad ((l.take 8).map (·.1)) = true →
    ∃ t, exec (.smiwaldHunt p ts) s = .next t ∧
      (port t.dev p).cnt[7] = min ((port d p).cnt[7] + 1) 0xFFFFFFFF ∧
      ((port t.dev p).hunt = true → (port t.dev p).rx.length < 8) ∧
      ((port t.dev p).hunt = false → headerAccepted (port t.dev p) (((port t.dev p).rx.take 8).map (·.1)) = true)) ∧
  (∀ (s : State) (p : PortId) (ts : List BlkTime) (d : Dev), receive p ts s.dev = d → (port d p).hunt = true →
    8 ≤ (port d p).rx.length → headerAccepted (port d p) (((port d p).rx.take 8).map (·.1)) = true →
    exec (.smiwaldHunt p ts) s = .next { s with dev := setPort p { port d p with hunt := false } d }) ∧
  (∀ (s : State) (p : PortId) (ts : List BlkTime) (d : Dev) (k : Pkt) (w : Trig),
    takeFront p ts (· == 1) s.dev = (d, some k) → expectsFrames d p = true →
    awaited (port d p) = some w → w.num = le (pktPayload k) 0 4 → d.tu.ns < deadlineOf d p w →
    (∀ l ∈ (port d p).late, l.1 ≠ w.num) → (port d p).cur = none → (port d p).fillEnd ≤ nowPclk d →
    (port d p).await.head? = some w →
    ∃ t f, exec (.fsPacket p ts) s = .next t ∧ (port t.dev p).cur = some f ∧ f.num = w.num ∧ f.t = w.t ∧ f.lines = [] ∧
      (bitOf f.status 4 = !(le (pktPayload k) 4 4 == w.tm.eo && le (pktPayload k) 8 4 == w.tm.ed &&
        le (pktPayload k) 12 4 == w.tm.ls)) ∧
      (∀ x ∈ (port t.dev p).await, x.num ≠ w.num)) ∧
  (∀ (s : State) (p : PortId) (ts : List BlkTime) (d : Dev) (k : Pkt) (f : Machine.Frm),
    takeFront p ts (· == 2) s.dev = (d, some k) → openFor (port d p) k = some f →
    le (pktPayload k) 0 4 = f.num → (port d p).await = [] →
    ∃ t g, exec (.fePacket p ts) s = .next t ∧ (port t.dev p).cur = none ∧ (port t.dev p).done = some g ∧ g.num = f.num ∧
      g.lines = f.lines ∧ g.filled = f.filled + tailLines (port d p) f ∧
      (tailLines (port d p) f ≠ 0 → bitOf g.status 1 = true ∧ bitOf g.status 6 = true)) ∧
  (∀ (s : State) (p : PortId) (ts : List BlkTime) (d : Dev) (k : Pkt) (f : Machine.Frm),
    takeFront p ts (· == 3) s.dev = (d, some k) → openFor (port d p) k = some f →
    pktLen k = lineLen (port d p) → pktStream k = 0 → 0 < (port d p).streams → pktLine k = f.next0 →
    f.next0 ≤ (port d p).height → (port d p).store = [] →
    ∃ t g, exec (.linePacket p ts) s = .next t ∧ (port t.dev p).cur = some g ∧ g.num = f.num ∧
      g.lines = f.lines ++ [(0, f.next0, pktPayload k)] ∧ g.checks = f.checks ++ [crc32c (pktPayload k)] ∧
      g.next0 = f.next0 + 1 ∧ g.lastNs = d.tu.ns) ∧
  (∀ (s : State) (p : PortId) (ts : List BlkTime) (d : Dev) (k : Pkt) (f : Machine.Frm),
    takeFront p ts (· == 4) s.dev = (d, some k) → openFor (port d p) k = some f →
    f.emb.length < (port d p).emb → pktLen k ≤ lineLen (port d p) →
    ∃ t g, exec (.embeddedPacket p ts) s = .next t ∧ (port t.dev p).cur = some g ∧
      g.emb = f.emb ++ [k.bytes.take (8 + pktSize k)]) ∧
  (∀ (s : State) (p : PortId) (ts : List BlkTime) (d : Dev) (k : Pkt),
    takeFront p ts (5 < ·) s.dev = (d, some k) → pcrcOk k = true → k.blockErr = false →
    exec (.unknownTypePacket p ts) s = .next { s with dev := setPort p { port d p with
      cnt := (port d p).cnt.set 15 (min ((port d p).cnt[15] + 1) 0xFFFFFFFF) } d }) ∧
  (∀ (s : State) (p : PortId) (f : Machine.Frm), (port s.dev p).cur = some f → (port s.dev p).await = [] →
    f.lastNs + 64 * f.tm.ls / 1000 ≤ s.dev.tu.ns →
    ∃ t g, exec (.lineTimeout p) s = .next t ∧ (port t.dev p).cur = none ∧ (port t.dev p).done = some g ∧ g.num = f.num) ∧
  (∀ (s : State) (p : PortId) (w : Trig), awaited (port s.dev p) = some w → deadlineOf s.dev p w ≤ s.dev.tu.ns →
    (port s.dev p).cur = none →
    ∃ t g, exec (.fsDeadline p) s = .next t ∧ (∀ x ∈ (port t.dev p).await, x.num ≠ w.num) ∧
      (port t.dev p).done = some g ∧ g.num = w.num ∧
      g.status = 1 + 64 + 256 * (if (link s.dev p).state = 4 then 1 else 2) + 4096 * b2n w.free ∧ g.filled = allLines (port s.dev p))

/-- 04 R114, R133, R134, R138, R139. -/
def Obligations.SensorControlAndFrameFetch : Prop :=
  (∀ (s : State) (t : Nat) (c : Outst), Begins specSensorCtrlWrite t s c → (link s.dev (portArg c.e)).state = 4 →
    framePassed s.dev (portArg c.e) (fld c.e 40 4) = false → (port s.dev (portArg c.e)).ctrl.length < 64 →
    ∃ d, exec (.sensorCtrlWrite t) s = .next (s.await c .stepped d) ∧
      HandsOver (portArg c.e) 2 ([0x11, (port s.dev (portArg c.e)).ctag] ++ toLE 4 (fld c.e 40 4) ++
        toLE 4 (fld c.e 36 4) ++ [BitVec.ofNat 8 (fld c.e 33 1)] ++ fit (fld c.e 33 1 + 1) c.e.data) s { s with dev := d }
        (some (port s.dev (portArg c.e)).ctag) ∧
      (port d (portArg c.e)).ctrl.map (fun w => (w.tag, w.cmd, w.read)) =
        (port s.dev (portArg c.e)).ctrl.map (fun w => (w.tag, w.cmd, w.read)) ++
        [((port s.dev (portArg c.e)).ctag, c.tag, false)] ∧
      (port d (portArg c.e)).ctag = (port s.dev (portArg c.e)).ctag + 1) ∧
  (∀ (s : State) (t : Nat) (c : Outst), Begins specSensorCtrlRead t s c → (link s.dev (portArg c.e)).state = 4 →
    (port s.dev (portArg c.e)).ctrl.length < 64 →
    ∃ d, exec (.sensorCtrlRead t) s = .next (s.await c .stepped d) ∧
      HandsOver (portArg c.e) 2 ([0x12, (port s.dev (portArg c.e)).ctag] ++
        toLE 4 (fld c.e 36 4) ++ [BitVec.ofNat 8 (fld c.e 33 1)]) s { s with dev := d }
        (some (port s.dev (portArg c.e)).ctag) ∧
      (port d (portArg c.e)).ctrl.map (fun w => (w.tag, w.cmd, w.read)) =
        (port s.dev (portArg c.e)).ctrl.map (fun w => (w.tag, w.cmd, w.read)) ++
        [((port s.dev (portArg c.e)).ctag, c.tag, true)]) ∧
  (∀ (s : State) (t : Nat) (c : Outst), Begins specSensorCtrlRead t s c → (link s.dev (portArg c.e)).state = 4 →
    64 ≤ (port s.dev (portArg c.e)).ctrl.length →
    exec (.sensorCtrlRead t) s = .next (s.finish c 0x0203 0 0 s.dev)) ∧
  (∀ (s : State) (t : Nat) (c : Outst), Begins specSensorCtrlWrite t s c → (link s.dev (portArg c.e)).state = 4 →
    framePassed s.dev (portArg c.e) (fld c.e 40 4) = false → 64 ≤ (port s.dev (portArg c.e)).ctrl.length →
    exec (.sensorCtrlWrite t) s = .next (s.finish c 0x0203 0 0 s.dev)) ∧
  (∀ (s : State) (t : Nat) (c : Outst), Begins specSensorCtrlTiming t s c →
    framePassed s.dev (portArg c.e) (fld c.e 40 4) = false → fld c.e 40 4 ≠ 0xFFFFFFFF →
    exec (.sensorCtrlTiming t) s = .next (s.finish c 0 0 0 (setPort (portArg c.e) { port s.dev (portArg c.e) with
      later := (port s.dev (portArg c.e)).later ++
        [(fld c.e 40 4, { eo := fld c.e 44 4, ed := fld c.e 48 4, ls := fld c.e 52 4 })] } s.dev))) ∧
  (∀ (s : State) (t : Nat) (c : Outst), Begins specSensorCtrlTiming t s c →
    framePassed s.dev (portArg c.e) (fld c.e 40 4) = false → fld c.e 40 4 = 0xFFFFFFFF →
    exec (.sensorCtrlTiming t) s = .next (s.finish c 0 0 0 (setPort (portArg c.e) { port s.dev (portArg c.e) with
      timing := { eo := fld c.e 44 4, ed := fld c.e 48 4, ls := fld c.e 52 4 }, later := [] } s.dev))) ∧
  (∀ (s : State) (t : Nat) (c : Outst), Begins specSensorCtrlCounters t s c →
    exec (.sensorCtrlCounters t) s = .next (s.finish c 0 0 0
      (postOut (dataOut c 0 ((portCounters (port s.dev (portArg c.e))).take c.e.dataLen.toNat)) s.dev))) ∧
  (∀ (s : State) (p : PortId) (ts : List BlkTime) (d : Dev) (k : Pkt) (w : CtrlWait) (c : Outst),
    takeFront p ts (· == 5) s.dev = (d, some k) → pcrcOk k = true →
    k.blockErr = false → ctrlOf d p (BitVec.ofNat 8 (le (pktPayload k) 0 1)) = some w → findOutst d w.cmd = some c →
    ∃ d', exec (.ctrlRespPacket p ts) s = .next (if le (pktPayload k) 1 1 = 0 then s.finish c 0 0 0
          (if w.read then writeData c (((pktPayload k).drop 4).take (le (pktPayload k) 2 1 + 1)) d' else d')
        else s.finish c 0x0202 (le (pktPayload k) 1 1) 0 d') ∧ d'.host = d.host ∧
      ctrlOf d' p (BitVec.ofNat 8 (le (pktPayload k) 0 1)) = none) ∧
  (∀ (s : State) (p : PortId) (ts : List BlkTime) (d : Dev) (k : Pkt) (w : CtrlWait) (c : Outst),
    takeFront p ts (· == 5) s.dev = (d, some k) → pcrcOk k = false →
    ctrlOf d p (BitVec.ofNat 8 (le (pktPayload k) 0 1)) = some w → w.read = true → findOutst d w.cmd = some c →
    ∃ d', exec (.ctrlRespPacket p ts) s = .next (s.finish c stIntegrityLink 0 0 d') ∧ d'.host = d.host ∧
      ctrlOf d' p (BitVec.ofNat 8 (le (pktPayload k) 0 1)) = none) ∧
  (∀ (s : State) (p : PortId) (tag : Byte) (w : CtrlWait) (c : Outst) (a : Nat), ctrlOf s.dev p tag = some w →
    w.sent = some a → a + 10000000 ≤ s.dev.tu.ns → findOutst s.dev w.cmd = some c →
    ∃ t, exec (.sensorNoResponse p tag) s = .next t ∧
      t = { s with dev := bumpPort p 14 1 (complete c 0x0201 0 0 0xFF (dropCtrl p tag s.dev)) } ∧
      findOutst t.dev w.cmd = none ∧ ctrlOf t.dev p tag = none ∧
      (port t.dev p).cnt[14] = min ((port s.dev p).cnt[14] + 1) 0xFFFFFFFF) ∧
  (∀ (s : State) (t : Nat) (c : Outst) (p : PortId) (own : Bool) (f : Machine.Frm) (r : RawBuf), Begins specFrameFetch t s c →
    fetchPort s.dev c.e.handle.toNat = some (p, own) → (fld c.e 37 1 = 0 ∨ (port s.dev p).streams = 2) →
    fld c.e 40 2 + fld c.e 42 2 ≤ (port s.dev p).height → fetchBytes (port s.dev p) c.e ≤ c.e.dataLen.toNat →
    (port s.dev p).raw = some r → fld c.e 32 4 ≠ 0xFFFFFFFF → (fld c.e 32 4 = 0xFFFFFFFE → r.frames.getLast? = some f) →
    (fld c.e 32 4 < 0xFFFFFFFE → f.num = fld c.e 32 4) → (r.frames.find? fun x => x.num == f.num) = some f →
    (∀ w ∈ (port s.dev p).fetch, w.own = true) →
    ∃ d, exec (.frameFetch t) s = .next (s.await c .waiting d) ∧
      { cmd := t, num := some f.num, own := false, shut := true, frm := some f } ∈ (port d p).fetch ∧
      (port d p).raw = some r) ∧
  (∀ (s : State) (t : Nat) (c : Outst) (p : PortId) (g : GroupId), Begins specFrameFetch t s c →
    fetchPort s.dev c.e.handle.toNat = some (p, true) → fld c.e 32 4 = 0xFFFFFFFF →
    (fld c.e 37 1 = 0 ∨ (port s.dev p).streams = 2) → fld c.e 40 2 + fld c.e 42 2 ≤ (port s.dev p).height →
    fetchBytes (port s.dev p) c.e ≤ c.e.dataLen.toNat → groupOf s.dev p = some g → (grp s.dev g).run = true →
    (grp s.dev g).ended = false → groupLatestEnd s.dev c.ns g (grp s.dev g).next ≤ c.ns + 80000000 →
    admitFails s.dev (2 ^ 40 + c.tag) true (fetchWants s.dev p) = none → (∀ w ∈ (port s.dev p).fetch, w.own = true) →
    ∃ d, exec (.frameFetch t) s = .next (s.await c .waiting d) ∧
      { cmd := t, num := none, own := true, shut := false, frm := none } ∈ (port d p).fetch) ∧
  (∀ (s : State) (t : Nat) (c : Outst) (p : PortId) (w : FetchWait) (f : Machine.Frm) (r : TileRead),
    findOutst s.dev t = some c → (port s.dev p).fetch.find? (fun w => w.cmd == t) = some w → w.frm = some f →
    (∀ q, q ≠ p → fetchReady (port s.dev q) t = none) → fetchRead c p w.own f s.dev = r → r.bad = [] → r.lost = false →
    ∃ u d, exec (.frameFetchDone t) s = .next u ∧ (∀ v ∈ (port d p).fetch, v.cmd ≠ t) ∧
      d.host = (postOut (dataOut c 0 ((fetchData (port r.dev p) r.frm c.e).take c.e.dataLen.toNat)) r.dev).host ∧
      d.out = (postOut (dataOut c 0 ((fetchData (port r.dev p) r.frm c.e).take c.e.dataLen.toNat)) r.dev).out ∧
      u = s.mapDev fun _ => pumpFetches p (returnResv (2 ^ 40 + t)
        (complete c 0 (r.frm.num + (fetchData (port r.dev p) r.frm c.e).length % 2 ^ 32 * 2 ^ 32) 0 0xFF d)))

/-- 05 R156-R161; 06 R198-R205. -/
def Obligations.IsleLoadsTakeEffectThroughShadows : Prop :=
  (∀ (s : State) (t : Nat) (c : Outst) (i : IsleId) (p : PortId) (fe : List Byte), Begins specIsleConfig t s c →
    i = isleArg c.e → p = portOf (fld c.e 32 1) → fe = fit 128 c.e.data → feValid fe = true →
    applyCheck s.dev c.ns p (fld c.e 36 4) = none → isleAvail s.dev i.val = true → pendingShadow (isle s.dev i) 1 p.val 0 = false →
    (geometryChange (ctxOf s.dev i p).pipe.fe fe = true → capturing s.dev p = false ∧ loadPending s.dev i p = false) →
    admitFails s.dev (ctxOwner i.val p.val) false [(0x0A, 0xFF, ctxLagoon fe)] = none →
    Shadowed s c i (newShadow c 1 p.val 0 p (fld c.e 36 4) fe) (fun d => OtherPipesStay s d i p ∧
      (ctxOf d i p).ob = List.replicate 12 0 ∧
      (geometryChange (ctxOf s.dev i p).pipe.fe fe = false →
        (ctxOf d i p).pipe = { (ctxOf s.dev i p).pipe with fe := fe }) ∧
      (geometryChange (ctxOf s.dev i p).pipe.fe fe = true → (ctxOf d i p).pipe.fe = fe ∧
        (ctxOf d i p).pipe.defects = [] ∧ (ctxOf d i p).pipe.col0 = [] ∧ (ctxOf d i p).pipe.kern = [] ∧
        (ctxOf d i p).pipe.shading = List.replicate (filters fe * shadeGx fe * shadeGy fe) 4096 ∧
        (ctxOf d i p).pipe.grid = List.replicate 576 0)) (exec (.isleConfig t) s)) ∧
  (∀ (s : State) (t : Nat) (c : Outst) (i : IsleId) (p : PortId), Begins specIsleConfig t s c →
    i = isleArg c.e → p = portOf (fld c.e 32 1) → feValid (fit 128 c.e.data) = true →
    applyCheck s.dev c.ns p (fld c.e 36 4) = none → pendingShadow (isle s.dev i) 1 p.val 0 = true →
    exec (.isleConfig t) s = .next (s.finish c 6 0 0 s.dev)) ∧
  (∀ (s : State) (t : Nat) (c : Outst) (i : IsleId) (p : PortId) (l : List Byte), Begins specFeTableLoad t s c →
    i = isleArg c.e → p = portOf (fld c.e 32 1) →
    l = fit ((fld c.e 40 4 + 1) * tableEntry (fld c.e 33 1)) c.e.data →
    tableCountOk (ctxOf s.dev i p).pipe.fe (fld c.e 33 1) (fld c.e 40 4 + 1) = true →
    (fld c.e 33 1 = 2 → firstBadDefect ((List.range (fld c.e 40 4 + 1)).map fun j => le l (4 * j) 4) = none) →
    applyCheck s.dev c.ns p (fld c.e 36 4) = none → isleAvail s.dev i.val = true →
    pendingShadow (isle s.dev i) 2 p.val (tableSub (fld c.e 33 1) (fld c.e 34 1)) = false →
    geometryPending s.dev i p = false →
    Shadowed s c i (newShadow c 2 p.val (tableSub (fld c.e 33 1) (fld c.e 34 1)) p (fld c.e 36 4) l)
      (fun d => OtherPipesStay s d i p ∧ (ctxOf d i p).pipe =
        (if fld c.e 33 1 = 1 then
          if fld c.e 34 1 = 0 then { (ctxOf s.dev i p).pipe with col0 := (words16 l).map (signed 16) }
          else { (ctxOf s.dev i p).pipe with col1 := (words16 l).map (signed 16) }
        else if fld c.e 33 1 = 2 then
          { (ctxOf s.dev i p).pipe with defects := (List.range (l.length / 4)).map fun j => le l (4 * j) 4 }
        else if fld c.e 33 1 = 3 then { (ctxOf s.dev i p).pipe with shading := words16 l }
        else { (ctxOf s.dev i p).pipe with xtalk := (words16 l).map (signed 16) })) (exec (.feTableLoad t) s)) ∧
  (∀ (s : State) (t : Nat) (c : Outst) (i : IsleId) (p : PortId) (fe : List Byte), Begins specCfaKernelLoad t s c →
    i = isleArg c.e → p = portOf (fld c.e 32 1) → fe = (ctxOf s.dev i p).pipe.fe →
    c.e.dataLen.toNat = fld c.e 33 1 * cfaW fe * cfaH fe * filters fe * 162 →
    applyCheck s.dev c.ns p (fld c.e 36 4) = none → isleAvail s.dev i.val = true →
    pendingShadow (isle s.dev i) 3 p.val 0 = false → geometryPending s.dev i p = false →
    ∃ sh, sh.kind = 3 ∧ sh.port = p.val ∧ Shadowed s c i sh (fun d => OtherPipesStay s d i p ∧
      ∃ k, k.length = fld c.e 33 1 ∧ (ctxOf d i p).pipe = { (ctxOf s.dev i p).pipe with
        kern := k, edgeGain := fld c.e 34 1, edgeCore := fld c.e 40 4 }) (exec (.cfaKernelLoad t) s)) ∧
  (∀ (s : State) (t : Nat) (c : Outst) (i : IsleId) (p : PortId), Begins specColourLoadParams t s c →
    i = isleArg c.e → p = portOf (fld c.e 33 1) →
    paramsValid (filters (ctxOf s.dev i p).pipe.fe) (fit 256 c.e.data) = true →
    applyCheck s.dev c.ns p (fld c.e 36 4) = none → isleAvail s.dev i.val = true →
    pendingShadow (isle s.dev i) 4 p.val 0 = false → geometryPending s.dev i p = false →
    Shadowed s c i (newShadow c 4 p.val 0 p (fld c.e 36 4) (fit 256 c.e.data)) (fun d => OtherPipesStay s d i p ∧
      (ctxOf d i p).pipe = { (ctxOf s.dev i p).pipe with params := fit 256 c.e.data }) (exec (.colourLoadParams t) s)) ∧
  (∀ (s : State) (t : Nat) (c : Outst) (i : IsleId) (p : PortId), Begins specColourLoadBlendGrid t s c →
    i = isleArg c.e → p = portOf (fld c.e 33 1) → (words16 (fit 1152 c.e.data)).all (· ≤ 32768) = true →
    applyCheck s.dev c.ns p (fld c.e 36 4) = none → isleAvail s.dev i.val = true →
    pendingShadow (isle s.dev i) 5 p.val 0 = false → geometryPending s.dev i p = false →
    Shadowed s c i (newShadow c 5 p.val 0 p (fld c.e 36 4) (fit 1152 c.e.data)) (fun d => OtherPipesStay s d i p ∧
      (ctxOf d i p).pipe = { (ctxOf s.dev i p).pipe with grid := words16 (fit 1152 c.e.data) })
      (exec (.colourLoadBlendGrid t) s)) ∧
  (∀ (s : State) (t : Nat) (c : Outst) (i : IsleId) (p : PortId), Begins specColourLoadTapOutput t s c →
    i = isleArg c.e → p = portOf (fld c.e 34 1) → tapOutputValid (fit 64 c.e.data) = true →
    applyCheck s.dev c.ns p (fld c.e 36 4) = none → isleAvail s.dev i.val = true →
    pendingShadow (isle s.dev i) 6 (fld c.e 33 1) 0 = false →
    Shadowed s c i (newShadow c 6 (fld c.e 33 1) 0 p (fld c.e 36 4) (fit 64 c.e.data))
      (fun d => (∀ q, (ctxOf d i q).pipe = (ctxOf s.dev i q).pipe) ∧
        (isle d i).tapOut = (isle s.dev i).tapOut.set (tapIdx (fld c.e 33 1)) (fit 64 c.e.data))
      (exec (.colourLoadTapOutput t) s)) ∧
  (∀ (s : State) (t : Nat) (c : Outst) (i : IsleId) (p : PortId), Begins specLookSelect t s c →
    i = isleArg c.e → p = portOf (fld c.e 32 1) → applyCheck s.dev c.ns p (fld c.e 36 4) = none → isleAvail s.dev i.val = true →
    (∀ sh ∈ (isle s.dev i).shadows, sh.kind ≠ 7) →
    ∃ sh, sh.kind = 7 ∧ sh.port = p.val ∧ Shadowed s c i sh (fun d =>
      (∀ k : Fin 4, (isle d i).looks[k] = if bitOf (fld c.e 33 1) k.val then
        { active := (isle s.dev i).looks[k].inactive, inactive := (isle s.dev i).looks[k].active }
        else (isle s.dev i).looks[k]) ∧
      (∀ u : Fin 8, (isle d i).route[u] =
        if fld c.e (40 + u.val) 1 = 0xFF then (isle s.dev i).route[u] else fld c.e (40 + u.val) 1))
      (exec (.lookSelect t) s))

/-- 05 R160, R165-R167; 06 R184, R202. -/
def Obligations.IsleFramesAndStatistics : Prop :=
  (∀ (s : State) (i : IsleId) (p : PortId) (f : Machine.Frm), (port s.dev p).enabled = true → (port s.dev p).isle = i.val →
    isleAvail s.dev i.val = true → (port s.dev p).memory = false → (port s.dev p).play = none → (port s.dev p).area = [] → (port s.dev p).cur = some f →
    (∀ r, (ctxOf s.dev i p).run = some r → r.num ≠ f.num) →
    ∃ t, exec (.isleFrameStart i p) s = .next t ∧ (∀ sh ∈ (isle t.dev i).shadows, shadowDue sh p f.num f.t = false) ∧
      ∃ r, (ctxOf t.dev i p).run = some r ∧ r.num = f.num ∧ r.pipe = (ctxOf t.dev i p).pipe ∧ r.taps.length = 8) ∧
  (∀ (s : State) (i : IsleId) (p : PortId) (f : Machine.Frm) (l : List Machine.Frm), (port s.dev p).enabled = true →
    (port s.dev p).isle = i.val → isleAvail s.dev i.val = true → (port s.dev p).memory = true → (isle s.dev i).tm = none →
    (isle s.dev i).wait.head? = some p.val → (port s.dev p).area = f :: l →
    ∃ t r, exec (.isleFrameStart i p) s = .next t ∧ (ctxOf t.dev i p).run = some r ∧ r.num = f.num ∧
      (isle t.dev i).tm = some { port := p.val, num := f.num, rows := 0 } ∧ (isle t.dev i).wait = (isle s.dev i).wait.drop 1) ∧
  (∀ (s : State) (t : Nat) (c : Outst) (sh : Shadow) (i : IsleId), findOutst s.dev t = some c →
    sh ∈ (isle s.dev i).shadows → sh.cmd = t → sh.deferred = false → c.ns + 90000000 ≤ s.dev.tu.ns →
    (∀ j x, x ∈ (isle s.dev j).shadows → x.cmd = t → x = sh ∧ j = i) →
    (∀ x ∈ s.dev.enc, ∀ f, x.2.force = some f → f.cmd ≠ t) →
    ∃ d, exec (.commandDeferTimeout t) s =
        .next (s.finish c 0 (sh.hit.getD 0xFFFFFFFF + 2 ^ 32) 0 d) ∧
      (isle d i).shadows = (isle s.dev i).shadows.map fun x => if x.cmd = t then { x with deferred := true } else x) ∧
  (∀ (s : State) (t : Nat) (c : Outst) (i : IsleId) (p : PortId) (rate : Nat), Begins specStatsSubscribeStart t s c →
    i = isleArg c.e → p = portOf (fld c.e 32 1) → isleAvail s.dev i.val = true → (ctxOf s.dev i p).sub = none →
    (fld c.e 34 2 + 1) * recordStride (ctxOf s.dev i p).pipe.fe ≤ c.e.dataLen.toNat →
    rate = divUp (recordStride (ctxOf s.dev i p).pipe.fe * fld c.e 40 2) ((fld c.e 38 1 + 1) * 1000000) →
    admitFails s.dev (statOwner i p) true [(0x08, 0xFF, rate), (0x0B, 0, rate)] = none →
    ∃ d b, exec (.statsSubscribeStart t) s = .next (s.finish c 0 (0x04000000 + i.val) 0 d) ∧
      (ctxOf d i p).sub = some b ∧ b.slots = fld c.e 34 2 ∧ b.vector = fld c.e 36 2 ∧ b.decim = fld c.e 38 1 ∧
      b.fpsMax = fld c.e 40 2 ∧ b.seq = 0 ∧ heldBy d (statOwner i p) 0x0B 0 = rate ∧
      OtherPipesStay s d i p ∧ (ctxOf d i p).pipe = (ctxOf s.dev i p).pipe) ∧
  (∀ (s : State) (t : Nat) (c : Outst) (i : IsleId) (p : PortId), Begins specStatsSubscribeStart t s c →
    i = isleArg c.e → p = portOf (fld c.e 32 1) → (ctxOf s.dev i p).sub ≠ none →
    (fld c.e 34 2 + 1) * recordStride (ctxOf s.dev i p).pipe.fe ≤ c.e.dataLen.toNat →
    exec (.statsSubscribeStart t) s = .next (s.finish c 6 0 0 s.dev)) ∧
  (∀ (s : State) (t : Nat) (c : Outst) (b : StatSub), Begins specStatsSubscribeStop t s c →
    (ctxOf s.dev (isleArg c.e) (portOf (fld c.e 32 1))).sub = some b → b.closing = none →
    (ctxOf s.dev (isleArg c.e) (portOf (fld c.e 32 1))).fin = none →
    ∃ d, exec (.statsSubscribeStop t) s = .next (s.finish c 0 (b.seq % 2 ^ 63) 0 d) ∧
      (ctxOf d (isleArg c.e) (portOf (fld c.e 32 1))).sub = none ∧
      holds d (statOwner (isleArg c.e) (portOf (fld c.e 32 1))) = false) ∧
  (∀ (s : State) (t : Nat) (c : Outst) (b : StatSub), Begins specStatsSubscribeStop t s c →
    (ctxOf s.dev (isleArg c.e) (portOf (fld c.e 32 1))).sub = some b → b.closing = none →
    (ctxOf s.dev (isleArg c.e) (portOf (fld c.e 32 1))).fin ≠ none →
    ∃ d, exec (.statsSubscribeStop t) s = .next (s.await c .waiting d) ∧
      (ctxOf d (isleArg c.e) (portOf (fld c.e 32 1))).sub = some { b with closing := some c.tag }) ∧
  (∀ (s : State) (t : Nat) (c : Outst), Begins specStatsSubscribeStop t s c →
    (ctxOf s.dev (isleArg c.e) (portOf (fld c.e 32 1))).sub = none →
    exec (.statsSubscribeStop t) s = .next (s.finish c 6 0 0 s.dev)) ∧
  (∀ (s : State) (i : IsleId) (p : PortId) (n : Nat) (fin : FinFrm) (b : StatSub), (ctxOf s.dev i p).fin = some (n, fin) →
    (ctxOf s.dev i p).sub = some b → deliversFrom fin.ep s.dev = true → b.vector = 0 → b.closing = none →
    ∃ t, exec (.statsRecord i p) s = .next t ∧
      t.dev.out = .ring (statOwner i p) ((n - 1) % (b.slots + 1)) n (statsRecord fin n) :: s.dev.out ∧
      (ctxOf t.dev i p).fin = none ∧
      (ctxOf t.dev i p).sub = some { b with wrote := tabSet b.wrote ((n - 1) % (b.slots + 1)) n }) ∧
  (∀ (i : IsleId) (p : PortId) (fin : FinFrm) (b : StatSub) (d : Dev), (ctxOf d i p).sub = some b →
    statsTakes b fin.frm.t = true →
    (ctxOf (statsReady i p fin d) i p).sub =
      some { b with seq := b.seq + 1, pos := b.pos + 1, lastT := some fin.frm.t } ∧
    ((ctxOf d i p).fin = none → deliversFrom fin.ep d = true → recordLen fin.pipe.fe ≤ b.stride →
      (ctxOf (statsReady i p fin d) i p).fin = some (b.seq + 1, fin)) ∧
    (∀ x, (ctxOf d i p).fin = some x → (ctxOf (statsReady i p fin d) i p).fin = some x ∧
      (ctxOf (statsReady i p fin d) i p).dropped = (ctxOf d i p).dropped + 1)) ∧
  (∀ (s : State) (i : IsleId) (p : PortId) (fin : FinFrm), (ctxOf s.dev i p).gridOf = some fin →
    ∃ t, exec (.blendGridUpdate i p) s = .next t ∧ (ctxOf t.dev i p).gridOf = none ∧ OtherPipesStay s t.dev i p ∧
      (ctxOf t.dev i p).pipe = { (ctxOf s.dev i p).pipe with grid := gridUpdate fin (ctxOf s.dev i p).pipe.grid }) ∧
  (∀ (s : State) (t : Nat) (c : Outst) (i : IsleId), Begins specColourLoadLook t s c → i = isleArg c.e →
    lookValid (fit c.e.dataLen.toNat c.e.data) = true → firstBadLut (fit c.e.dataLen.toNat c.e.data) = none →
    (bitOf (le (fit c.e.dataLen.toNat c.e.data) 0 1) 2 = true → c.e.dataLen.toNat = 1656006) →
    isleAvail s.dev i.val = true → (∀ sh ∈ (isle s.dev i).shadows, sh.kind ≠ 7) →
    ∃ d, exec (.colourLoadLook t) s = .next (s.finish c 0 0 0 d) ∧ (∀ k : Fin 4, (isle d i).looks[k] =
      if k.val = fld c.e 33 1 then
        { (isle s.dev i).looks[k] with inactive := fit c.e.dataLen.toNat c.e.data } else (isle s.dev i).looks[k])) ∧
  (∀ (s : State) (i : IsleId) (r : TmRun) (k : Port), (isle s.dev i).tm = some r → k = port s.dev (portOf r.port) →
    r.rows ≠ 0 → (isle s.dev i).rowEnd ≤ nowPclk s.dev → rowFits s.dev i (16 * k.streams * linePclk k + 512) = true →
    16 * (r.rows + 1) < k.height + 1 → k.area ≠ [] →
    ∃ t x, exec (.tileRowStart i) s = .next t ∧ (isle t.dev i).tm = some x ∧ x.rows = r.rows + 1 ∧
      x.port = r.port ∧ x.num = r.num ∧
      (isle t.dev i).rowEnd = nowPclk s.dev + (16 * k.streams * linePclk k + 512) ∧
      ∀ q, q ≠ portOf r.port → port t.dev q = port s.dev q) ∧
  (∀ (s : State) (i : IsleId) (r : TmRun) (k : Port), (isle s.dev i).tm = some r → k = port s.dev (portOf r.port) →
    r.rows ≠ 0 → (nowPclk s.dev < (isle s.dev i).rowEnd ∨ rowFits s.dev i (16 * k.streams * linePclk k + 512) = false) →
    exec (.tileRowStart i) s = .next s)

/-- 07 R218-R221; 11 R310, R313. -/
def Obligations.TapsAndKnownAnswers : Prop :=
  (∀ (s : State) (t : Nat) (c : Outst) (i : IsleId) (k : TapId) (l : List Byte) (p : PortId) (b m : Nat),
    Begins specTapConfigEnable t s c → (i, k) = tapArg c.e → l = fit c.e.dataLen.toNat c.e.data → p = portOf (tapPort l) →
    b = (if (port s.dev p).enabled then (port s.dev p).bits else 16) →
    m = (if (port s.dev p).enabled then (port s.dev p).streams else 2) → b ≤ 16 → m ≤ 2 → tapValid l = true →
    (tapSource l = 0 ∨ cropX l % cfaW (ctxOf s.dev i p).pipe.fe = 0 ∧ (cropW l + 1) % cfaW (ctxOf s.dev i p).pipe.fe = 0 ∧
      cropY l % cfaH (ctxOf s.dev i p).pipe.fe = 0 ∧ (cropH l + 1) % cfaH (ctxOf s.dev i p).pipe.fe = 0) →
    (le l 32 8 = 0 ∨ (le l 42 2 + 1) * ringStride (planeShape (tapFormat l) (outW l + 1) (outH l + 1) b m) ≤ c.e.ringBytes) →
    ninthRing (tapOf s.dev i k) l = false → c.e.dataLen.toNat = 128 + 128 * (hTaps l + vTaps l) * coefSrc l → tapRate l m ≤ 32000 →
    applyCheck s.dev c.ns p (fld c.e 32 4) = none → isleAvail s.dev i.val = true →
    (∀ sh ∈ (isle s.dev i).shadows, sh.kind ≠ 8 ∧ sh.kind ≠ 9) →
    ((tapOf s.dev i k).att = [] ∨ tapFixedPart (tapOf s.dev i k).cfg = tapFixedPart l) →
    admitFails s.dev (tapHandle i k) true (tapWants i l b m) = none →
    Shadowed s c i (newShadow c 8 k.val 0 p (fld c.e 32 4) ([BitVec.ofNat 8 b, BitVec.ofNat 8 m] ++ l)) (fun d =>
      (tapOf d i k).on = true ∧ (tapOf d i k).cfg = l ∧ (tapOf d i k).ring = newRing (tapOf s.dev i k) l b m ∧
      (∀ q, q ≠ k → tapOf d i q = tapOf s.dev i q) ∧ ∀ q, (ctxOf d i q).pipe = (ctxOf s.dev i q).pipe)
      (exec (.tapConfigEnable t) s)) ∧
  (∀ (s : State) (t : Nat) (c : Outst) (l : List Byte), Begins specTapConfigEnable t s c →
    l = fit c.e.dataLen.toNat c.e.data → (port s.dev (portOf (tapPort l))).enabled = false → 32000 < tapRate l 2 →
    exec (.tapConfigEnable t) s = .next (s.finish c 2 0 0 s.dev)) ∧
  (∀ (s : State) (t : Nat) (c : Outst) (i : IsleId) (k : TapId) (p : PortId), Begins specTapConfigDisable t s c →
    (i, k) = tapArg c.e → p = portOf (tapPort (tapOf s.dev i k).cfg) → applyCheck s.dev c.ns p (fld c.e 32 4) = none →
    isleAvail s.dev i.val = true → (∀ sh ∈ (isle s.dev i).shadows, sh.kind ≠ 8 ∧ sh.kind ≠ 9) →
    (tapOf s.dev i k).att = [] →
    Shadowed s c i (newShadow c 9 k.val 0 p (fld c.e 32 4) []) (fun d =>
      (tapOf d i k).on = false ∧ (tapOf d i k).ring = none ∧ holds d (tapHandle i k) = false ∧
      ∀ q, q ≠ k → tapOf d i q = tapOf s.dev i q) (exec (.tapConfigDisable t) s)) ∧
  (∀ (s : State) (t : Nat) (c : Outst) (i : IsleId) (k : TapId), Begins specTapConfigDisable t s c →
    (i, k) = tapArg c.e → applyCheck s.dev c.ns (portOf (tapPort (tapOf s.dev i k).cfg)) (fld c.e 32 4) = none →
    (tapOf s.dev i k).att ≠ [] → exec (.tapConfigDisable t) s = .next (s.finish c 6 0 0 s.dev)) ∧
  (∀ (s : State) (i : IsleId) (k : TapId) (r : HRing) (n : Nat) (tf : TapFin), (tapOf s.dev i k).ring = some r →
    (tapOf s.dev i k).out = some (n, tf) → deliversFrom tf.fin.ep s.dev = true → r.vector = 0 →
    ∃ t, exec (.tapRingFrameDone i k) s = .next t ∧
      t.dev.out = .ring (tapHandle i k) ((n - 1) % (r.slots + 1)) n
        (ringHeader i k tf (axisRecord s.dev tf.fin.frm.port tf.fin.frm.num) n ++ tapPlanes tf.fin tf.snap) :: s.dev.out ∧
      tapOf t.dev i k = { tapOf s.dev i k with
        out := none, ring := some { r with wrote := tabSet r.wrote ((n - 1) % (r.slots + 1)) n } }) ∧
  (∀ (s : State) (i : IsleId) (k : TapId) (r : HRing) (n : Nat) (tf : TapFin), (tapOf s.dev i k).ring = some r →
    (tapOf s.dev i k).out = some (n, tf) → deliversFrom tf.fin.ep s.dev = false →
    ∃ t, exec (.tapRingFrameDone i k) s = .next t ∧
      tapOf t.dev i k = { tapOf s.dev i k with out := none, dropped := (tapOf s.dev i k).dropped + 1 }) ∧
  (∀ (d : Dev) (i : IsleId) (k : TapId) (n : Nat) (r : HRing), (tapOf d i k).ring = some r →
    (tapOf (ringTake i k n d).1 i k).ring = some { r with seq := r.seq + 1 } ∧
    ((tapOf d i k).out = none → delivering d = true → (ringTake i k n d).2 = some (r.seq + 1) ∧
      (ringTake i k n d).1.out = ringBusy (tapHandle i k) r.slots (r.seq + 1) r.wrote :: d.out) ∧
    (((tapOf d i k).out ≠ none ∨ delivering d = false) → (ringTake i k n d).2 = none ∧
      (tapOf (ringTake i k n d).1 i k).dropped = (tapOf d i k).dropped + 1)) ∧
  (∀ (s : State) (i : IsleId) (p : PortId),
    ∃ t, exec (.katExpectedReady i p) s = .next t ∧
      ctxOf t.dev i p = { ctxOf s.dev i p with katReady := true, katNext := true }) ∧
  (∀ (s : State) (i : IsleId) (p : PortId) (crc : Word), (ctxOf s.dev i p).katRun = false →
    exec (.katCompare i p crc) s = .next s) ∧
  (∀ (s : State) (i : IsleId) (p : PortId) (crc : Word), (ctxOf s.dev i p).katRun = true →
    (ctxOf s.dev i p).katWait = [] → crc = katWant s.dev i p →
    ∃ t, exec (.katCompare i p crc) s = .next t ∧ t.dev.evt = s.dev.evt ∧ t.dev.integ = (bumpInteg (14 + 5 * i.val) s.dev).integ ∧
      ∃ n, ctxOf t.dev i p = { ctxOf s.dev i p with
        katDone := some (n, true), katRun := false, katSkips := 0, katStarved := false }) ∧
  (∀ (s : State) (i : IsleId) (p : PortId) (crc : Word) (r : RunSnap), (ctxOf s.dev i p).katRun = true →
    (ctxOf s.dev i p).katWait = [] → crc ≠ katWant s.dev i p → (ctxOf s.dev i p).run = some r → Queues s 1 →
    ∃ t, exec (.katCompare i p crc) s = .next t ∧
      t.dev.evt.queue = s.dev.evt.queue ++ [newEvent s 1 5 (0x04000000 + i.val) (r.num + p.val * 2 ^ 32)] ∧
      t.dev.integ = (bumpInteg (15 + 5 * i.val) s.dev).integ ∧
      ctxOf t.dev i p = { ctxOf s.dev i p with
        katDone := some (r.num, false), katRun := false, katSkips := 0, katStarved := false })

/-- 08 R231, R237, R246-R252. -/
def Obligations.EncodeSessionsOpenChangeAndClose : Prop :=
  (∀ (s : State) (t : Nat) (c : Outst) (i : IsleId) (k : TapId) (own cfg tp : List Byte) (lad : Option Ladder)
      (w h n slot : Nat) (rate : Nat × Nat) (engines : List Nat),
    Begins specEncOpen t s c → (i, k) = tapArg c.e → own = fit 128 c.e.data → tp = (tapOf s.dev i k).cfg →
    lad = (if joinsGroup own then ladderOf s.dev (eoLadder own) else none) → cfg = withTop s.dev own lad →
    w = outW tp + 1 → h = outH tp + 1 → rate = (tapFps tp * decK tp, decM tp) →
    (joinsGroup own = true → lad.isSome = true ∧ (ladderSessions s.dev (eoLadder cfg)).length < 8) →
    lad.all (memberFixed s.dev own) = true → lad.all (memberOk s.dev i k) = true →
    (eoLadder cfg = 0xFFFFFFFF → (freeSlot s.dev 7 16).isSome = true) →
    (tapOf s.dev i k).on = true → s.dev.pwr.state < 2 → isleAvail s.dev i.val = true → 128 ≤ w → 64 ≤ h → tapSource tp = 0 →
    profileTakes (eoProfile cfg) (tapFormat tp) = true →
    (eoDirect cfg = true → w ≤ 4096 ∧ (eoAv1 cfg = true → h ≤ 4096)) →
    (eoLevel cfg = 0 ∨ levelNeeded cfg w h rate ≤ eoLevel cfg) → encN cfg w (w * h) rate = some n → capsOk cfg w h n = true →
    (eoNeng cfg = 0 ∨ columnsOk (eoAv1 cfg) w (eoNeng cfg) = true) → attCount s.dev i k < 8 →
    placeEnc s.dev (eoDirect cfg) (encShare cfg (w * h) rate n) n (List.range 8) [] = some engines →
    freeSlot s.dev 6 64 = some slot →
    admitFails (openObj 6 slot c.qp 1 s.dev).2 (openObj 6 slot c.qp 1 s.dev).1 true
      (encWants cfg w h (tapFormat tp) rate (eoLadder cfg == 0xFFFFFFFF) engines) = none →
    ∃ d x ext, exec (.encOpen t) s =
        .next (s.finish c 0 ((openObj 6 slot c.qp 1 s.dev).1 + x.ladder * 2 ^ 32) ext d) ∧
      tabGet d.enc slot = some x ∧ x.handle = (openObj 6 slot c.qp 1 s.dev).1 ∧ x.tap = c.e.handle.toNat ∧ x.cfg = cfg ∧
      x.engines = engines ∧ x.count = 0 ∧ x.closing = [] ∧ (eoLadder cfg = 0 → x.ladder = 0) ∧
      (joinsGroup cfg = true → x.ladder = eoLadder cfg) ∧
      (eoLadder cfg = 0xFFFFFFFF → ∃ q ∈ d.ladders, q.2.handle = x.ladder ∧ q.2.top = x.handle) ∧
      (1, x.handle) ∈ (tapOf d i k).att ∧ ∀ j, j ≠ slot → tabGet d.enc j = tabGet s.dev.enc j) ∧
  (∀ (s : State) (t : Nat) (c : Outst) (slot : Nat) (x : EncSes) (i : IsleId) (k : TapId) (p : PortId),
    Begins specEncReconfig t s c → encOf s.dev c.e.handle.toNat = some (slot, x) → tabGet s.dev.enc slot = some x →
    slot < 64 →
    tapByHandle (if bitOf (le (bodyBytes c.e) 0 2) 9 then le (bodyBytes c.e) 28 4 else x.tap) = some (i, k) →
    (bitOf (le (bodyBytes c.e) 0 2) 9 = true → newTapOk s.dev x i k = true ∧ attCount s.dev i k < 8) →
    p = portOf (tapPort (tapOf s.dev i k).cfg) → reconfigValid s.dev x (bodyBytes c.e) = true →
    applyCheck s.dev c.ns p (fld c.e 36 4) = none → (tapOf s.dev i k).on = true → x.closing = [] → x.shed = false →
    (∀ j, pendingShadow (isle s.dev j) 10 slot 0 = false) →
    admitFails s.dev x.handle true
      (encWants (encApply x.cfg (bodyBytes c.e)) x.w x.h x.fmt x.rate (isTop s.dev x) x.engines) = none →
    Shadowed s c i (newShadow c 10 slot 0 p (fld c.e 36 4) (bodyBytes c.e)) (fun d =>
      tabGet d.enc slot = some { x with
        newTap := if bitOf (le (bodyBytes c.e) 0 2) 9 then some (le (bodyBytes c.e) 28 4, 2 ^ 32) else x.newTap
        later := x.later ++ [(2 ^ 32, bodyBytes c.e)] } ∧
      ∀ j, j ≠ slot → tabGet d.enc j = tabGet s.dev.enc j) (exec (.encReconfig t) s)) ∧
  (∀ (s : State) (t : Nat) (c : Outst) (slot : Nat) (x : EncSes) (i : IsleId) (k : TapId) (p : PortId),
    Begins specEncForce t s c → encOf s.dev c.e.handle.toNat = some (slot, x) → tabGet s.dev.enc slot = some x →
    encSource s.dev x = some (i, k, p) → applyCheck s.dev c.ns p (fld c.e 36 4) = none → x.force = none →
    ∃ d, exec (.encForce t) s = .next (s.await c .waiting d) ∧ tabGet d.enc slot = some { x with
      force := some { cmd := c.tag, lead := true, actions := fldBits c.e 32 0 4, apply := fld c.e 36 4
                      minT := c.ns + 100000, deferred := false } }) ∧
  (∀ (s : State) (t : Nat) (c : Outst) (lead : Nat) (rest : List Nat) (x : EncSes) (i : IsleId) (k : TapId) (p : PortId),
    Begins specEncForce t s c → forceTargets s.dev c.e.handle.toNat = lead :: rest → tabGet s.dev.enc lead = some x →
    encSource s.dev x = some (i, k, p) → applyCheck s.dev c.ns p (fld c.e 36 4) = none →
    (∀ sl ∈ lead :: rest, ∀ y, tabGet s.dev.enc sl = some y → y.force = none) →
    ∃ d, exec (.encForce t) s = .next (s.await c .waiting d) ∧ ∀ sl ∈ lead :: rest, ∀ y, tabGet s.dev.enc sl = some y →
      ∃ f, tabGet d.enc sl = some { y with force := some f } ∧ f.cmd = c.tag ∧ f.actions = fldBits c.e 32 0 4 ∧
        f.apply = fld c.e 36 4 ∧ f.deferred = false) ∧
  (∀ (s : State) (t : Nat) (c : Outst) (slot : Nat) (x : EncSes) (i : IsleId) (k : TapId) (p : PortId),
    Begins specEncForce t s c → encOf s.dev c.e.handle.toNat = some (slot, x) → tabGet s.dev.enc slot = some x →
    encSource s.dev x = some (i, k, p) → applyCheck s.dev c.ns p (fld c.e 36 4) = none → x.force ≠ none →
    exec (.encForce t) s = .next (s.finish c 6 0 0 s.dev)) ∧
  (∀ (s : State) (t : Nat) (c : Outst) (slot : Nat) (x : EncSes), Begins specEncClose t s c →
    encOf s.dev c.e.handle.toNat = some (slot, x) → tabGet s.dev.enc slot = some x →
    (isTop s.dev x = true → (ladderSessions s.dev x.ladder).length ≤ 1) →
    ∃ d y, exec (.encClose t) s = .next (s.await c .stepped d) ∧ tabGet d.enc slot = some y ∧
      y.closing = x.closing ++ [c.tag] ∧ y.now = (x.now || fld c.e 32 1 == 1) ∧ y.count = x.count ∧
      ∀ j, j ≠ slot → tabGet d.enc j = tabGet s.dev.enc j) ∧
  (∀ (s : State) (t slot : Nat) (c : Outst) (x : EncSes), tabGet s.dev.enc slot = some x → x.closing = [t] →
    findOutst s.dev t = some c → x.cur = none → encFrames s.dev x = [] → runningFrame s.dev x.tap = none →
    isTop s.dev x = false → s.dev.pcie.short = false → x.force = none →
    (∀ j, ∀ sh ∈ (isle s.dev j).shadows, sh.kind = 10 → sh.idx ≠ slot) →
    (eoAv1 x.cfg = true ∨ x.now = true ∨ x.eos = true ∨ x.count = 0) →
    ∃ d, exec (.encCloseDone slot) s =
        .next (s.finish c 0 (x.last.getD 0xFFFFFFFF + x.count % 2 ^ 32 * 2 ^ 32) 0 d) ∧
      tabGet d.enc slot = none ∧ holds d x.handle = false ∧ (∀ o ∈ d.evt.objs, o.handle ≠ x.handle) ∧
      ∀ j, j ≠ slot → tabGet d.enc j = tabGet s.dev.enc j) ∧
  (∀ (s : State) (slot frame : Nat) (vecs : List FieldVec) (x : EncSes), tabGet s.dev.enc slot = some x →
    isTop s.dev x = true → ((frameFor s.dev x frame).isSome = true ∨ x.last = some frame) →
    vecs.length = fieldWidth x.w * divUp x.h 16 → (∀ v ∈ vecs, searchOk v = true) →
    exec (.motionFieldDone slot frame vecs) s = .next { s with dev := { s.dev with ladders := s.dev.ladders.map fun p =>
      if p.2.handle = x.ladder then (p.1, { p.2 with fields :=
        ({ num := frame, ns := s.dev.tu.ns, vecs := vecs.map searchVec } :: p.2.fields.filter (fun f => f.num != frame)).take 8 })
      else p } }) ∧
  (∀ v : FieldVec, searchVec v = (4 * v.quarter.1 + 2 * v.half.1 + v.full.1, 4 * v.quarter.2 + 2 * v.half.2 + v.full.2))

/-- 08 R233, R235, R238, R253, R254. -/
def Obligations.PicturesAreCodedAndEnginesReset : Prop :=
  (∀ (s : State) (slot e k : Nat) (rows : List RowCode) (x y : EncSes) (w : EncWork) (tf : TapFin) (d : Dev) (r : RcRun),
    tabGet s.dev.enc slot = some x → x.engines.idxOf? e = some k → pictureAt s.dev x = some (y, w, tf, d) →
    engineHead s.dev e = some slot → encHeld s.dev x = false → codePart d y w.plan k rows = some r →
    (readSource y tf k y.engines.length d).2 = false →
    (readRefs y w.plan k y.engines.length (readSource y tf k y.engines.length d).1).2 = [] →
    ((w.parts.set k (some r)).all Option.isSome = false → ∃ t z v, exec (.encPictureDone slot e rows) s = .next t ∧
      tabGet t.dev.enc slot = some z ∧ z.work = some v ∧ v.plan = w.plan ∧ v.parts = w.parts.set k (some r) ∧
      z.count = y.count) ∧
    ((w.parts.set k (some r)).all Option.isSome = true → ∃ t z a l, exec (.encPictureDone slot e rows) s = .next t ∧
      tabGet t.dev.enc slot = some z ∧ z.count = y.count + 1 ∧ z.last = some w.plan.pic.num ∧ z.work = none ∧
      z.gop = y.gop.drop 1 ∧ z.au = some a ∧ a.num = tf.fin.frm.num ∧
      a.bytes = w.plan.head ++ tileUnits y w.plan ((w.parts.set k (some r)).filterMap id) ++ l ∧
      z.sinceKey = (if w.plan.pic.key then 1 else if w.plan.pic.radl then y.sinceKey else y.sinceKey + 1) ∧
      z.handle = y.handle ∧ z.engines = y.engines)) ∧
  (∀ (s : State) (slot e k : Nat) (rows : List RowCode) (x y : EncSes) (w : EncWork) (tf : TapFin) (d : Dev) (r : RcRun),
    tabGet s.dev.enc slot = some x → x.engines.idxOf? e = some k → pictureAt s.dev x = some (y, w, tf, d) →
    engineHead s.dev e = some slot → encHeld s.dev x = false → codePart d y w.plan k rows = some r →
    ((readSource y tf k y.engines.length d).2 = true ∨
      (readRefs y w.plan k y.engines.length (readSource y tf k y.engines.length d).1).2 ≠ []) →
    ∃ t z, exec (.encPictureDone slot e rows) s = .next t ∧ tabGet t.dev.enc slot = some z ∧ z.count = y.count ∧
      z.work = none) ∧
  (∀ (s : State) (slot : Nat) (row : RowCode) (x y : EncSes) (r : EncRow) (f : Machine.Frm) (d : Dev),
    tabGet s.dev.enc slot = some x → rowAt s.dev x = some (y, r, f, d) →
    eoDirect y.cfg = true → encHeld s.dev y = false → rowOk d y r.plan 0 (ctus y.w) r.rows row = true →
    rowPresented s.dev x r.num r.rows = true → r.rows + 1 < ctus y.h → (readRefs y r.plan r.rows (ctus y.h) d).2 = [] →
    ∃ t z q l, exec (.encRowDone slot row) s = .next t ∧ tabGet t.dev.enc slot = some z ∧ z.cur = some q ∧
      q.num = r.num ∧ q.rows = r.rows + 1 ∧ q.bytes = r.bytes ++ l ∧ l ≠ [] ∧ q.fault = r.fault ∧ z.count = y.count ∧
      ∀ j, j ≠ slot → tabGet t.dev.enc j = tabGet s.dev.enc j) ∧
  (∀ (s : State) (e : EncEng), ∃ t, exec (.encParityError e) s = .next t ∧ t.dev.encReset = setBit s.dev.encReset e.val ∧
    (∀ slot x r, OneEnc s slot x → eoDirect x.cfg = true → e.val ∈ x.engines → x.cur = some r →
      (directFrame s.dev x).map Frm.num = some r.num →
      tabGet t.dev.enc slot = some { x with cur := some { r with fault := 1, floorAll := true } }) ∧
    (∀ slot x y w tf d, OneEnc s slot x → (∀ p ∈ s.dev.enc, eoDirect p.2.cfg = true → e.val ∉ p.2.engines) →
      engineHead s.dev e.val = some slot → pictureAt s.dev x = some (y, w, tf, d) →
      ∃ z, tabGet t.dev.enc slot = some z ∧ z.count = x.count ∧ z.work = none)) ∧
  (∀ (s : State) (slot : Nat) (x : EncSes) (p : GopPic) (n : Nat), OneEnc s slot x → eoDirect x.cfg = false →
    nextPicture s.dev x = some (p, n) → n + 50000000 ≤ s.dev.tu.ns →
    (∀ w, x.work = some w → (frameFor s.dev x w.plan.pic.num).isSome = true) →
    ∃ t z, exec (.encPictureTimeout slot) s = .next t ∧
      (∀ e ∈ x.engines, (partReady s.dev x e).isSome = true → bitOf t.dev.encReset e = true) ∧
      tabGet t.dev.enc slot = some z ∧ z.count = x.count ∧ z.work = none ∧ t.dev.tu = s.dev.tu) ∧
  (∀ (s : State) (slot : Nat) (x : EncSes) (r : EncRow) (f : Machine.Frm), OneEnc s slot x → eoDirect x.cfg = true →
    x.cur = some r → x.engines ≠ [] → directFrame s.dev x = some f → f.num = r.num → encHeld s.dev x = false → r.fault = 0 →
    rowPresented s.dev x f.num r.rows = true → rowInstant s.dev x f r.rows + 4096 ≤ s.dev.tu.ns →
    ∃ t, exec (.encRowTimeout slot) s = .next t ∧ (∀ e ∈ x.engines, bitOf t.dev.encReset e = true) ∧
      tabGet t.dev.enc slot = some { x with cur := some { r with fault := 1, floorAll := true } }) ∧
  (∀ (s : State) (e : EncEng), exec (.encEngineResetDone e) s =
    .next { s with dev := { s.dev with encReset := clearBit s.dev.encReset e.val } })

/-- 09 R267-R275. -/
def Obligations.HolmSessions : Prop :=
  (∀ (s : State) (t : Nat) (c : Outst) (p : PortId) (cfg : List Byte) (slot : Nat), Begins specHolmOpen t s c →
    p = portOf (hIdx c.e.handle.toNat) → cfg = fit 128 c.e.data → holmValid cfg = true →
    (hoRing cfg = false ∨ hoSlotBytes cfg = 0 ∨ auMax cfg (geoOf (port s.dev p)) ≤ hoSlotBytes cfg) →
    ((port s.dev p).streams = 1 → bitOf (hoStreams cfg) 1 = false) → (port s.dev p).enabled = true →
    isleAvail s.dev (port s.dev p).isle = true →
    isleHolmRate s.dev (port s.dev p).isle + holmRate cfg (geoOf (port s.dev p)) ≤ 32000000000 →
    freeSlot s.dev 9 8 = some slot →
    admitFails (openObj 9 slot c.qp 1 s.dev).2 (openObj 9 slot c.qp 1 s.dev).1 true
      (holmWants (port s.dev p).isle (port s.dev p) cfg) = none →
    ∃ d x, exec (.holmOpen t) s = .next (s.finish c 0 (openObj 9 slot c.qp 1 s.dev).1 0 d) ∧ tabGet d.holm slot = some x ∧
      x.handle = (openObj 9 slot c.qp 1 s.dev).1 ∧ x.port = p.val ∧ x.isle = (port s.dev p).isle ∧ x.cfg = cfg ∧
      x.geo = geoOf (port s.dev p) ∧ x.work = [] ∧ x.count = 0 ∧ ∀ j, j ≠ slot → tabGet d.holm j = tabGet s.dev.holm j) ∧
  (∀ (s : State) (slot : Nat) (ch : List HolmChoice) (x : HolmSes) (w : HolmWork),
    tabGet s.dev.holm slot = some x → x.work.find? (wantsRow x) = some w →
    ch.length = rowBlocks x.geo (hoList x.cfg) → rowCame s.dev x w = true →
    ∃ t y, exec (.holmRowDone slot ch) s = .next t ∧ tabGet t.dev.holm slot = some y ∧
      (y.work.map fun v => (v.num, v.rows)) = (x.work.map fun v =>
        (v.num, if v.num = w.num then v.rows ++ [{ at' := s.dev.tu.ns, choices := ch }] else v.rows)) ∧
      y = { x with work := y.work } ∧ ∀ j, j ≠ slot → tabGet t.dev.holm j = tabGet s.dev.holm j) ∧
  (∀ (s : State) (slot : Nat) (x : HolmSes) (w : HolmWork) (l : List HolmWork) (f : Machine.Frm),
    tabGet s.dev.holm slot = some x → x.work = w :: l → w.frm = some f → wantsRow x w = false →
    ∃ t y a, exec (.holmAuDone slot) s = .next t ∧ tabGet t.dev.holm slot = some y ∧ y.work = l ∧ y.last = some f.num ∧
      y.count = x.count + 1 ∧ y.au = some a ∧ a.num = f.num ∧
      a.bytes = (holmAu x.cfg x.geo f (axisRecord s.dev x.port f.num) (holmDamaged x.memory f w) w).bytes) ∧
  (∀ (s : State) (i : IsleId) (slot : Nat) (x : HolmSes) (w : HolmWork), (s.dev.holm.map (·.1)).Nodup →
    tabGet s.dev.holm slot = some x → x.isle = i.val → inProgress s.dev x = some w →
    (∃ t, exec (.holmParityError i) s = .next t ∧ tabGet t.dev.holm slot = some { x with
      work := x.work.map fun v => if v.num = w.num then { v with fault := 1 } else v }) ∧
    (rowLate s.dev x = true → ∃ t, exec (.holmRowTimeout i) s = .next t ∧ tabGet t.dev.holm slot = some { x with
      work := x.work.map fun v => if v.num = w.num then { v with fault := 2 } else v })) ∧
  (∀ (s : State) (t : Nat) (c : Outst) (slot : Nat) (x : HolmSes), Begins specHolmClose t s c → fld c.e 32 1 = 1 →
    holmOf s.dev c.e.handle.toNat = some (slot, x) → tabGet s.dev.holm slot = some x →
    ∃ d, exec (.holmClose t) s = .next (s.await c .stepped d) ∧
      tabGet d.holm slot = some { holmCut c.ns x with closing := x.closing ++ [c.tag], now := true } ∧
      ∀ j, j ≠ slot → tabGet d.holm j = tabGet s.dev.holm j) ∧
  (∀ (s : State) (t : Nat) (c : Outst) (slot : Nat) (x : HolmSes), Begins specHolmClose t s c → fld c.e 32 1 = 0 →
    holmOf s.dev c.e.handle.toNat = some (slot, x) → tabGet s.dev.holm slot = some x → x.closing = [] →
    (∀ w ∈ x.work, w.t ≤ c.ns → latestEnd (port s.dev (portOf x.port)) w.tm w.t +
      (if x.memory then portPeriod s.dev (portOf x.port) else 0) ≤ c.ns + 80000000) →
    ∃ d, exec (.holmClose t) s = .next (s.await c .stepped d) ∧
      tabGet d.holm slot = some { x with closing := [c.tag], work := x.work.filter fun w => decide (w.t ≤ c.ns) } ∧
      ∀ j, j ≠ slot → tabGet d.holm j = tabGet s.dev.holm j) ∧
  (∀ (s : State) (t slot : Nat) (c : Outst) (x : HolmSes), tabGet s.dev.holm slot = some x → x.closing = [t] →
    findOutst s.dev t = some c → x.work = [] → s.dev.pcie.short = false →
    ∃ d, exec (.holmCloseDone slot) s = .next (s.finish c 0 (x.last.getD 0xFFFFFFFF + x.count * 2 ^ 32) 0 d) ∧
      tabGet d.holm slot = none ∧ holds d x.handle = false ∧ (∀ o ∈ d.evt.objs, o.handle ≠ x.handle))

/-- 10 R281-R299. -/
def Obligations.DecodeSessions : Prop :=
  (∀ (s : State) (t : Nat) (c : Outst) (cfg : List Byte) (slot : Nat) (engine : Option Nat), Begins specDecOpen t s c →
    cfg = fit 128 c.e.data → decValid cfg = true → s.dev.pwr.state < 2 →
    (doIsle cfg = true → playFree s.dev cfg = true ∧ memoryBindings s.dev (doIsleOf cfg) (doPort cfg) < 3) →
    engine = (if doRt cfg then placeDec s.dev (divUp ((doMaxW cfg + 1) * (doMaxH cfg + 1) * doFps cfg) 1000000) else none) →
    (doRt cfg = true → engine ≠ none) → freeSlot s.dev 8 16 = some slot →
    admitFails (openObj 8 slot c.qp 1 s.dev).2 (openObj 8 slot c.qp 1 s.dev).1 (doRt cfg) (decWants cfg engine) = none →
    ∃ d x, exec (.decOpen t) s = .next (s.finish c 0 (openObj 8 slot c.qp 1 s.dev).1 (engine.getD 0xFF) d) ∧
      tabGet d.dec slot = some x ∧ x.handle = (openObj 8 slot c.qp 1 s.dev).1 ∧ x.cfg = cfg ∧ x.engine = engine ∧
      x.input = [] ∧ x.outq = [] ∧ x.count = 0 ∧ ∀ j, j ≠ slot → tabGet d.dec j = tabGet s.dev.dec j) ∧
  (∀ (s : State) (t : Nat) (c : Outst) (slot n : Nat) (x : DecSes), Begins specDecSubmit t s c → n = c.e.dataLen.toNat →
    decOf s.dev c.e.handle.toNat = some (slot, x) → tabGet s.dev.dec slot = some x → readAhead s.dev c = false →
    n ≤ inFree x → c.e.data.take n ≠ [] → x.input = [] → bitOf (fld c.e 32 1) 1 = false → bitOf (fld c.e 32 1) 2 = false →
    ∃ d y i, exec (.decSubmit t) s = .next (s.finish c 0 (x.subs + 1 + (inFree x - n) * 2 ^ 32) 0 d) ∧
      tabGet d.dec slot = some y ∧ y = { x with subs := x.subs + 1, input := [i], inBytes := x.inBytes + (c.e.data.take n).length } ∧ i.seq = x.subs + 1 ∧
      i.bytes = c.e.data.take n ∧ i.tag = fld c.e 36 4 ∧
      i.pts = (if fld c.e 40 8 = 2 ^ 64 - 1 then none else some (fld c.e 40 8))) ∧
  (∀ (s : State) (t : Nat) (c : Outst) (slot n : Nat) (x : DecSes), (Begins specDecSubmit t s c ∨ Begins specDecMark t s c) →
    n = c.e.dataLen.toNat → decOf s.dev c.e.handle.toNat = some (slot, x) → tabGet s.dev.dec slot = some x →
    readAhead s.dev c = false → n ≤ inFree x →
    ∃ d y, exec (.decSubmit t) s = .next (s.finish c 0 (x.subs + 1 + (inFree x - n) * 2 ^ 32) 0 d) ∧
      tabGet d.dec slot = some y ∧ y.subs = x.subs + 1 ∧ y.count = x.count) ∧
  (∀ (s : State) (t : Nat) (c : Outst) (slot : Nat) (x : DecSes), Begins specDecSubmit t s c → c.e.dataLen ≠ 0 →
    decOf s.dev c.e.handle.toNat = some (slot, x) → readAhead s.dev c = false → inFree x < c.e.dataLen.toNat →
    exec (.decSubmit t) s = .next (s.finish c 0x0500 (inFree x * 2 ^ 32) 0 s.dev)) ∧
  (∀ (s : State) (slot e n b : Nat) (x y : DecSes) (u : NextAu) (d : Dev) (h : HolmHead) (i : DecIn),
    tabGet s.dev.dec slot = some x → engineTakes s.dev e slot x = true → nextAu x = some u →
    readInput slot x u.all s.dev = d → tabGet d.dec slot = some y → doCodec y.cfg = 2 → nextAu y = some (.holm b h n) →
    (otherVersion ((inRun 0 y.input).bytes.take b) = false) → h.geo.samples ≤ doMaxW y.cfg → h.geo.height ≤ doMaxH y.cfg →
    beginsIn y (.holm b h n) = some i → i.mute = false → y.pool = [] →
    ∃ t z o rest f, exec (.decPictureDone slot e) s = .next t ∧ tabGet t.dev.dec slot = some z ∧
      z.outq = y.outq ++ o :: rest ∧ (∀ r ∈ rest, r.eos = true) ∧ o.id = y.made ∧ o.seq = i.seq ∧
      o.p = presentAt y s.dev.tu.ns i.pts ∧ o.frm = some f ∧ o.planes = holmPlanes h.geo f h.streams ∧ o.eos = false ∧
      z.lastP = some o.p ∧ z.skipping = false ∧ z.count = y.count) ∧
  (∀ (s : State) (slot e n : Nat) (x y : DecSes) (u : NextAu) (d : Dev) (us l : List CodedUnit) (v : CodedUnit) (h : PicHead),
    tabGet s.dev.dec slot = some x → engineTakes s.dev e slot x = true → nextAu x = some u →
    readInput slot x u.all s.dev = d → tabGet d.dec slot = some y → doCodec y.cfg = 0 → nextAu y = some (.coded us n) →
    us.filter isSlice = v :: l →
    Config.pictureHead false (keepSets ((us.filter fun u => nalOk u && 32 ≤ nalKind u && nalKind u ≤ 34).map CodedUnit.bytes)
      y).psets [] ((v :: l).map CodedUnit.bytes) = some h →
    unsupported false (doMaxW y.cfg) (doMaxH y.cfg) (doFormat y.cfg) (doDpb y.cfg) h.seq = 0 →
    leavesOut y (isIrap (nalKind v)) = false → nalKind v ≠ 8 → nalKind v ≠ 9 →
    (∀ i ∈ y.input, i.eos = false ∧ i.disc = false) →
    ∃ t z, exec (.decPictureDone slot e) s = .next t ∧ tabGet t.dev.dec slot = some z ∧ z.made = y.made + 1 ∧
      z.skipping = false ∧ z.discards = y.discards ∧ z.count = y.count) ∧
  (∀ (s : State) (slot e : Nat) (x : DecSes), tabGet s.dev.dec slot = some x → engineTakes s.dev e slot x = false →
    exec (.decPictureDone slot e) s = .next s) ∧
  (∀ (s : State) (slot : Nat) (x : DecSes) (o : DecOut), tabGet s.dev.dec slot = some x → nextOut x = some o → o.eos = false →
    o.p ≤ s.dev.tu.ns →
    ∃ t y, exec (.decPicturePresent slot) s = .next t ∧ tabGet t.dev.dec slot = some y ∧ y.count = x.count + 1 ∧
      y.outq = x.outq.filter fun q => q.id != o.id) ∧
  (∀ (s : State) (slot : Nat) (x : DecSes) (o : DecOut), tabGet s.dev.dec slot = some x → nextOut x = some o → o.eos = true →
    ∃ t y, exec (.decPicturePresent slot) s = .next t ∧ tabGet t.dev.dec slot = some y ∧ y.count = x.count ∧
      y.outq = x.outq.filter fun q => q.id != o.id) ∧
  (∀ (s : State) (slot : Nat) (x : DecSes) (o : DecOut), tabGet s.dev.dec slot = some x → nextOut x = some o → o.eos = false →
    s.dev.tu.ns < o.p → exec (.decPicturePresent slot) s = .next s) ∧
  (∀ (s : State) (t : Nat) (c : Outst) (slot : Nat) (x : DecSes), Begins specDecClose t s c →
    decOf s.dev c.e.handle.toNat = some (slot, x) → tabGet s.dev.dec slot = some x →
    ∃ d, exec (.decClose t) s = .next (s.finish c 0 (x.count % 2 ^ 32) 0 d) ∧ tabGet d.dec slot = none ∧
      holds d x.handle = false ∧ (∀ o ∈ d.evt.objs, o.handle ≠ x.handle) ∧
      ∀ j, j ≠ slot → tabGet d.dec j = tabGet s.dev.dec j) ∧
  (∀ (s : State) (e : DecEng) (slot : Nat) (x : DecSes), engineSession s.dev e.val = some slot →
    tabGet s.dev.dec slot = some x → Queues s 4 →
    ∃ t n, exec (.decParityError e) s = .next t ∧ tabGet t.dev.dec slot = some { x with fault := some n } ∧
      t.dev.evt.queue = s.dev.evt.queue ++ [newEvent s 4 0x32 0 (e.val + 2 ^ 8)]) ∧
  (∀ (s : State) (slot e n : Nat) (x : DecSes), tabGet s.dev.dec slot = some x → x.engine = some e →
    readyAt s.dev x = some n → n + 50000000 ≤ s.dev.tu.ns → engineSession s.dev e = some slot → Queues s 4 →
    ∃ t m, exec (.decPictureTimeout slot) s = .next t ∧ tabGet t.dev.dec slot = some { x with fault := some m } ∧
      t.dev.evt.queue = s.dev.evt.queue ++ [newEvent s 4 0x32 0 (e + 2 * 2 ^ 8)])

/-- 12 R319-R321. -/
def Obligations.HbmMappingIsOneToOne : Prop :=
  (∀ (b24 : Bool) (s a b : Nat), s < 4 → a < (if b24 then 24 else 48) * 2 ^ 30 → b < (if b24 then 24 else 48) * 2 ^ 30 →
    hbmPlace b24 s a = hbmPlace b24 s b → a = b) ∧
  (∀ (b24 : Bool) (s a : Nat), a < (if b24 then 24 else 48) * 2 ^ 30 →
    (hbmPlace b24 s a).sid < 3 ∧ (hbmPlace b24 s a).pc < (if b24 then 32 else 64) ∧ (hbmPlace b24 s a).bank < 16 ∧
    (hbmPlace b24 s a).row < 2 ^ 14 ∧ (hbmPlace b24 s a).col < 1024) ∧
  (∀ (s a b : Nat), a / 2 ^ 14 = b / 2 ^ 14 → (hbmPlace false s a).pc = (hbmPlace false s b).pc → a / 256 = b / 256) ∧
  (∀ (s a b : Nat), a / 2 ^ 13 = b / 2 ^ 13 → (hbmPlace true s a).pc = (hbmPlace true s b).pc → a / 256 = b / 256) ∧
  hbmPlace false 1 0x481234A00 = { sid := 1, pc := 0x22, bank := 4, row := 0x812, col := 256 }

/-- 12 R328-R340. -/
def Obligations.MemoryIsScrubbedTrainedAndRepaired : Prop :=
  (∀ (s : State) (pc bank : Nat), hbmRuns s.dev = true → pc < hbmPcs s.dev → bank < 48 →
    exec (.hbmRefresh pc bank) s = .next { s with dev := bumpMem (pc / 32 * 16 + 7) 1 s.dev }) ∧
  (∀ (s : State) (pc m : Nat), hbmRuns s.dev = true → pc < hbmPcs s.dev →
    (∀ k, s.dev.hbm.margin.getD pc none = some k → k ≤ m) →
    ∃ t, exec (.hbmTraining pc m) s = .next t ∧ t.dev.hbm.margin.getD pc none = some m ∧ t.dev.evt = s.dev.evt ∧
      t.dev.hbm.cnt = (bumpMem (pc / 32 * 16 + 8) 1 s.dev).hbm.cnt) ∧
  (∀ (s : State) (pc m k : Nat), hbmRuns s.dev = true → pc < hbmPcs s.dev → s.dev.hbm.margin.getD pc none = some k → m < k →
    Queues s 5 → ∃ t, exec (.hbmTraining pc m) s = .next t ∧ t.dev.hbm.margin = s.dev.hbm.margin ∧
      t.dev.evt.queue = s.dev.evt.queue ++ [newEvent s 5 4 0 (pc / 32 + pc % 32 * 2 ^ 8)]) ∧
  (∀ (s : State) (r : EccRead), hbmRuns s.dev = true → r.upsets = [] → r.uncorrectable = false → r.corrected = 0 →
    ((queued s.dev s.dev.hbm.pos).isSome = true ∨
      s.dev.hbm.pos ∉ s.dev.hbm.poison ∧ tabGet s.dev.hbm.upset s.dev.hbm.pos = none) →
    32 * (s.dev.hbm.pos + 1) < hbmBytes s.dev →
    exec (.scrubRead r) s = .next { s with dev := modHbm (fun h => { h with pos := h.pos + 1 }) s.dev }) ∧
  (∀ (s : State) (r : EccRead), hbmRuns s.dev = true → r.upsets = [] → queued s.dev s.dev.hbm.pos = none →
    s.dev.hbm.pos ∉ s.dev.hbm.poison → r.uncorrectable = true →
    32 * (s.dev.hbm.pos + 1) < hbmBytes s.dev →
    ∃ t, exec (.scrubRead r) s = .next t ∧ t.dev.hbm.poison = s.dev.hbm.pos :: s.dev.hbm.poison ∧
      t.dev.hbm.pos = s.dev.hbm.pos + 1 ∧ t.dev.hbm.passUnc = s.dev.hbm.passUnc + 1 ∧
      t.dev.hbm.errSeq = s.dev.hbm.errSeq + 1 ∧ ∃ e, t.dev.hbm.errLog.getLast? = some e ∧ e.source = 2 ∧ e.kind = 2 ∧
        e.addr = 32 * s.dev.hbm.pos ∧ e.cls = 3) ∧
  (∀ (s : State) (r : EccRead), hbmRuns s.dev = true → r.upsets = [] → queued s.dev s.dev.hbm.pos = none →
    s.dev.hbm.pos ∉ s.dev.hbm.poison → r.uncorrectable = false → r.corrected ≠ 0 → 32 * (s.dev.hbm.pos + 1) < hbmBytes s.dev →
    ∃ t, exec (.scrubRead r) s = .next t ∧ t.dev.hbm.poison = s.dev.hbm.poison ∧ t.dev.hbm.pos = s.dev.hbm.pos + 1 ∧
      t.dev.hbm.passCorr = s.dev.hbm.passCorr + 1 ∧ ∀ k, k = rowKey (hbmPlace s.dev.ident.b24 s.dev.hbm.preset (32 * s.dev.hbm.pos)) →
        tabGet t.dev.hbm.rows k = some ((tabGet s.dev.hbm.rows k).getD 0 + 1)) ∧
  (∀ (s : State) (r : EccRead), hbmRuns s.dev = true → r.upsets = [] → queued s.dev s.dev.hbm.pos = none →
    s.dev.hbm.pos ∈ s.dev.hbm.poison → 32 * (s.dev.hbm.pos + 1) < hbmBytes s.dev →
    ∃ t, exec (.scrubRead r) s = .next t ∧ t.dev.hbm.errLog = s.dev.hbm.errLog ∧ t.dev.hbm.pos = s.dev.hbm.pos + 1 ∧
      t.dev.hbm.poison = s.dev.hbm.poison ∧ t.dev.evt = s.dev.evt) ∧
  (∀ (s : State) (r : EccRead), hbmRuns s.dev = true → r.upsets = [] → r.uncorrectable = false → r.corrected = 0 →
    ((queued s.dev s.dev.hbm.pos).isSome = true ∨
      s.dev.hbm.pos ∉ s.dev.hbm.poison ∧ tabGet s.dev.hbm.upset s.dev.hbm.pos = none) → hbmBytes s.dev ≤ 32 * (s.dev.hbm.pos + 1) → Queues s 5 →
    ∃ t, exec (.scrubRead r) s = .next t ∧ t.dev.hbm.pos = 0 ∧ t.dev.hbm.passCorr = 0 ∧ t.dev.hbm.passUnc = 0 ∧
      t.dev.hbm.rows = [] ∧ t.dev.evt.queue = s.dev.evt.queue ++
        [newEvent s 5 5 0 (s.dev.hbm.passCorr % 2 ^ 32 + s.dev.hbm.passUnc % 2 ^ 32 * 2 ^ 32)]) ∧
  (∀ (s : State) (r : LagRead), hbmRuns s.dev = true → r.reads = [] → s.dev.hbm.lagPos ∉ s.dev.hbm.lagPoison →
    r.uncorrectable = true →
    8 * (s.dev.hbm.lagPos + 1) < lagoonBytes →
    ∃ t, exec (.lagoonScrub r) s = .next t ∧ t.dev.hbm.lagPoison = s.dev.hbm.lagPos :: s.dev.hbm.lagPoison ∧
      t.dev.hbm.lagPos = s.dev.hbm.lagPos + 1 ∧ t.dev.hbm.errSeq = s.dev.hbm.errSeq + 1 ∧ t.mem = s.mem) ∧
  (∀ (s : State) (r : LagRead), hbmRuns s.dev = true → r.reads = [] → s.dev.hbm.lagPos ∉ s.dev.hbm.lagPoison →
    r.uncorrectable = false → r.corrected ≠ 0 → 8 * (s.dev.hbm.lagPos + 1) < lagoonBytes →
    ∃ t, exec (.lagoonScrub r) s = .next t ∧ t.dev.hbm.lagPoison = s.dev.hbm.lagPoison ∧
      t.dev.hbm.lagPos = s.dev.hbm.lagPos + 1 ∧ t.dev.hbm.errSeq = s.dev.hbm.errSeq + 1 ∧ t.mem = s.mem) ∧
  (∀ (s : State) (r : LagRead), hbmRuns s.dev = true → r.reads = [] → s.dev.hbm.lagPos ∉ s.dev.hbm.lagPoison →
    r.uncorrectable = false → r.corrected = 0 → exec (.lagoonScrub r) s = .next (s.mapDev fun d =>
      if lagoonBytes ≤ 8 * (d.hbm.lagPos + 1) then bumpMem 35 1 (modHbm (fun h => { h with lagPos := 0 }) d)
      else modHbm (fun h => { h with lagPos := h.lagPos + 1 }) d)) ∧
  (∀ (s : State) (off : Nat) (v : Dword), off / 8 ∈ s.dev.hbm.lagPoison → cellsWf s.mem.lagoon = true →
    ∃ t, exec (.lagoonRepair off v) s = .next t ∧ memReadLe t.mem.lagoon (off / 8 * 8) 8 = v.toNat ∧
      off / 8 ∉ t.dev.hbm.lagPoison ∧ (∀ a, (a < off / 8 * 8 ∨ off / 8 * 8 + 8 ≤ a) →
        memRead t.mem.lagoon a = memRead s.mem.lagoon a) ∧
      t.mem.tcm0 = s.mem.tcm0 ∧ t.mem.tcm1 = s.mem.tcm1 ∧ t.mem.win0 = s.mem.win0 ∧ t.mem.win1 = s.mem.win1) ∧
  (∀ (s : State) (off : Nat) (v : Dword), off / 8 ∉ s.dev.hbm.lagPoison → exec (.lagoonRepair off v) s = .next s) ∧
  (∀ (s : State) (w l : List Nat) (c : Nat), hbmRuns s.dev = true → c < hbmPcs s.dev →
    ∃ t, exec (.bankPressureInterval w l) s = .next t ∧ t.dev.hbm.cnt.getD (36 + c) 0 =
      min (s.dev.hbm.cnt.getD (36 + c) 0 + min ((w[c]?).getD 0) 120000000) (2 ^ 64 - 1) ∧
      t.dev.hbm.cnt.getD (16 * (c / 32) + 6) 0 =
        max (s.dev.hbm.cnt.getD (16 * (c / 32) + 6) 0) (min ((l[c / 32]?).getD 0) (2 ^ 64 - 1))) ∧
  (∀ (s : State) (t : Nat) (c : Outst), Begins specFeatureSetMemory t s c →
    exec (.featureSetMemory t) s = .next (s.finish c 0 0 0 { s.dev with hbm := { s.dev.hbm with
      hours := fld c.e 36 1, hash := fld c.e 37 1, ceLimit := fld c.e 38 1 } })) ∧
  (∀ (s : State) (r : EccRead) (q : LagRead) (pc m bank : Nat) (w l : List Nat), hbmRuns s.dev = false →
    exec (.scrubRead r) s = .next s ∧ exec (.lagoonScrub q) s = .next s ∧ exec (.hbmRefresh pc bank) s = .next s ∧ exec (.hbmTraining pc m) s = .next s ∧
    exec (.bankPressureInterval w l) s = .next s)

/-- 13 R343-R345, R361. -/
def Obligations.MediaPortsComeAndGo : Prop :=
  (∀ (s : State) (m : MediaId), (medium s.dev m).state = 0 → mediaPowered s.dev = true →
    ∃ t, exec (.mediumInserted m) s = .next t ∧ medium t.dev m = { medium s.dev m with state := 1 } ∧
      (Queues s 6 → t.dev.evt.queue = s.dev.evt.queue ++ [newEvent s 6 1 (0x0A000000 + m.val) (1 + 1 * 2 ^ 8)]) ∧
      ∀ q, q ≠ m → medium t.dev q = medium s.dev q) ∧
  (∀ (s : State) (m : MediaId) (i : MediumInfo), (medium s.dev m).state = 1 → mediaPowered s.dev = true →
    (∃ t, exec (.mediumInitDone m (some i)) s = .next t ∧
      medium t.dev m = { medium s.dev m with state := 2, info := some i, nsid := 0 } ∧
      (Queues s 6 → t.dev.evt.queue = s.dev.evt.queue ++ [newEvent s 6 1 (0x0A000000 + m.val) (2 + 1 * 2 ^ 8)]) ∧
      ∀ q, q ≠ m → medium t.dev q = medium s.dev q) ∧
    (∃ t, exec (.mediumInitDone m none) s = .next t ∧
      medium t.dev m = { medium s.dev m with state := 4, info := none, nsid := 0 } ∧
      (Queues s 6 → t.dev.evt.queue = s.dev.evt.queue ++ [newEvent s 6 1 (0x0A000000 + m.val) (4 + 4 * 2 ^ 8)]) ∧
      ∀ q, q ≠ m → medium t.dev q = medium s.dev q)) ∧
  (∀ (s : State) (t : Nat) (c : Outst) (m : MediaId) (i : MediumInfo), Begins specMediaAttachAttach t s c → m = mediaArg c.e →
    (medium s.dev m).state = 2 → (medium s.dev m).info = some i → nsOk i (fld c.e 36 4) (fld c.e 33 1) = true →
    (medium s.dev m).attach = none → s.dev.pwr.state < 2 →
    ∃ d, exec (.mediaAttachAttach t) s = .next (s.await c .stepped d) ∧ d.out = .nvme m.val 0x80 0 0 [] :: s.dev.out ∧
      medium d m = { medium s.dev m with attach := some (c.tag, fld c.e 36 4, fld c.e 33 1 != 2 && i.pi64,
        if fld c.e 34 2 = 0 then 250 else fld c.e 34 2) } ∧ ∀ q, q ≠ m → medium d q = medium s.dev q) ∧
  (∀ (s : State) (t : Nat) (c : Outst) (m : MediaId), Begins specMediaAttachAttach t s c → m = mediaArg c.e →
    (medium s.dev m).state ≠ 2 → exec (.mediaAttachAttach t) s = .next (s.finish c 6 0 0 s.dev)) ∧
  (∀ (s : State) (m : MediaId) (t nsid lim : Nat) (pi : Bool) (c : Outst), (medium s.dev m).attach = some (t, nsid, pi, lim) →
    (medium s.dev m).state = 2 → findOutst s.dev t = some c →
    ∃ d, exec (.ioQueuesCreated m) s = .next (s.finish c 0 0 0 d) ∧
      medium d m = { medium s.dev m with state := 3, nsid := nsid, pi := pi, limitMs := lim, attach := none } ∧
      ∀ q, q ≠ m → medium d q = medium s.dev q) ∧
  (∀ (s : State) (t : Nat) (c : Outst) (m : MediaId), Begins specMediaAttachDetach t s c → m = mediaArg c.e →
    (medium s.dev m).state = 3 → (medium s.dev m).detach = none → mediumUsed s.dev m = false →
    ∃ d, exec (.mediaAttachDetach t) s = .next (s.await c .stepped d) ∧
      d.out = .nvme m.val 0x81 0 0 [] :: .nvme m.val 0x00 0 0 [] :: s.dev.out ∧
      medium d m = { medium s.dev m with detach := some c.tag, detachNs := s.dev.tu.ns } ∧
      ∀ q, q ≠ m → medium d q = medium s.dev q) ∧
  (∀ (s : State) (t : Nat) (c : Outst) (m : MediaId), Begins specMediaAttachDetach t s c → m = mediaArg c.e →
    mediumUsed s.dev m = true → exec (.mediaAttachDetach t) s = .next (s.finish c 6 0 0 s.dev)) ∧
  (∀ (s : State) (m : MediaId) (t : Nat) (c : Outst) (reported : Bool), (medium s.dev m).detach = some t →
    (medium s.dev m).state = 3 → findOutst s.dev t = some c →
    (reported = true ∨ (medium s.dev m).detachNs + (medium s.dev m).limitMs * 1000000 ≤ s.dev.tu.ns →
      ∃ d, exec (.nvmeShutdownDone m reported) s = .next (s.finish c 0 0 0 d) ∧
        medium d m = { medium s.dev m with detach := none, nsid := 0, pi := false, state := 2 } ∧
        ∀ q, q ≠ m → medium d q = medium s.dev q) ∧
    (reported = false → s.dev.tu.ns < (medium s.dev m).detachNs + (medium s.dev m).limitMs * 1000000 →
      exec (.nvmeShutdownDone m reported) s = .next s)) ∧
  (∀ (s : State) (t : Nat) (c : Outst), Begins specMediaAttachInfo t s c →
    exec (.mediaAttachInfo t) s = .next (s.finish c 0 0 0
      (postOut (dataOut c 0 ((mediumInfoBytes s.dev (mediaArg c.e)).take c.e.dataLen.toNat)) s.dev))) ∧
  (∀ (s : State) (m : MediaId), (medium s.dev m).state ≠ 0 → mediaPowered s.dev = true →
    ∃ t, exec (.mediumRemoved m) s = .next t ∧ (medium t.dev m).state = 0 ∧ (medium t.dev m).info = none ∧
      (medium t.dev m).nsid = 0 ∧ (medium t.dev m).attach = none ∧ (∀ r ∈ t.dev.reads, r.port ≠ m.val) ∧
      (Queues s 6 → ∃ l, t.dev.evt.queue = s.dev.evt.queue ++ newEvent s 6 1 (0x0A000000 + m.val) (0 + 2 * 2 ^ 8) :: l) ∧
      ∀ q, q ≠ m → medium t.dev q = medium s.dev q) ∧
  (∀ (s : State) (m : MediaId) (fatal : Bool), (medium s.dev m).state ≠ 0 → (medium s.dev m).state ≠ 4 →
    mediaPowered s.dev = true →
    ∃ t, exec (.mediaLinkDown m fatal) s = .next t ∧ (medium t.dev m).state = 4 ∧ (medium t.dev m).info = none ∧
      (∀ r ∈ t.dev.reads, r.port ≠ m.val) ∧
      (Queues s 6 → ∃ l, t.dev.evt.queue = s.dev.evt.queue ++
        newEvent s 6 1 (0x0A000000 + m.val) (4 + (if fatal then 5 else 3) * 2 ^ 8) :: l) ∧
      ∀ q, q ≠ m → medium t.dev q = medium s.dev q)

/-- 13 R348-R357. -/
def Obligations.RecordingSessions : Prop :=
  (∀ (s : State) (t : Nat) (c : Outst) (cfg : List Byte) (slot : Nat) (rs : List SrcRate), Begins specRecOpen t s c →
    cfg = fit 128 c.e.data →
    (roMode cfg = 0 ∨ lbsOf s.dev 0 = lbsOf s.dev 1 ∧ (s.dev.media[0]).pi = (s.dev.media[1]).pi) →
    (∀ h ∈ (List.range (roCount cfg)).map (roSource cfg), feeds s.dev h < 4) →
    rs = ((List.range (roCount cfg)).map (roSource cfg)).filterMap (srcRate s.dev) → rs.length = roCount cfg →
    (∀ m ∈ mediaPorts (roMedia cfg), attachedOk s.dev m = true) → s.dev.pwr.state < 2 → freeSlot s.dev 0x0B 16 = some slot →
    admitFails (openObj 0x0B slot c.qp 1 s.dev).2 (openObj 0x0B slot c.qp 1 s.dev).1 true
      (recWants cfg (lbsOf s.dev ((mediaPorts (roMedia cfg)).head?.getD 0)) rs) = none →
    ∃ d x, exec (.recOpen t) s = .next (s.finish c 0 (openObj 0x0B slot c.qp 1 s.dev).1 0 d) ∧
      tabGet d.recs (openObj 0x0B slot c.qp 1 s.dev).1 = some x ∧ x.cfg = cfg ∧ x.state = 0 ∧ x.waits = [] ∧
      x.srcs.map RecSrc.handle = (List.range (roCount cfg)).map (roSource cfg) ∧
      (x.s0.isSome = bitOf (roMedia cfg) 0) ∧ (x.s1.isSome = bitOf (roMedia cfg) 1)) ∧
  (∀ (s : State) (t : Nat) (c : Outst) (x : RecSes) (y : RecStream), Begins specRecExtents t s c →
    recOf s.dev c.e.handle.toNat = some x → x.on (fld c.e 32 1) = some y → y.failed = false → x.closing = false →
    badExtent (((s.dev.media[fld c.e 32 1]?).bind Medium.info).map MediumInfo.nsze |>.getD 0) (extsOn s.dev (fld c.e 32 1)) 0
      (extEntries c.e.dataLen.toNat c.e.data) = none →
    (y.exts.length + (extEntries c.e.dataLen.toNat c.e.data).length ≤ 1024 →
      ∃ d z w res, exec (.recExtents t) s = .next (s.finish c 0 res 0 d) ∧ tabGet d.recs c.e.handle.toNat = some z ∧
        z.on (fld c.e 32 1) = some w ∧ res = extSpace w / 2 ^ 20 % 2 ^ 32 ∧ w.off = y.off ∧ w.exts = y.exts ++
          (extEntries c.e.dataLen.toNat c.e.data).map fun e => (e.1, e.2.1 * lbsOf s.dev (fld c.e 32 1))) ∧
    (1024 < y.exts.length + (extEntries c.e.dataLen.toNat c.e.data).length →
      exec (.recExtents t) s = .next (s.finish c 0x0700 0 0 s.dev))) ∧
  (∀ (s : State) (h src m n lbs : Nat) (x : RecSes) (u : AuOut) (q : RecSrc) (y : RecStream),
    tabGet s.dev.recs h = some x → (x.ready.find? fun r => r.1 == src && !afterClose s.dev h r.2) = some (src, u) →
    x.srcs[src]? = some q → x.state ≠ 2 → itemStreams x q.seq = [m] → x.on m = some y → lbs = lbsOf s.dev m →
    n = (itemBytes lbs q.kind src (b2n u.rap + b2n q.gap * 2 + b2n u.damaged * 4) (roSession x.cfg) y.seq q.seq y.off u).length →
    (n ≤ extSpace y → stagedBytes x + n ≤ x.staging → (portRead h m u s.dev).most = none →
      ∃ t z w i, exec (.recItemReady h src) s = .next t ∧ tabGet t.dev.recs h = some z ∧ z.ready.length + 1 = x.ready.length ∧
        z.on m = some w ∧ w.seq = y.seq + 1 ∧ w.items = y.items ++ [i] ∧ i.off = y.off ∧ i.len = n ∧ w.off = y.off + n ∧
        w.written = y.written ∧ w.failed = false) ∧
    (extSpace y < n ∨ x.staging < stagedBytes x + n →
      ∃ t z, exec (.recItemReady h src) s = .next t ∧ tabGet t.dev.recs h = some z ∧ z.ready.length + 1 = x.ready.length ∧
        z.s0 = x.s0 ∧ z.s1 = x.s1 ∧
        (Queues s 6 → t.dev.evt.queue = s.dev.evt.queue ++
          [newEvent s 6 5 h (src + (if extSpace y < n then 1 else 2) * 2 ^ 8 + q.seq % 2 ^ 32 * 2 ^ 32)]))) ∧
  (∀ (s : State) (h : Nat) (m : MediaId) (x : RecSes) (y : RecStream) (i : RecItem) (l : List RecItem) (b : Nat × List Byte)
      (ws : List (Nat × List Byte)) (r : Bool),
    tabGet s.dev.recs h = some x → x.on m.val = some y → y.failed = false → y.items = i :: l → i.writes = b :: ws → x.waits = [] →
    x.gone = false →
    (ws = [] → ∃ t z w, exec (.nvmeWriteDone h m true r) s = .next t ∧ tabGet t.dev.recs h = some z ∧ z.on m.val = some w ∧
      w.items = l ∧ w.written = i.off + i.len ∧ w.committed = y.committed ∧ w.failed = false) ∧
    (r = true → i.retried = false → ∃ t z, exec (.nvmeWriteDone h m false r) s = .next t ∧ tabGet t.dev.recs h = some z ∧
      z.on m.val = some { y with items := { i with retried := true, again := s.dev.tu.ns } :: l } ∧
      t.dev.out = .nvme m.val 0x01 h b.1 (wireBytes s.dev m.val b.1 (roAppTag x.cfg) b.2) :: s.dev.out) ∧
    (r = false ∨ i.retried = true → ∃ t z w, exec (.nvmeWriteDone h m false r) s = .next t ∧ tabGet t.dev.recs h = some z ∧
      z.on m.val = some w ∧ w.failed = true ∧ w.items = [] ∧ w.committed = y.committed ∧ z.state ≠ 0)) ∧
  (∀ (s : State) (h : Nat) (m : MediaId) (x : RecSes) (y : RecStream), tabGet s.dev.recs h = some x → x.on m.val = some y →
    y.failed = false → x.waits = [] → x.gone = false →
    (∀ (n : Nat) (l : List Nat), y.flushing = n :: l →
      (∃ t z, exec (.nvmeFlushDone h m true) s = .next t ∧ tabGet t.dev.recs h = some z ∧
        z.on m.val = some { y with flushing := l, flushNs := y.flushNs.drop 1, committed := max y.committed n }) ∧
      (∃ t z w, exec (.nvmeFlushDone h m false) s = .next t ∧ tabGet t.dev.recs h = some z ∧ z.on m.val = some w ∧
        w.failed = true ∧ w.items = [] ∧ w.committed = y.committed)) ∧
    (overLimit y s.dev.tu.ns ((medium s.dev m).limitMs * 1000000) = true →
      ∃ t z w, exec (.nvmeTimeout h m) s = .next t ∧ tabGet t.dev.recs h = some z ∧ z.on m.val = some w ∧ w.failed = true ∧
        w.items = [] ∧ z.state ≠ 0) ∧
    (overLimit y s.dev.tu.ns ((medium s.dev m).limitMs * 1000000) = false → exec (.nvmeTimeout h m) s = .next s)) ∧
  (∀ (s : State) (h : Nat) (x : RecSes), tabGet s.dev.recs h = some x → x.gone = false → roCommitMs x.cfg ≠ 0 →
    (x.lastNs + roCommitMs x.cfg * 1000000 ≤ s.dev.tu.ns →
      ∃ t z l, exec (.commitTimer h) s = .next t ∧ tabGet t.dev.recs h = some z ∧ z.lastNs = s.dev.tu.ns ∧
        t.dev.out = l ++ s.dev.out ∧ ∀ m, m < 2 → ∀ y, x.on m = some y → y.failed = false → y.want ≤ y.written →
          y.flushing.foldl max y.committed < y.written →
          .nvme m 0x00 h 0 [] ∈ l ∧ z.on m = some { y with
            want := y.written, flushing := y.flushing ++ [y.written], flushNs := y.flushNs ++ [s.dev.tu.ns] }) ∧
    (s.dev.tu.ns < x.lastNs + roCommitMs x.cfg * 1000000 → exec (.commitTimer h) s = .next s)) ∧
  (∀ (s : State) (t : Nat) (c : Outst) (x : RecSes), Begins specRecCommit t s c → recOf s.dev c.e.handle.toNat = some x →
    (x.state = 2 ∨ reached x.s0 (target c.ns x.s0) = true ∧ reached x.s1 (target c.ns x.s1) = true →
      exec (.recCommit t) s = .next (s.finish c (recStatus x) (recResult x).1 (recResult x).2 s.dev)) ∧
    (x.state ≠ 2 → (reached x.s0 (target c.ns x.s0) = false ∨ reached x.s1 (target c.ns x.s1) = false) →
      ∃ d z w, exec (.recCommit t) s = .next (s.await c .waiting d) ∧ tabGet d.recs c.e.handle.toNat = some z ∧
        z.waits = x.waits ++ [w] ∧ w.tag = c.tag ∧ w.close = false ∧ w.to0 = target c.ns x.s0 ∧ w.to1 = target c.ns x.s1)) ∧
  (∀ (s : State) (t h : Nat) (c : Outst) (x : RecSes),
    (s.dev.recs.find? fun p => p.2.waits.any fun w => w.tag == t && !w.owed) = some (h, x) → findOutst s.dev t = some c →
    (∀ w ∈ x.waits, w.tag = t → w.ns + 100000000 ≤ s.dev.tu.ns) →
    ∃ d, d = (s.finish c 0x0702 (recResult x).1 (recResult x).2 (modRec h (fun z => { z with
        waits := z.waits.map fun w => if w.tag = t then { w with owed := true } else w }) s.dev)).dev ∧
      ((∀ w ∈ x.waits, w.tag = t → w.close = false) → exec (.recCommitTimeout t) s = .next { s with dev := d }) ∧
      ((∃ w ∈ x.waits, w.tag = t ∧ w.close = true) → exec (.recCommitTimeout t) s = .next { s with dev := recGone h d })) ∧
  (∀ (s : State) (t : Nat) (c : Outst) (x : RecSes), Begins specRecClose t s c → recOf s.dev c.e.handle.toNat = some x →
    (x.closing = false → x.state ≠ 2 →
      (∃ m, m < 2 ∧ ∃ y, x.on m = some y ∧ y.failed = false ∧ y.committed < y.off ∧
        ∀ i ∈ y.items, i.sent ≤ s.dev.tu.ns) →
      (fld c.e 32 1 = 1 ∨ ∀ r ∈ x.ready, c.ns < r.2.at') → (∀ w ∈ x.waits, w.tag ≠ c.tag ∧ w.close = false) →
      ∃ u z w, exec (.recClose t) s = .next u ∧ tabGet u.dev.recs c.e.handle.toNat = some z ∧ z.closing = true ∧ z.ready = [] ∧
        w ∈ z.waits ∧ w.tag = t ∧ w.close = true ∧ ∃ o, findOutst u.dev t = some o ∧ o.phase = .stepped) ∧
    (x.closing = true → exec (.recClose t) s = .next { s with
      dev := settleRec c.e.handle.toNat (s.finish c 6 0 0 s.dev).dev }) ∧
    (x.closing = false → x.state = 2 → x.waits = [] → x.flushes = [] → ∃ d,
      exec (.recClose t) s = .next (s.finish c 0x0020 (recResult x).1 (recResult x).2 d) ∧ tabGet d.recs c.e.handle.toNat = none))

/-- 13 R356, R358, R359. -/
def Obligations.MediaReads : Prop :=
  (∀ (s : State) (t : Nat) (c : Outst) (m : MediaId), Begins specMediaReadBlocks t s c → m = mediaArg c.e →
    (medium s.dev m).state = 3 → (medium s.dev m).detach = none → rangeOk s.dev c.e = true → s.dev.pwr.state < 2 →
    readBlocks c.e * lbsOf s.dev m.val ≤ c.e.dataLen.toNat →
    ∃ d r, exec (.mediaReadBlocks t) s = .next (s.await c .waiting d) ∧ d.reads = s.dev.reads ++ [r] ∧ r.cmd = c.tag ∧
      r.items = false ∧ r.port = m.val ∧ r.slba = fld c.e 40 8 ∧ r.blocks = fld c.e 48 4 + 1 ∧
      d.out = .nvme m.val 0x02 0 r.slba [] :: s.dev.out) ∧
  (∀ (s : State) (t : Nat) (c : Outst) (m : MediaId) (x : Nat × DecSes), Begins specMediaReadItems t s c → m = mediaArg c.e →
    (medium s.dev m).state = 3 → (medium s.dev m).detach = none → rangeOk s.dev c.e = true → s.dev.pwr.state < 2 →
    decOf s.dev (fld c.e 36 4) = some x → decAhead s.dev c = false →
    ∃ d r, exec (.mediaReadItems t) s = .next (s.await c .waiting d) ∧ d.reads = s.dev.reads ++ [r] ∧ r.cmd = c.tag ∧
      r.items = true ∧ r.source = fld c.e 33 1 ∧ r.dec = fld c.e 36 4 ∧ d.out = .nvme m.val 0x02 0 r.slba [] :: s.dev.out) ∧
  (∀ (s : State) (t n lbs : Nat) (c : Outst) (r : MediaRead) (x : ReadResult) (d : Dev),
    (s.dev.reads.find? fun y => y.cmd == t) = some r → findOutst s.dev t = some c → r.items = false → x.guardErr = false →
    lbs = lbsOf s.dev r.port → 0 < lbs → n ≤ x.blocks.length → r.done + n ≤ r.blocks →
    d = (if n = 0 then s.dev else postOut (dataOut c (r.done * lbs) ((x.blocks.take n).flatMap (fit lbs))) s.dev) →
    (r.stop = false → x.failedAt = none → n = x.blocks.length → r.done + n < r.blocks →
      exec (.nvmeReadDone t x) s = .next { s with dev := setRead { r with
        done := r.done + n, count := r.count + n, moved := r.moved + n * lbs } d }) ∧
    (r.stop = false → x.failedAt = none → r.done + n = r.blocks →
      exec (.nvmeReadDone t x) s = .next (s.finish c 0 ((r.count + n) % 2 ^ 32 + r.lost % 2 ^ 32 * 2 ^ 32)
        ((r.moved + n * lbs) % 2 ^ 32 + r.failed.getD 0xFFFFFFFF % 2 ^ 32 * 2 ^ 32)
        { d with reads := d.reads.filter fun y => y.cmd != r.cmd })) ∧
    (r.stop = false → x.failedAt = some n →
      exec (.nvmeReadDone t x) s = .next (s.finish c 0x0701 ((r.count + n) % 2 ^ 32 + r.lost % 2 ^ 32 * 2 ^ 32)
        ((r.moved + n * lbs) % 2 ^ 32 + (r.slba + (r.done + n)) % 2 ^ 32 * 2 ^ 32 + 2 ^ 64)
        { d with reads := d.reads.filter fun y => y.cmd != r.cmd })) ∧
    (r.stop = true → x.failedAt = none → n = (4096 - r.moved % 4096) / lbs → (r.moved + n * lbs) % 4096 = 0 →
      exec (.nvmeReadDone t x) s = .next (s.finish c 0 ((r.count + n) % 2 ^ 32 + r.lost % 2 ^ 32 * 2 ^ 32)
        ((r.moved + n * lbs) % 2 ^ 32 + r.failed.getD 0xFFFFFFFF % 2 ^ 32 * 2 ^ 32 + 2 ^ 64)
        { d with reads := d.reads.filter fun y => y.cmd != r.cmd }))) ∧
  (∀ (s : State) (t : Nat) (c : Outst) (r r' : MediaRead) (x : ReadResult) (z : Nat × DecSes),
    (s.dev.reads.find? fun y => y.cmd == t) = some r → findOutst s.dev t = some c → r.items = true → x.failedAt = none →
    x.guardErr = false → decOf s.dev r.dec = some z →
    r' = { r with got := r.got ++ (x.blocks.map fun b => (fit (lbsOf s.dev r.port) b, false)).take (r.blocks - r.got.length) } →
    (readNext s.dev (lbsOf s.dev r.port) r' (inFree z.2) = .more →
      exec (.nvmeReadDone t x) s = .next { s with dev := setRead r' s.dev }) ∧
    (readNext s.dev (lbsOf s.dev r.port) r' (inFree z.2) = .notItem →
      exec (.nvmeReadDone t x) s = .next (s.finish c 2 (r.count % 2 ^ 32 + r.lost % 2 ^ 32 * 2 ^ 32) (readExt r false)
        { s.dev with reads := s.dev.reads.filter fun y => y.cmd != r.cmd })) ∧
    (readNext s.dev (lbsOf s.dev r.port) r' (inFree z.2) = .stop →
      exec (.nvmeReadDone t x) s = .next (s.finish c 0 (r.count % 2 ^ 32 + r.lost % 2 ^ 32 * 2 ^ 32) (readExt r false)
        { s.dev with reads := s.dev.reads.filter fun y => y.cmd != r.cmd })))

/-- 14 R367, R373, R374. -/
def Obligations.ServoLocksSlewsAndSteps : Prop :=
  (∀ (off : Int) (d : Dev), (servoMeasure off d).ptp.offset = off ∧
    ((pcStep d * 65536 < off.natAbs → stepAllowed d = false) →
      0x1FFBE76C9 ≤ (servoMeasure off d).tu.addend ∧ (servoMeasure off d).tu.addend ≤ 0x200418937 ∧
      (servoMeasure off d).tu.ns = d.tu.ns)) ∧
  (∀ (off : Int) (d : Dev), d.ptp.state = 1 → off.natAbs ≤ pcLock d * 65536 → 15 ≤ d.ptp.good →
    off.natAbs ≤ pcStep d * 65536 → (servoMeasure off d).ptp.state = 2) ∧
  (∀ (off : Int) (d : Dev), pcStep d * 65536 < off.natAbs → stepAllowed d = true → pcSrc d ≠ 2 →
    (servoMeasure off d).tu.steps = (d.tu.steps + 1) % 65536 ∧ (servoMeasure off d).tu.frac = 0 ∧
    (servoMeasure off d).ptp.state = 1 ∧ (servoMeasure off d).tu.addend = d.tu.addend) ∧
  (∀ (n : Nat) (u : Tu), u.held = false →
    (tuAdvance n u).ns = (u.ns + (u.frac + n * u.addend) / 2 ^ 32) % (2 ^ 48 * 1000000000) ∧
    (tuAdvance n u).frac = (u.frac + n * u.addend) % 2 ^ 32) ∧
  (∀ (n : Nat) (u : Tu), u.held = true → tuAdvance n u = u)

/-- 14 R370-R377. -/
def Obligations.PtpMessages : Prop :=
  (∀ (s : State) (m : PtpMsg) (eg : MacStamp), netUp s.dev m.port = true → s.dev.pwr.state < 2 → fromMaster s.dev m = true →
    (m.twoStep = false → ∃ t, exec (.ptpSyncRx m eg) s = .next t ∧
      (ptpPort t.dev m.port).pair = some (m.origin + m.correction, m.stamp) ∧
      (pcSrc s.dev = 0 → s.dev.ptp.seen = true →
        t.dev.ptp.offset = m.stamp - (m.origin + m.correction) - s.dev.ptp.delay - asym16 s.dev m.port)) ∧
    (m.twoStep = true → ∃ t, exec (.ptpSyncRx m eg) s = .next t ∧ (ptpPort t.dev m.port).sync = some m ∧
      t.dev.ptp.offset = s.dev.ptp.offset)) ∧
  (∀ (s : State) (m : PtpMsg) (eg : MacStamp), netUp s.dev m.port = true → s.dev.pwr.state < 2 → fromMaster s.dev m = false →
    chained s.dev = true → netUp s.dev (otherNet m.port) = true → m.toUs = false →
    ∃ t, exec (.ptpSyncRx m eg) s = .next t ∧ t.dev.ptp = s.dev.ptp ∧
      t.dev.out = .ptp (otherNet m.port).val 0 m.seqId m.twoStep m.origin (m.correction + (eg.egress - m.stamp)) [] :: s.dev.out) ∧
  (∀ (s : State) (m y : PtpMsg), netUp s.dev m.port = true → s.dev.pwr.state < 2 → (ptpPort s.dev m.port).sync = some y →
    fromMaster s.dev m = true → y.seqId = m.seqId →
    ∃ t, exec (.ptpFollowUpRx m) s = .next t ∧ (ptpPort t.dev m.port).sync = none ∧
      (ptpPort t.dev m.port).pair = some (m.origin + y.correction + m.correction, y.stamp) ∧
      (pcSrc s.dev = 0 → s.dev.ptp.seen = true →
        t.dev.ptp.offset = y.stamp - (m.origin + y.correction + m.correction) - s.dev.ptp.delay - asym16 s.dev m.port)) ∧
  (∀ (s : State) (m : PtpMsg) (eg : MacStamp) (l : List Out), netUp s.dev m.port = true → s.dev.pwr.state < 2 →
    masterOn s.dev m.port = true → m.domain = pcDomain s.dev →
    l = .ptp m.port.val 9 m.seqId false (m.stamp / 65536 * 65536) (m.correction - m.stamp % 65536) [] :: s.dev.out →
    ∃ t, exec (.ptpDelayReqRx m eg) s = .next t ∧ t.dev.ptp = s.dev.ptp ∧ t.dev.out =
      (if chained s.dev && netUp s.dev (otherNet m.port) && !m.toUs then
        .ptp (otherNet m.port).val 1 m.seqId m.twoStep m.origin (m.correction + (eg.egress - m.stamp)) [] :: l
      else l)) ∧
  (∀ (s : State) (m : PtpMsg) (t1 t2 t3 : Int), netUp s.dev m.port = true → s.dev.pwr.state < 2 →
    (ptpPort s.dev m.port).pair = some (t1, t2) → (ptpPort s.dev m.port).req = some (m.seqId, t3) →
    fromMaster s.dev m = true →
    ∃ t, exec (.ptpDelayRespRx m) s = .next t ∧ t.dev.ptp.delay = ((t2 - t1) + (m.origin - m.correction - t3)) / 2 ∧
      (ptpPort t.dev m.port).req = none ∧
      (pcSrc s.dev = 0 → t.dev.ptp.offset = t2 - t1 - t.dev.ptp.delay - asym16 s.dev m.port ∧ t.dev.ptp.seen = true)) ∧
  (∀ (s : State) (m : PtpMsg), netUp s.dev m.port = true → s.dev.pwr.state < 2 → ptpUses s.dev m.port = true →
    m.domain = pcDomain s.dev →
    (∀ k, (ptpPort s.dev m.port).master = some k → k.parentId = m.parentId ∨ lexLess (masterRank m) (masterRank k) = true) →
    ∃ t, exec (.ptpAnnounceRx m) s = .next t ∧ (ptpPort t.dev m.port).master = some m ∧
      (ptpPort t.dev m.port).annNs = s.dev.tu.ns ∧ t.dev.ptp.sel = bestPort t.dev) ∧
  (∀ (s : State) (m k : PtpMsg), netUp s.dev m.port = true → s.dev.pwr.state < 2 →
    (ptpPort s.dev m.port).master = some k → k.parentId ≠ m.parentId → lexLess (masterRank m) (masterRank k) = false →
    ∃ t, exec (.ptpAnnounceRx m) s = .next t ∧ t.dev.ptp = s.dev.ptp ∧ t.dev.tu = s.dev.tu) ∧
  (∀ (s : State) (m : PtpMsg), netUp s.dev m.port = true → s.dev.pwr.state < 2 →
    ((chained s.dev && netUp s.dev (otherNet m.port) && !m.toUs) = false →
      exec (.ptpManagementRx m) s = .next { s with dev := bumpNet m.port 12 1 (bumpNet m.port 1 1 s.dev) }) ∧
    ((chained s.dev && netUp s.dev (otherNet m.port) && !m.toUs) = true →
      ∃ t, exec (.ptpManagementRx m) s = .next t ∧ t.dev.ptp = s.dev.ptp ∧ t.dev.out =
        .ptp (otherNet m.port).val 13 m.seqId m.twoStep m.origin m.correction [] :: s.dev.out)) ∧
  (∀ (s : State) (n : NetId) (st : MacStamp), masterOn s.dev n = true →
    (pcTwoStep s.dev = true → ∃ t o, exec (.ptpSyncTx n st) s = .next t ∧ t.dev.out =
      .ptp n.val 8 s.dev.ptp.seqs.1 false (st.egress / 65536 * 65536) (st.egress % 65536) [] ::
        .ptp n.val 0 s.dev.ptp.seqs.1 true o 0 [] :: s.dev.out ∧
      t.dev.ptp.seqs.1 = (s.dev.ptp.seqs.1 + 1) % 65536) ∧
    (pcTwoStep s.dev = false → ∃ t, exec (.ptpSyncTx n st) s = .next t ∧ t.dev.out =
      .ptp n.val 0 s.dev.ptp.seqs.1 false (st.egress / 65536 * 65536) (st.egress % 65536) [] :: s.dev.out ∧
      t.dev.ptp.seqs.1 = (s.dev.ptp.seqs.1 + 1) % 65536)) ∧
  (∀ (s : State) (n : NetId), masterOn s.dev n = true →
    ∃ t o, exec (.ptpAnnounceTx n) s = .next t ∧
      t.dev.out = .ptp n.val 11 s.dev.ptp.seqs.2.1 false o 0 (pcDomain s.dev :: ownRank s.dev) :: s.dev.out ∧
      t.dev.ptp.seqs.2.1 = (s.dev.ptp.seqs.2.1 + 1) % 65536) ∧
  (∀ (s : State) (n : NetId) (st : MacStamp), slaveOn s.dev n = true →
    ∃ t o, exec (.ptpDelayReqTx n st) s = .next t ∧ t.dev.out = .ptp n.val 1 s.dev.ptp.seqs.2.2 false o 0 [] :: s.dev.out ∧
      (ptpPort t.dev n).req = some (s.dev.ptp.seqs.2.2, st.egress) ∧
      t.dev.ptp.seqs.2.2 = (s.dev.ptp.seqs.2.2 + 1) % 65536) ∧
  (∀ (s : State) (n : NetId) (m : PtpMsg) (eg st : MacStamp), netUp s.dev n = false → m.port = n →
    exec (.ptpSyncRx m eg) s = .next s ∧ exec (.ptpFollowUpRx m) s = .next s ∧ exec (.ptpDelayReqRx m eg) s = .next s ∧
    exec (.ptpDelayRespRx m) s = .next s ∧ exec (.ptpAnnounceRx m) s = .next s ∧ exec (.ptpManagementRx m) s = .next s ∧
    exec (.ptpSyncTx n st) s = .next s ∧ exec (.ptpAnnounceTx n) s = .next s ∧ exec (.ptpDelayReqTx n st) s = .next s)

/-- 14 R371, R373, R386-R388; the instants of LTC_IN follow log 112 (DEDUCED). -/
def Obligations.TimeIsConfiguredReadAndHeld : Prop :=
  (∀ (s : State) (t : Nat) (c : Outst) (l : List Byte), Begins specPtpConfig t s c → l = fit 64 c.e.data → ptpValid l = true →
    (∀ n : NetId, bitOf (le l 2 1) n.val = true → ncOn s.dev n = true) →
    ∃ d, exec (.ptpConfig t) s = .next (s.finish c 0 0 0 d) ∧ d.ptp.cfg = l ∧ d.ptp.sel = 0xFF ∧ d.ptp.seen = false ∧
      d.ptp.state = (if le l 13 1 = 2 then 0 else 1) ∧ (∀ n, ptpPort d n = {}) ∧ d.tu = s.dev.tu) ∧
  (∀ (s : State) (t : Nat) (c : Outst), Begins specTimeGetRead t s c →
    ∃ ptm, exec (.timeGetRead t) s = .next (s.finish c 0
      (s.dev.tu.ns / 1000000000 % 2 ^ 48 + s.dev.ptp.state * 2 ^ 48)
      (s.dev.tu.ns % 1000000000 + s.dev.tu.ns % 2 ^ 32 * 2 ^ 32 + ptm * 2 ^ 64) s.dev)) ∧
  (∀ (s : State) (t : Nat) (c : Outst), Begins specTimeGetSet t s c → pcSrc s.dev ≠ 0 → stepAllowed s.dev = true →
    ∃ d, exec (.timeGetSet t) s = .next (s.finish c 0 0 0 d) ∧ d.tu.ns = fld c.e 36 6 * 1000000000 + fld c.e 44 4 ∧
      d.tu.steps = (s.dev.tu.steps + 1) % 65536 ∧ d.tu.frac = 0 ∧ d.tu.addend = s.dev.tu.addend) ∧
  (∀ (s : State) (t : Nat) (c : Outst), Begins specTimeGetSet t s c → (pcSrc s.dev = 0 ∨ stepAllowed s.dev = false) →
    exec (.timeGetSet t) s = .next (s.finish c 6 0 0 s.dev)) ∧
  (∀ (s : State) (t : Nat) (c : Outst), Begins specTimeGetStatus t s c →
    exec (.timeGetStatus t) s = .next (s.finish c 0 0 0
      (postOut (dataOut c 0 ((statusBytes s.dev).take c.e.dataLen.toNat)) s.dev))) ∧
  (∀ (s : State) (r : Bool) (st : Nat), pcSrc s.dev = 1 → r ≠ pcGlFalling s.dev →
    ∃ t, exec (.genlockInEdge r st) s = .next t ∧ t.dev.ptp.edge = some st ∧ t.dev.ptp.edgeNs = s.dev.tu.ns ∧
      t.dev.ptp.offset = genlockOffset (pcGlNum s.dev) (pcGlDen s.dev) st) ∧
  (∀ (s : State) (r : Bool) (st : Nat), pcSrc s.dev ≠ 1 →
    ∃ t, exec (.genlockInEdge r st) s = .next t ∧ t.dev.tu = s.dev.tu ∧ t.dev.ptp = s.dev.ptp) ∧
  (∀ (s : State),
    (refSilent s.dev = true → pcSrc s.dev ≠ 2 → (s.dev.ptp.state = 1 ∨ s.dev.ptp.state = 2) →
      ∃ t, exec (.syncHoldoverTimeout false) s = .next t ∧ t.dev.ptp.state = 3 ∧ t.dev.tu.ns = s.dev.tu.ns ∧
        0x1FFBE76C9 ≤ t.dev.tu.addend ∧ t.dev.tu.addend ≤ 0x200418937) ∧
    (refSilent s.dev = false → exec (.syncHoldoverTimeout false) s = .next s)) ∧
  (∀ (s : State) (m : PtpMsg), masterOf s.dev = some m →
    (masterOf (dropSilent 1 (dropSilent 0 s.dev)) = none → pcSrc s.dev = 0 → (s.dev.ptp.state = 1 ∨ s.dev.ptp.state = 2) →
      ∃ t, exec (.syncHoldoverTimeout true) s = .next t ∧ t.dev.ptp.state = 3 ∧ masterOf t.dev = none) ∧
    (∀ k, masterOf (dropSilent 1 (dropSilent 0 s.dev)) = some k → k ≠ m →
      ∃ t, exec (.syncHoldoverTimeout true) s = .next t ∧ t.dev.ptp.sel = bestPort t.dev ∧ masterOf t.dev = some k)) ∧
  (∀ (s : State) (code : Dword) (st : Nat), ∃ t, exec (.ltcInFrame code st) s = .next t ∧
    t.dev.ptp.ltc = ((st, code.toNat) :: s.dev.ptp.ltc).take 8 ∧
    t.dev.ptp.ltcGood = (if s.dev.ptp.ltc.head?.any (fun x => ltcFollows (pcTcRate s.dev) x.1 st) = true then
      min (s.dev.ptp.ltcGood + 1) 4 else 1) ∧
    t.dev.ptp.ltcLock = (s.dev.ptp.ltcLock || t.dev.ptp.ltcGood == 4) ∧
    (s.dev.ptp.ltcLock = false → t.dev.ptp.ltcGood = 4 → pcSrc s.dev ≠ 1 → Queues s 7 →
      t.dev.evt.queue = s.dev.evt.queue ++ [newEvent s 7 8 0 1]) ∧
    (s.dev.ptp.ltcLock = true → pcSrc s.dev = 1 → pcTc s.dev = 1 → stepAllowed s.dev = true →
      Config.ltcSecond code (st / 1000000000) ≠ st / 1000000000 → t.dev.tu.steps = (s.dev.tu.steps + 1) % 65536 ∧
      t.dev.tu.ns = (s.dev.tu.ns + Config.ltcSecond code (st / 1000000000) * 1000000000 - st / 1000000000 * 1000000000) %
        (2 ^ 48 * 1000000000))) ∧
  (∀ (s : State),
    (ltcSilent s.dev = true → s.dev.ptp.ltcLock = true →
      ∃ t, exec .ltcInLost s = .next t ∧ t.dev.ptp.ltcLock = false ∧ t.dev.ptp.ltcGood = 0 ∧
        (Queues s 7 → t.dev.evt.queue = s.dev.evt.queue ++ [newEvent s 7 8 0 0])) ∧
    (ltcSilent s.dev = false → exec .ltcInLost s = .next s)) ∧
  (∀ (s : State) (t : Nat), le s.dev.ptp.cfg 50 1 = 1 → tcInstant (pcTcRate s.dev) (tcPoint (pcTcRate s.dev) t) = t →
    exec (.ltcOutFrame t) s = .next { s with dev := { s.dev with
      out := .pin 5 (timeAddr s.dev (tcPoint (pcTcRate s.dev) t)).toNat :: s.dev.out } }) ∧
  (∀ (s : State) (t : Nat), le s.dev.ptp.cfg 50 1 ≠ 1 ∨ tcInstant (pcTcRate s.dev) (tcPoint (pcTcRate s.dev) t) ≠ t →
    exec (.ltcOutFrame t) s = .next s)

/-- 14 R364-R366, R389, R390. -/
def Obligations.NetworkPortsAndFrames : Prop :=
  (∀ (s : State) (t : Nat) (c : Outst) (n : NetId) (cfg : List Byte), Begins specNetConfig t s c → n = netArg c.e →
    cfg = toLE 32 (sqeBody c.e) → fld c.e 32 1 = 1 → s.dev.pwr.state < 2 →
    ((net s.dev n).on = false ∨ netUsed s.dev n = false ∧ (net s.dev n).fwd ≤ s.dev.tu.ns) →
    (le cfg 2 1 ≠ 1 ∨ le cfg 24 4 = 0 ∨
      admitFails s.dev (netHandle n) false [(rcNet, n.val, le cfg 24 4)] = none) →
    ∃ d, exec (.netConfig t) s = .next (s.finish c 0 0 0 d) ∧ (net d n).on = true ∧ (net d n).cfg = cfg ∧
      ((net s.dev n).on = false → net d n = { net s.dev n with on := true, cfg := cfg }) ∧ ∀ q, q ≠ n → net d q = net s.dev q) ∧
  (∀ (s : State) (t : Nat) (c : Outst) (n : NetId), Begins specNetConfig t s c → n = netArg c.e → fld c.e 32 1 = 0 →
    (net s.dev n).on = true → netUsed s.dev n = false → (net s.dev n).fwd ≤ s.dev.tu.ns → s.dev.pwr.state < 2 →
    ∃ d, exec (.netConfig t) s = .next (s.finish c 0 0 0 d) ∧
      net d n = { net s.dev n with on := false, up := false, cfg := [], txq := [] } ∧ ∀ q, q ≠ n → net d q = net s.dev q) ∧
  (∀ (s : State) (t : Nat) (c : Outst) (n : NetId), Begins specNetConfig t s c → n = netArg c.e → fld c.e 32 1 = 0 →
    (net s.dev n).on = true → netUsed s.dev n = true → exec (.netConfig t) s = .next (s.finish c 6 0 0 s.dev)) ∧
  (∀ (s : State) (n : NetId) (cause : Nat), (net s.dev n).on = true → s.dev.pwr.state < 2 →
    ((net s.dev n).up = false → ∃ t, exec (.netLinkChange n true cause) s = .next t ∧ (net t.dev n).up = true ∧
      (Queues s 7 → ∃ l, t.dev.evt.queue = s.dev.evt.queue ++ newEvent s 7 1 (0x0C000000 + n.val) 1 :: l)) ∧
    ((net s.dev n).up = true → ∃ t, exec (.netLinkChange n false cause) s = .next t ∧ (net t.dev n).up = false ∧
      (Queues s 7 → ∃ l, t.dev.evt.queue = s.dev.evt.queue ++ newEvent s 7 1 (0x0C000000 + n.val) (cause % 256 * 2 ^ 8) :: l)) ∧
    exec (.netLinkChange n (net s.dev n).up cause) s = .next s) ∧
  (∀ (s : State) (n : NetId) (f : EthFrame), netUp s.dev n = true → s.dev.pwr.state < 2 →
    (f.fcsOk = false → ∀ k, exec (.firmwareProtocolRx n f k) s = .next { s with dev := bumpNet n 3 1 (bumpNet n 1 1 s.dev) }) ∧
    (f.fcsOk = true → exec (.firmwareProtocolRx n f 4) s = .next { s with dev := bumpNet n 6 1 (bumpNet n 1 1 s.dev) }) ∧
    (f.fcsOk = true → ∀ k, k = 3 ∨ 4 < k →
      exec (.firmwareProtocolRx n f k) s = .next { s with dev := bumpNet n 7 1 (bumpNet n 1 1 s.dev) }) ∧
    (f.fcsOk = true → ∀ k a, k < 3 → Config.answer k n.val f.bytes = some a →
      ∃ t, exec (.firmwareProtocolRx n f k) s = .next t ∧
        ((net s.dev n).txq = [] → (net s.dev n).txFree ≤ s.dev.tu.ns → t.dev.out = .net n.val 1 a :: s.dev.out) ∧
        (s.dev.tu.ns < (net s.dev n).txFree →
          t.dev.out = s.dev.out ∧ (net t.dev n).txq = (net s.dev n).txq ++ [(1, a)])) ∧
    (f.fcsOk = true → ∀ k, k < 3 → Config.answer k n.val f.bytes = none →
      exec (.firmwareProtocolRx n f k) s = .next { s with dev := bumpNet n 1 1 s.dev })) ∧
  (∀ (s : State) (n o : NetId) (f : EthFrame) (d : Dev), netUp s.dev n = true → s.dev.pwr.state < 2 → o = otherNet n →
    d = (if f.taken then s.dev else bumpNet n 1 1 s.dev) →
    (f.fcsOk = true → f.toUs = false → chained s.dev = true → netUp s.dev o = true →
      fwdBytes s.dev o + f.bytes.length ≤ 262144 →
      ∃ t, exec (.chainForward n f) s = .next t ∧
        ((net s.dev o).txq = [] → (net s.dev o).txFree ≤ s.dev.tu.ns → t.dev.out = .net o.val 2 f.bytes :: s.dev.out ∧
          (net t.dev n).cnt = (net (bumpNet n 8 1 d) n).cnt ∧ (net t.dev o).cnt = (net (bumpNet o 2 1 d) o).cnt) ∧
        (s.dev.tu.ns < (net s.dev o).txFree →
          t.dev.out = s.dev.out ∧ (net t.dev o).txq = (net s.dev o).txq ++ [(2, f.bytes)])) ∧
    (f.fcsOk = true → f.toUs = false → chained s.dev = true → netUp s.dev o = true →
      262144 < fwdBytes s.dev o + f.bytes.length → Queues s 7 →
      ∃ t, exec (.chainForward n f) s = .next t ∧ t.dev.out = s.dev.out ∧ (net t.dev n).drops = 0 ∧
        t.dev.evt.queue = s.dev.evt.queue ++
          [newEvent s 7 7 (0x0C000000 + n.val) (min ((net s.dev n).drops + 1) (2 ^ 32 - 1))]) ∧
    (f.fcsOk = true → chained s.dev = false ∨ f.toUs = true → exec (.chainForward n f) s = .next { s with dev := d }) ∧
    (f.fcsOk = false → f.taken = false → exec (.chainForward n f) s = .next { s with dev := bumpNet n 3 1 d }))

/-- 14 R378-R384. -/
def Obligations.MediaFlows : Prop :=
  (∀ (s : State) (t : Nat) (c : Outst) (cfg : List Byte) (src : FlowSrc) (slot : Nat), Begins specFlowOpen t s c →
    cfg = fit 64 c.e.data → flowValid cfg = true → handleKnown s.dev c.e.handle.toNat = true →
    flowSrc s.dev (flKind cfg) c.e.handle.toNat = some src → flowSuits s.dev cfg src = true →
    flMtu cfg + 8 + wireExtra cfg ≤ 9216 → flowSrcOn s.dev src = true → s.dev.pwr.state < 2 →
    (∀ n : NetId, bitOf (flPorts cfg) n.val = true → ncOn s.dev n = true) →
    flowCount s.dev (flKind cfg == 2) < (if flKind cfg = 2 then 16 else 64) →
    (∀ i k on co fm w h nu de, src = .video (some (i, k)) on co fm w h nu de → attCount s.dev i k < 8) →
    freeSlot s.dev 0x0D 80 = some slot →
    admitFails (openObj 0x0D slot c.qp 1 s.dev).2 (openObj 0x0D slot c.qp 1 s.dev).1 (!(flKind cfg == 2))
      (flowWants s.dev cfg src) = none →
    ∃ d f, exec (.flowOpen t) s = .next (s.finish c 0 (openObj 0x0D slot c.qp 1 s.dev).1 0 d) ∧ tabGet d.flows slot = some f ∧
      f.handle = (openObj 0x0D slot c.qp 1 s.dev).1 ∧ f.src = c.e.handle.toNat ∧ f.cfg = cfg ∧ f.sent = 0 ∧ f.closing = [] ∧
      ∀ j, j ≠ slot → tabGet d.flows j = tabGet s.dev.flows j) ∧
  (∀ (s : State) (slot t : Nat) (f : Flow) (n : NetId), tabGet s.dev.flows slot = some f →
    f.closing = [] → t ≤ s.dev.tu.ns → f.busy ≤ t → bitOf (flPorts f.cfg) n.val = true → (net s.dev n).up = true →
    (∀ (at' : Nat) (u : AuOut) (l : List (Nat × AuOut)), f.ready = (at', u) :: l →
      (flKind f.cfg = 4 ∧ flowSlotAfter f.cfg 0 at' = t ∨
        flKind f.cfg = 0 ∧ flowSlotAfter f.cfg (hcH ((s.dev.heads[hIdx f.src]?).getD {}).cfg) at' = t) →
      ∃ z y k, exec (.flowFrameTx slot t) s = .next z ∧ tabGet z.dev.flows slot = some y ∧ y.ready = l ∧
        (flKind f.cfg = 4 → k = (ancFrame s.dev f.cfg u).length) ∧ y.seq = (f.seq + k) % 2 ^ 32 ∧
        y.sent + y.tx.length = f.sent + f.tx.length + k ∧ (∀ x, y.tx.head? = some x → s.dev.tu.ns < x.1) ∧
        (flKind f.cfg = 4 → z.dev.out.length = s.dev.out.length + (y.sent - f.sent) *
          ((List.finRange 2).filter fun q => bitOf (flPorts f.cfg) q.val && (net s.dev q).up).length)) ∧
    (∀ (tf : TapFin), flKind f.cfg = 0 → f.ready = [] → tapFrameFor s.dev f.src f.handle = some tf →
      flowSlotAfter f.cfg (outH tf.snap.cfg + 1) tf.at' = t →
      ∃ z y k, exec (.flowFrameTx slot t) s = .next z ∧ tabGet z.dev.flows slot = some y ∧ y.seq = (f.seq + k) % 2 ^ 32 ∧
        y.sent + y.tx.length = f.sent + f.tx.length + k ∧ ∀ x, y.tx.head? = some x → s.dev.tu.ns < x.1)) ∧
  (∀ (s : State) (slot t at' : Nat) (f : Flow) (u : AuOut) (l : List (Nat × AuOut)), tabGet s.dev.flows slot = some f →
    f.closing = [] → flKind f.cfg = 4 → f.ready = (at', u) :: l → flowSlotAfter f.cfg 0 at' = t → t ≤ s.dev.tu.ns → t < f.busy →
    ∃ z, exec (.flowFrameTx slot t) s = .next z ∧ tabGet z.dev.flows slot = some { f with ready := l } ∧ z.dev.out = s.dev.out ∧
      (Queues s 7 → z.dev.evt.queue = s.dev.evt.queue ++ [newEvent s 7 4 f.handle (u.num % 2 ^ 32 + 2 ^ 32)])) ∧
  (∀ (s : State) (slot t k : Nat) (f : Flow) (a : AudSes) (x : List AudFrame) (n : NetId), tabGet s.dev.flows slot = some f →
    audOf s.dev f.src = some (k, a) → f.closing = [] → flKind f.cfg = 3 → x.length = asRate s.dev a / asPps a →
    audInstant ((s.dev.auds[a.port]?).getD {}) a.port (t + x.length) ≤ s.dev.tu.ns →
    bitOf (flPorts f.cfg) n.val = true → (net s.dev n).up = true →
    ∃ z y, exec (.audioPacketTx slot t x) s = .next z ∧ tabGet z.dev.flows slot = some y ∧ y.seq = (f.seq + 1) % 2 ^ 32 ∧
      y.sent + y.tx.length = f.sent + f.tx.length + 1 ∧ (f.tx = [] → y.sent = f.sent + 1)) ∧
  (∀ (s : State) (slot q : Nat) (f : Flow) (k : RtpPkt), tabGet s.dev.flows slot = some f → flKind f.cfg = 2 → f.closing = [] →
    bitOf (flPorts f.cfg) k.port.val = true → netUp s.dev k.port = true → s.dev.pwr.state < 2 → f.rx.next.getD k.seq = q →
    (seqAhead q k.seq < 32768 → flPorts f.cfg ≠ 3 ∨ seqAhead q k.seq = 0 ∧ f.rx.kept = [] →
      (f.rx.stamp = none ∨ f.rx.stamp = some k.stamp) → k.marker = false →
      ∃ z, exec (.rxFlowPacket slot k) s = .next z ∧ tabGet z.dev.flows slot = some { f with rx := { f.rx with
        next := some ((k.seq + 1) % 65536), lost := f.rx.lost + seqAhead q k.seq
        parts := f.rx.parts ++ [(seqAhead q k.seq, k.payload)], stamp := some k.stamp } }) ∧
    (seqAhead q k.seq < 32768 → flPorts f.cfg ≠ 3 → k.marker = true → (decOf s.dev f.src).isSome = true →
      ∃ z y, exec (.rxFlowPacket slot k) s = .next z ∧ tabGet z.dev.flows slot = some y ∧ y.rx.parts = [] ∧ y.rx.stamp = none ∧
        y.rx.next = some ((k.seq + 1) % 65536)) ∧
    (seqAhead q k.seq < 32768 → flPorts f.cfg = 3 → f.rx.kept = [] → seqAhead q k.seq ≠ 0 →
      ∃ z, exec (.rxFlowPacket slot k) s = .next z ∧ tabGet z.dev.flows slot = some { f with rx := { f.rx with
        next := some q, kept := [(k.seq, s.dev.tu.ns, k)] } }) ∧
    (32768 ≤ seqAhead q k.seq → exec (.rxFlowPacket slot k) s = .next { s with dev := bumpNet k.port 1 1 s.dev })) ∧
  (∀ (s : State) (t : Nat) (c : Outst) (slot : Nat) (f : Flow), Begins specFlowClose t s c →
    flowOf s.dev c.e.handle.toNat = some (slot, f) → tabGet s.dev.flows slot = some f →
    (fld c.e 32 1 = 1 ∨ f.busy ≤ c.ns + 80000000 →
      ∃ d y, exec (.flowClose t) s = .next (s.await c .stepped d) ∧ tabGet d.flows slot = some y ∧
        y.closing = f.closing ++ [c.tag] ∧ y.ready = [] ∧ (fld c.e 32 1 = 1 → y.tx = [] ∧ y.busy = 0) ∧
        (fld c.e 32 1 ≠ 1 → y.busy = f.busy ∧ ∃ l, f.tx = l ++ y.tx ∧ ∀ x ∈ l, x.1 ≤ s.dev.tu.ns)) ∧
    (fld c.e 32 1 ≠ 1 → c.ns + 80000000 < f.busy →
      exec (.flowClose t) s = .next { s with dev := complete c 2 0 0 32 s.dev })) ∧
  (∀ (s : State) (slot t n : Nat) (f : Flow) (c : Outst), tabGet s.dev.flows slot = some f → f.closing = [t] →
    (∀ x ∈ f.tx, x.1 ≤ s.dev.tu.ns) → f.busy ≤ s.dev.tu.ns →
    n = f.sent + (if ((List.finRange 2).filter fun q => bitOf (flPorts f.cfg) q.val && (net s.dev q).up).isEmpty then 0
      else f.tx.length) →
    findOutst s.dev t = some c → s.dev.pcie.short = false →
    ∃ z, exec (.flowCloseDone slot) s = .next z ∧ z.dev.host = (s.finish c 0 (n % 2 ^ 32) 0 s.dev).dev.host ∧
      tabGet z.dev.flows slot = none ∧ holds z.dev f.handle = false ∧ ∀ o ∈ z.dev.evt.objs, o.handle ≠ f.handle) ∧
  (∀ (d : Dev) (c : List Byte) (b : Bool), flKind c = 0 → flPorts c = 1 → flMtu c = 1200 → bitOf (flVlan c) 15 = false →
    flNum c = 50 → flDen c = 1 →
    (rcNet, 0, 8945) ∈ flowWants d c (.video none true b 0x13 3840 2160 50 1) ∧
    (rcHbmCap, unitAll, 95) ∈ flowWants d c (.video none true b 0x13 3840 2160 50 1) ∧
    (rcHbmBw, unitAll, 2 * 1659) ∈ flowWants d c (.video none true b 0x13 3840 2160 50 1))

/-- 15 R396-R409. -/
def Obligations.DisplayHeads : Prop :=
  (∀ (s : State) (t : Nat) (c : Outst) (h : HeadId) (cfg : List Byte) (x : Head), Begins specHeadConfigEnable t s c →
    h = headArg c.e → x = headAt s.dev h → cfg = fit 128 c.e.data → headSource s.dev cfg = true →
    headSuits s.dev cfg = true → outputTaken s.dev h (hcTarget cfg) = false → (x.on = false ∨ headFixed x.cfg = headFixed cfg) →
    x.next = none → x.commit = none → s.dev.pwr.state < 2 →
    (∀ i k, headTap cfg = some (i, k) → (tapOf s.dev i k).on = true ∧
      (x.on = true ∧ headTap x.cfg = some (i, k) ∨ attCount s.dev i k < 8)) →
    admitFails s.dev (headHandle h) false (headWants s.dev h cfg).1 = none → (headLink cfg).1 ≤ (headLink cfg).2 →
    admitFails s.dev (headHandle h) true ((headWants s.dev h cfg).1 ++ (headWants s.dev h cfg).2.drop 1) = none →
    ∃ d n, exec (.headConfigEnable t) s = .next (s.await c .waiting d) ∧ headAt d h = { x with next := some n } ∧
      n.tag = c.tag ∧ n.cfg = cfg ∧ n.fetchNs = c.ns ∧ ∀ q, q ≠ h → headAt d q = headAt s.dev q) ∧
  (∀ (s : State) (t : Nat) (c : Outst) (h : HeadId), Begins specHeadConfigDisable t s c → h = headArg c.e →
    (headAt s.dev h).next = none → (headAt s.dev h).commit = none →
    ((headAt s.dev h).on = true → ∃ d n, exec (.headConfigDisable t) s = .next (s.await c .waiting d) ∧
      headAt d h = { headAt s.dev h with next := some n } ∧ n.tag = c.tag ∧ n.cfg = [] ∧ ∀ q, q ≠ h → headAt d q = headAt s.dev q) ∧
    ((headAt s.dev h).on = false → exec (.headConfigDisable t) s = .next (s.finish c 0 0 0 s.dev))) ∧
  (∀ (s : State) (t mask size target : Nat) (c : Outst) (h : HeadId) (cfg : List Byte) (x : Head),
    Begins (if fldBits c.e 32 0 2 = 0 then specHeadPlace else specHeadCommit) t s c → h = headArg c.e → x = headAt s.dev h →
    mask = fld c.e 32 1 → target = fld c.e 36 4 → cfg = commitCfg x.cfg (bodyBytes c.e) →
    (x.on = true → (bitOf mask 0 = true → ovFmt (hcOv x.cfg 0) ≠ 0) → (bitOf mask 1 = true → ovFmt (hcOv x.cfg 1) ≠ 0) →
      ovOk cfg (hcOv cfg 0) = true → ovOk cfg (hcOv cfg 1) = true → hcBg cfg < 2 ^ 30 →
      (∀ w l b, videoSize s.dev cfg = some (w, l, b) → hcX cfg + w ≤ hcW cfg ∧ hcY cfg + l ≤ hcH cfg) →
      size = commitBytes x.cfg mask 0 + commitBytes x.cfg mask 1 → c.e.dataLen.toNat = size →
      (target = 0xFFFFFFFF ∨ fnFrom x.hfc target = true ∧ c.ns + 500000 ≤ startOf s.dev h target ∧
        startOf s.dev h target ≤ c.ns + 40000000) →
      (x.next = none → x.commit = none → x.shed = false →
        ∃ d k, exec (.headCommit t) s = .next (s.await c .waiting d) ∧ headAt d h = { x with commit := some k } ∧ k.tag = c.tag ∧
          k.body = bodyBytes c.e ∧ k.data = c.e.data.take size ∧ k.fetchNs = c.ns ∧
          k.target = (if target = 0xFFFFFFFF then none else some target) ∧ k.copied = (if size = 0 then some 0 else none)) ∧
      (x.next ≠ none ∨ x.commit ≠ none → exec (.headCommit t) s = .next (s.finish c 6 0 0 s.dev))) ∧
    (x.on = false → exec (.headCommit t) s = .next (s.finish c 6 0 0 s.dev))) ∧
  (∀ (s : State) (h : HeadId) (k : HeadCommit), (headAt s.dev h).commit = some k → k.copied = none →
    ∃ t, exec (.commitCopyDone h) s = .next t ∧
      headAt t.dev h = { headAt s.dev h with commit := some { k with copied := some s.dev.tu.ns } } ∧
      ∀ q, q ≠ h → headAt t.dev q = headAt s.dev q) ∧
  (∀ (s : State) (h : HeadId) (f : Nat) (x : Head), x = headAt s.dev h → comingStart s.dev h = some f → f ≤ s.dev.tu.ns + 50000 →
    (∀ (slot : Nat) (y : DecSes), hcMode (cfgAt x f) = 3 → decOf s.dev (hcVideo (cfgAt x f)) = some (slot, y) →
      dueAt x slot y f ≠ [] →
      ∃ t o, exec (.headFrameSelect h f) s = .next t ∧ (headAt t.dev h).sel = some (.dec slot o) ∧
        (headAt t.dev h).fresh = true ∧ o ∈ dueAt x slot y f ∧ ∀ z ∈ dueAt x slot y f, outAfter z o = false) ∧
    (∀ (i : IsleId) (k : TapId) (a : Nat) (tf : TapFin), hcMode (cfgAt x f) = 2 → headTap (cfgAt x f) = some (i, k) →
      ((tapOf s.dev i k).queue.filter fun q => q.1 == headHandle h && decide (inRingAt q.2 + 50000 ≤ f)).getLast? = some (a, tf) →
      ∃ t, exec (.headFrameSelect h f) s = .next t ∧ (headAt t.dev h).sel = some (.tap tf) ∧ (headAt t.dev h).fresh = true)) ∧
  (∀ (s : State) (h : HeadId) (x : Head), headAt s.dev h = x → x.on = true → x.next = none → x.commit = none → x.shed = false →
    (hcMode x.cfg ≠ 1 → nextStart s.dev h ≤ s.dev.tu.ns →
      ∃ t, exec (.headFrameStart h) s = .next t ∧ (headAt t.dev h).hfc = (x.hfc + 1) % 2 ^ 32 ∧
        (headAt t.dev h).start = nextStart s.dev h ∧ (headAt t.dev h).cfg = x.cfg ∧
        (∀ q, q ≠ h → headAt t.dev q = headAt s.dev q) ∧
        (hcMode x.cfg = 0 → sdiTarget (hcTarget x.cfg) = true → x.ov0 = [] → x.ov1 = [] →
          t.dev.out = .scan h.val x.hfc (le x.cfg 3 1) (composePlanes h.val x.cfg none [] []) :: s.dev.out)) ∧
    (∀ tf, hcMode x.cfg = 1 → tapFrameFor s.dev (hcVideo x.cfg) (headHandle h) = some tf →
      (x.gap = false ∨ x.start + headPeriod x.cfg ≤ lineZero tf) →
      ∃ t, exec (.headFrameStart h) s = .next t ∧ (headAt t.dev h).hfc = (x.hfc + 1) % 2 ^ 32 ∧
        (headAt t.dev h).start = lineZero tf ∧ (headAt t.dev h).vid = some (.tap tf) ∧ (headAt t.dev h).cfg = x.cfg) ∧
    (hcMode x.cfg ≠ 1 → s.dev.tu.ns < nextStart s.dev h → exec (.headFrameStart h) s = .next s)) ∧
  (∀ (s : State) (h : HeadId) (x : Head) (n : HeadNext), headAt s.dev h = x → x.on = false → x.shed = false →
    x.next = some n → n.cfg ≠ [] → x.commit = none →
    (hcMode n.cfg ≠ 1 ∧ firstStart n ≤ s.dev.tu.ns ∨
      hcMode n.cfg = 1 ∧ x.gap = false ∧ (tapFrameFor s.dev (hcVideo n.cfg) (headHandle h)).isSome = true) →
    ∃ t, exec (.headFrameStart h) s = .next t ∧ (headAt t.dev h).on = true ∧ (headAt t.dev h).cfg = n.cfg ∧
      (headAt t.dev h).next = none ∧ (headAt t.dev h).hfc = (x.hfc + 1) % 2 ^ 32 ∧
      ∀ c, hcMode n.cfg = 0 → hcTarget n.cfg ≠ 7 → x.ov0 = [] → x.ov1 = [] → findOutst s.dev n.tag = some c → s.dev.pcie.short = false →
        t.dev.host = (s.finish c 0 x.hfc 0 s.dev).dev.host) ∧
  (∀ (s : State) (h : HeadId) (x : Head) (n : HeadNext) (c : Outst), headAt s.dev h = x → x.on = true → x.shed = false →
    x.next = some n → n.cfg = [] → x.commit = none → nextStart s.dev h ≤ s.dev.tu.ns → findOutst s.dev n.tag = some c →
    s.dev.pcie.short = false →
    ∃ t, exec (.headFrameStart h) s = .next t ∧ headAt t.dev h = { ({} : Head) with cnt := x.cnt } ∧
      holds t.dev (headHandle h) = false ∧
      t.dev.host = (s.finish c 0 ((x.hfc + 2 ^ 32 - 1) % 2 ^ 32) 0 s.dev).dev.host) ∧
  (∀ (s : State) (h : HeadId) (x : Head), headAt s.dev h = x → x.on = true → x.next = none → x.commit = none → x.shed = false →
    hcMode x.cfg = 1 →
    (gapAt x ≤ s.dev.tu.ns → tapFrameFor s.dev (hcVideo x.cfg) (headHandle h) = none →
      ∃ t, exec (.sourceGap h) s = .next t ∧ (headAt t.dev h).gap = true ∧ (headAt t.dev h).hfc = (x.hfc + 1) % 2 ^ 32 ∧
        (headAt t.dev h).start = x.start + headPeriod x.cfg + 1000000 ∧
        (Queues s 8 → dpTarget (hcTarget x.cfg) = true → x.ov0 = [] → x.ov1 = [] →
          t.dev.evt.queue = s.dev.evt.queue ++ [newEvent s 8 3 (headHandle h) x.hfc])) ∧
    (s.dev.tu.ns < gapAt x → exec (.sourceGap h) s = .next s)) ∧
  (∀ (s : State) (o : Fin 2) (h : HeadId) (x : Head), dpHead s.dev o.val = some h → x = headAt s.dev h →
    (∃ t, exec (.dpHpd o) s = .next t ∧ headAt t.dev h = { x with training := true, up := false, below := false } ∧
      (x.up = true → Queues s 8 → t.dev.evt.queue = s.dev.evt.queue ++
        [newEvent s 8 2 (headHandle h) (x.rate % 16 * 2 ^ 4 + x.lanes % 8 * 2 ^ 8)])) ∧
    (∀ r l, x.training = true → ∃ t, exec (.dpLinkTrained o r l) s = .next t ∧ (headAt t.dev h).training = false ∧
      (headAt t.dev h).rate = r ∧ (headAt t.dev h).lanes = l ∧ (headAt t.dev h).up = decide (l ≠ 0) ∧
      (headAt t.dev h).below = (decide (l ≠ 0) && decide (dpMbps r l < (headLink x.cfg).1)) ∧
      (Queues s 8 → t.dev.evt.queue = s.dev.evt.queue ++ [newEvent s 8 2 (headHandle h)
        (b2n (decide (l ≠ 0)) + b2n (decide (l ≠ 0) && decide (dpMbps r l < (headLink x.cfg).1)) * 2 + r % 16 * 2 ^ 4 +
          l % 8 * 2 ^ 8)])))

/-- 16 R416-R420, R433; which frame a lost clock mutes first follows log 115 (DEDUCED). -/
def Obligations.AudioPortsStartAndStop : Prop :=
  (∀ (s : State) (t : Nat) (c : Outst) (p : AudId), Begins specAudConfigEnable t s c → p = audArg c.e →
    (aud s.dev p).on = false → (aud s.dev p).cmd = none → s.dev.pwr.state < 2 →
    admitFails s.dev (audHandle p) false [(0x0A, 0xFF, 16), (0x0F, 0xFF, 20)] = none →
    ∃ d, exec (.audConfigEnable t) s = .next (s.await c .waiting d) ∧ (aud d p).on = false ∧
      (aud d p).cfg = bodyBytes c.e ∧ (aud d p).cmd = some (c.tag, c.ns) ∧ (aud d p).off = false ∧
      ((aud d p).clk = none ↔ acSlave (bodyBytes c.e) = true) ∧ ∀ q, q ≠ p → aud d q = aud s.dev q) ∧
  (∀ (s : State) (t : Nat) (c : Outst) (p : AudId), Begins specAudConfigEnable t s c → p = audArg c.e →
    (aud s.dev p).on = true → (aud s.dev p).cmd = none →
    ((aud s.dev p).cfg = bodyBytes c.e → exec (.audConfigEnable t) s = .next (s.finish c 0 (aud s.dev p).first 0 s.dev)) ∧
    ((aud s.dev p).cfg ≠ bodyBytes c.e → exec (.audConfigEnable t) s = .next (s.finish c 6 0 0 s.dev))) ∧
  (∀ (s : State) (p : AudId) (x : AudPort) (t ns k : Nat) (c : Outst), aud s.dev p = x → x.cmd = some (t, ns) → x.off = false →
    x.clk = some k → findOutst s.dev t = some c →
    (k + acLead x.cfg * 1000000 ≤ s.dev.tu.ns →
      ∃ d, exec (.audEnableDone p) s = .next (s.finish c 0 x.first 0 d) ∧ aud d p = { x with on := true, cmd := none } ∧
        ∀ q, q ≠ p → aud d q = aud s.dev q) ∧
    (s.dev.tu.ns < k + acLead x.cfg * 1000000 → exec (.audEnableDone p) s = .next s)) ∧
  (∀ (s : State) (p : AudId) (x : AudPort) (st : Nat), aud s.dev p = x → x.cmd ≠ none → x.off = false → x.clk = none →
    ∃ t, exec (.audFirstFsync p st) s = .next t ∧
      aud t.dev p = { x with clk := some st, base := st, first := divUp (acLead x.cfg * acFs x.cfg) 1000 }) ∧
  (∀ (s : State) (p : AudId) (x : AudPort) (t ns : Nat) (c : Outst), aud s.dev p = x → x.cmd = some (t, ns) → x.off = false →
    x.clk = none → findOutst s.dev t = some c →
    (ns + 100000000 ≤ s.dev.tu.ns →
      ∃ d, exec (.audNoClockTimeout p) s = .next (s.finish c 0x0900 0 0 d) ∧ aud d p = { x with
        on := true, cmd := none, clk := some s.dev.tu.ns, base := s.dev.tu.ns, lost := true, lostAt := 0, first := 0 }) ∧
    (s.dev.tu.ns < ns + 100000000 → exec (.audNoClockTimeout p) s = .next s)) ∧
  (∀ (s : State) (p : AudId) (x : AudPort), aud s.dev p = x → x.on = true → acSlave x.cfg = true →
    (x.lost = false → ∃ t, exec (.audClockLoss p) s = .next t ∧
      aud t.dev p = { x with lost := true, lostAt := audNow x s.dev.tu.ns } ∧
      (Queues s 8 → t.dev.evt.queue = s.dev.evt.queue ++
        [newEvent s 8 0x10 (audHandle p) (1 + audNow x s.dev.tu.ns % 2 ^ 32 * 2 ^ 32)])) ∧
    (x.lost = true → ∃ t, exec (.audClockRestored p) s = .next t ∧
      aud t.dev p = { x with lost := false, muted := ((x.lostAt, audFrom x s.dev.tu.ns) :: x.muted).take 8 } ∧
      (Queues s 8 → t.dev.evt.queue = s.dev.evt.queue ++
        [newEvent s 8 0x10 (audHandle p) (audFrom x s.dev.tu.ns % 2 ^ 32 * 2 ^ 32)]))) ∧
  (∀ (s : State) (t : Nat) (c : Outst) (p : AudId), Begins specAudConfigDisable t s c → p = audArg c.e →
    (aud s.dev p).cmd = none → (∀ a ∈ s.dev.auss, a.2.port ≠ p.val) →
    ((aud s.dev p).on = true → ∃ d, exec (.audConfigDisable t) s = .next (s.await c .waiting d) ∧
      aud d p = { aud s.dev p with cmd := some (c.tag, c.ns), off := true }) ∧
    ((aud s.dev p).on = false → exec (.audConfigDisable t) s = .next (s.finish c 0 0 0 s.dev))) ∧
  (∀ (s : State) (t : Nat) (c : Outst) (a : Nat × AudSes), Begins specAudConfigDisable t s c → a ∈ s.dev.auss →
    a.2.port = (audArg c.e).val → exec (.audConfigDisable t) s = .next (s.finish c 6 0 0 s.dev)) ∧
  (∀ (s : State) (p : AudId) (x : AudPort) (t ns : Nat) (c : Outst), aud s.dev p = x → x.cmd = some (t, ns) → x.off = true →
    tailEnd x p.val ns ≤ s.dev.tu.ns → findOutst s.dev t = some c → s.dev.pcie.short = false →
    ∃ d, exec (.audDisableDone p) s = .next (s.finish c 0 0 0 d) ∧ aud d p = {} ∧ holds d (audHandle p) = false)

/-- 16 R422-R429. -/
def Obligations.AudioStreamsRunTheirPeriods : Prop :=
  (∀ (s : State) (t : Nat) (c : Outst) (p : AudId) (x : AudPort) (cfg : List Byte) (slot n : Nat),
    Begins specAudStreamOpen t s c → p = audArg c.e → x = aud s.dev p → cfg = bodyBytes c.e → n = le cfg 8 2 + 1 →
    x.on = true → x.cmd = none → maskOk x.cfg (aoMask cfg) (aoMaxCh cfg) = true → embedOk s.dev x cfg = true →
    (aoPlay cfg = true → acTdm x.cfg = true) → s.dev.pwr.state < 2 →
    (s.dev.auss.filter fun a => a.2.port == p.val && a.2.play == aoPlay cfg).length < (if aoPlay cfg then 1 else 2) →
    freeSlot s.dev 0x10 12 = some slot →
    admitFails (openObj 0x10 slot c.qp 1 s.dev).2 (openObj 0x10 slot c.qp 1 s.dev).1 true
      [(0x08, 0xFF, divUp (2 * asStride (newStream 0 p.val cfg 0) * divUp (acFs x.cfg) n) 1000000),
       (0x09, 0xFF, divUp (4 * asStride (newStream 0 p.val cfg 0)) (2 ^ 20)), (0x0A, 0xFF, 4),
       (0x0B, if aoPlay cfg then 1 else 0, divUp (asStride (newStream 0 p.val cfg 0) * divUp (acFs x.cfg) n) 1000000)] = none →
    ∃ d next, exec (.audStreamOpen t) s = .next (s.finish c 0 (openObj 0x10 slot c.qp 1 s.dev).1 next d) ∧
      tabGet d.auss slot = some (newStream (openObj 0x10 slot c.qp 1 s.dev).1 p.val cfg next s.dev.pcie.epoch) ∧ next % n = 0 ∧
      x.first ≤ next ∧ audFrom x (c.ns + (if aoPlay cfg then 2000000 else 100000)) ≤ next ∧
      ∀ j, j ≠ slot → tabGet d.auss j = tabGet s.dev.auss j) ∧
  (∀ (s : State) (t : Nat) (c : Outst) (slot : Nat) (a : AudSes), Begins specAudStreamMask t s c →
    audOf s.dev c.e.handle.toNat = some (slot, a) → tabGet s.dev.auss slot = some a → a.play = false →
    maskOk (aud s.dev (audIdx a.port)).cfg (fld c.e 36 2) (aoMaxCh a.cfg) = true → a.change = none → a.closing = [] →
    (audAttached s.dev a = false ∨ popCount (fld c.e 36 2) = popCount a.mask) →
    ∃ d, exec (.audStreamMask t) s = .next (s.await c .waiting d) ∧ tabGet d.auss slot = some { a with
      change := some (c.tag, fld c.e 36 2, max a.next (audFrom (aud s.dev (audIdx a.port)) (c.ns + 100000))) }) ∧
  (∀ (s : State) (t : Nat) (c : Outst) (slot : Nat) (a : AudSes), Begins specAudStreamStatus t s c →
    audOf s.dev c.e.handle.toNat = some (slot, a) →
    exec (.audStreamStatus t) s = .next (s.finish c 0 ((a.seq + 1) % 2 ^ 32 + min a.errs (2 ^ 32 - 1) * 2 ^ 32)
      (a.next % 2 ^ 64 + audInstant (aud s.dev (audIdx a.port)) a.port a.next % 2 ^ 32 * 2 ^ 64) s.dev)) ∧
  (∀ (s : State) (slot e : Nat) (a : AudSes) (l : List AudFrame), tabGet s.dev.auss slot = some a → a.play = false →
    e = periodEnd a → a.next < e → (∀ g m k, a.change = some (g, m, k) → a.next < k) → l.length = e - a.next →
    audInstant (aud s.dev (audIdx a.port)) a.port e ≤ s.dev.tu.ns →
    (a.stop ≠ some e → ∃ t y, exec (.audPeriodDone slot l) s = .next t ∧ tabGet t.dev.auss slot = some y ∧
      y.seq = a.seq + 1 ∧ y.next = e ∧ y.handle = a.handle ∧ y.cfg = a.cfg ∧ y.stop = a.stop ∧ y.closing = a.closing ∧
      (∀ g m k, a.change = some (g, m, k) → k ≤ e → y.mask = m ∧ y.change = none) ∧
      (deliversFrom a.ep s.dev = false → y.gap = true ∧ y.errs = a.errs + 1) ∧
      (deliversFrom a.ep s.dev = true →
        (∀ b, (readUnit { handle := a.handle, cls := 0, frame := a.seq + 1 } (stagePeriod a (a.seq + 1) b.length s.dev).2 b
          (stagePeriod a (a.seq + 1) b.length s.dev).1).2.2 = false) →
        y.gap = false ∧ y.errs = a.errs ∧ ∃ b o, t.dev.out = o ++ s.dev.out ∧
          .ring a.handle (ringSlot (aoSlots a.cfg - 1) (a.seq + 1)) (a.seq + 1) b ∈ o)) ∧
    (a.stop = some e → ∃ t, exec (.audPeriodDone slot l) s = .next t ∧ tabGet t.dev.auss slot = none)) ∧
  (∀ (s : State) (slot : Nat) (a : AudSes) (x : AudPort) (k : PlaySlot), tabGet s.dev.auss slot = some a → a.play = true →
    x = aud s.dev (audIdx a.port) →
    (readAt a x ≤ s.dev.tu.ns →
      (delivering s.dev = true → playValid a x k = true → (∀ q, a.stop = some q → k.at' ≤ q) →
        ∃ t o l, exec (.audPlaybackRead slot k) s = .next t ∧ t.dev.out = l ++ .audio a.port o :: s.dev.out ∧
          o.length = k.frames + 1 ∧
          tabGet t.dev.auss slot = some { a with seq := a.seq + 1, next := a.next + (k.frames + 1) }) ∧
      ((delivering s.dev && playValid a x k) = false → a.stop = none →
        ∃ t l, exec (.audPlaybackRead slot k) s = .next t ∧
          t.dev.out = l ++ .audio a.port (List.replicate (asPeriod a) (List.replicate (acSlots x.cfg) 0)) :: s.dev.out ∧
          tabGet t.dev.auss slot = some { a with seq := a.seq + 1, next := a.next + asPeriod a, errs := a.errs + 1 }) ∧
      (∀ q, a.stop = some q → ((delivering s.dev && playValid a x k) = false ∨ q < k.at') →
        ∃ t, exec (.audPlaybackRead slot k) s = .next t ∧ tabGet t.dev.auss slot = none)) ∧
    (s.dev.tu.ns < readAt a x → exec (.audPlaybackRead slot k) s = .next s)) ∧
  (∀ (s : State) (t : Nat) (c : Outst) (slot : Nat) (a : AudSes), Begins specAudStreamClose t s c →
    audOf s.dev c.e.handle.toNat = some (slot, a) → tabGet s.dev.auss slot = some a → a.stop = none →
    (a.play = false → a.next < audFrom (aud s.dev (audIdx a.port)) c.ns →
      ∃ u k, exec (.audStreamClose t) s = .next u ∧
        tabGet u.dev.auss slot = some { a with closing := a.closing ++ [t], stop := some k } ∧
        k = (if fld c.e 35 1 = 1 then audFrom (aud s.dev (audIdx a.port)) c.ns else boundary a) ∧
        findOutst u.dev t = some { c with phase := .stepped }) ∧
    (a.play = true → fld c.e 35 1 ≠ 1 →
      ∃ u, exec (.audStreamClose t) s = .next u ∧
        tabGet u.dev.auss slot = some { a with closing := a.closing ++ [t], stop := some c.ns } ∧
        findOutst u.dev t = some { c with phase := .stepped }) ∧
    (a.play = true ∧ fld c.e 35 1 = 1 ∨ a.play = false ∧ audFrom (aud s.dev (audIdx a.port)) c.ns ≤ a.next →
      s.dev.pcie.short = false →
      ∃ u, exec (.audStreamClose t) s = .next u ∧ tabGet u.dev.auss slot = none ∧ findOutst u.dev t = none ∧
        holds u.dev a.handle = false ∧ ∀ o ∈ u.dev.evt.objs, o.handle ≠ a.handle))

/-- 17 R439-R447, R457, R458. -/
def Obligations.AxesAreConfiguredMeasuredAndChecked : Prop :=
  (∀ (s : State) (t : Nat) (c : Outst) (a : AxisId) (l : List Byte), Begins specAxisConfigEnable t s c →
    a = axArg c.e → l = fit 64 c.e.data → noPath s.dev = false → emuTaken s.dev a (axEmuOut l) = false →
    axInhibited s.dev a = false →
    ((axisOf s.dev a).on = false ∨ sameButPorts (axisOf s.dev a).cfg l = false →
      ∃ d, exec (.axisConfigEnable t) s = .next (s.await c .stepped d) ∧
        axisOf d a = { on := true, cfg := l, rehome := axCounts l, waits := (axisOf s.dev a).waits ++ [c.tag] } ∧
        ∀ b, b ≠ a → axisOf d b = axisOf s.dev b) ∧
    ((axisOf s.dev a).on = true → sameButPorts (axisOf s.dev a).cfg l = true → (axisOf s.dev a).valid = true →
      ∃ d, exec (.axisConfigEnable t) s = .next (s.finish c 0 0 0 d) ∧ axisOf d a = { axisOf s.dev a with cfg := l }) ∧
    ((axisOf s.dev a).on = true → sameButPorts (axisOf s.dev a).cfg l = true → (axisOf s.dev a).valid = false →
      ((axisOf s.dev a).fault = true → ∃ d, exec (.axisConfigEnable t) s =
        .next (s.finish c 0x0A00 (axisOf s.dev a).cause 0 d) ∧ axisOf d a = { axisOf s.dev a with cfg := l }) ∧
      ((axisOf s.dev a).fault = false → ∃ d, exec (.axisConfigEnable t) s = .next (s.await c .stepped d) ∧
        axisOf d a = { axisOf s.dev a with cfg := l, waits := (axisOf s.dev a).waits ++ [c.tag] }))) ∧
  (∀ (s : State) (t : Nat) (c : Outst) (a : AxisId), Begins specAxisConfigDisable t s c → a = axArg c.e →
    noPath s.dev = false → axInhibited s.dev a = false →
    ∃ d, exec (.axisConfigDisable t) s = .next (s.finish c 0 0 0 d) ∧
      axisOf d a = { waits := (axisOf s.dev a).waits } ∧ ∀ b, b ≠ a → axisOf d b = axisOf s.dev b) ∧
  (∀ (s : State) (t : Nat) (c : Outst), Begins specAxisConfigDisable t s c → noPath s.dev = false →
    axInhibited s.dev (axArg c.e) = true → exec (.axisConfigDisable t) s = .next (s.finish c 0x40 0 0 s.dev)) ∧
  (∀ (s : State) (a : AxisId) (c : Outst) (l1 l2 : List Nat), (axisOf s.dev a).valid = false →
    (axisOf s.dev a).waits = l1 ++ c.tag :: l2 → (∀ n ∈ l1 ++ l2, configLate s.dev n = false) → findOutst s.dev c.tag = some c →
    c.ns + 10000000 ≤ s.dev.tu.ns →
    exec (.axisConfigTimeout a) s = .next (s.finish c 0x0A00 (axisOf s.dev a).cause 0
      (modAxis a (fun x => { x with waits := l1 ++ l2 }) s.dev))) ∧
  (∀ (s : State) (a : AxisId), (∀ n ∈ (axisOf s.dev a).waits, configLate s.dev n = false) →
    exec (.axisConfigTimeout a) s = .next s) ∧
  (∀ (s : State) (a : AxisId) (i : AxisIn) (x : Axis) (g : Nat) (mv : Int), x = axisOf s.dev a → x.on = true →
    axCounts x.cfg = true → g = s.dev.tu.ns / 500 * 500 → (∀ h, x.hist.head? = some h → h.t < g) →
    mv = (if axMode x.cfg = 2 then (sincosStep g s.dev.free i x).1 else i.edges) →
    ∃ t h, exec (.axisGridSample a i) s = .next t ∧ (axisOf t.dev a).hist.head? = some h ∧
      h.t = g ∧ h.p = (axisOf t.dev a).pos ∧
      ((∀ v k, x.preset = some (v, k) → g < k) → (axisOf t.dev a).preset = x.preset ∧ (x.fault = false →
        h.p = wrap48 (x.pos + (if axInvert x.cfg then -mv else mv)) ∧ (axisOf t.dev a).valid = true ∧
        (x.valid = false → (axisOf t.dev a).waits = [] ∧ ∀ n ∈ x.waits, findOutst t.dev n = none) ∧
        (x.fresh < 2 ^ axSpdWin x.cfg → h.speed = 0) ∧
        (∀ w : Samp, 2 ^ axSpdWin x.cfg ≤ x.fresh → x.hist[2 ^ axSpdWin x.cfg - 1]? = some w →
          h.speed = max (-2147483647) (min 2147483647 ((wrap48 (h.p - w.p) * 2000000).tdiv (2 ^ axSpdWin x.cfg))))) ∧
        (x.fault = true → h.p = x.pos)) ∧
      (∀ v k, x.preset = some (v, k) → k ≤ g →
        h.p = signed 48 v ∧ (axisOf t.dev a).preset = none ∧ (axisOf t.dev a).rehome = false)) ∧
  (∀ (s : State) (a : AxisId) (r : EncRead) (x : Axis), x = axisOf s.dev a → x.on = true → axSerial x.cfg = true →
    (∀ p, x.read = some p → p.2 + readGapNs x.cfg ≤ readStamp x.cfg r) →
    (r.started = true → readOk x.cfg r = true → x.fault = false → x.read = none →
      ∃ t, exec (.encoderReadDone a r) s = .next t ∧ (axisOf t.dev a).pos = (encCode x.cfg r.code : Int) ∧
        (axisOf t.dev a).valid = true) ∧
    (∀ (c0 s0 : Nat) (v : Int), r.started = true → readOk x.cfg r = true → x.preset = none → x.read = some (c0, s0) →
      v = (if axInvert x.cfg then -1 else 1) *
        signed (axEncBits x.cfg) ((encCode x.cfg r.code + 2 ^ axEncBits x.cfg - c0) % 2 ^ axEncBits x.cfg) →
      ∃ t, exec (.encoderReadDone a r) s = .next t ∧
        (axisOf t.dev a).read = some (encCode x.cfg r.code, readStamp x.cfg r) ∧
        (x.fault = false → x.valid = true → (axisOf t.dev a).pos = wrap48 (x.pos + v)) ∧
        (x.fault = true → (axisOf t.dev a).pos = x.pos ∧ (axisOf t.dev a).gap = x.gap + v)) ∧
    (r.started = false ∨ readOk x.cfg r = false →
      ∃ t, exec (.encoderReadDone a r) s = .next t ∧ (axisOf t.dev a).pos = x.pos ∧
        (axisOf t.dev a).errCnt = min (x.errCnt + 1) 0xFFFF ∧ (axisOf t.dev a).badNs = s.dev.tu.ns)) ∧
  (∀ (s : State) (a : AxisId) (n : Nat) (x : Axis), x = axisOf s.dev a → x.on = true → axIndexEn x.cfg = true →
    (axMode x.cfg = 1 ∨ axMode x.cfg = 2) →
    ∃ t, exec (.axisIndex a n) s = .next t ∧ (axisOf t.dev a).idxPos = x.pos ∧ (axisOf t.dev a).idxNs = n % 2 ^ 32 ∧
      (axisOf t.dev a).index = true ∧ (axisOf t.dev a).rehome = false ∧ (axisOf t.dev a).idxSeen = true ∧
      (x.idxSeen = false → t.dev.evt = s.dev.evt ∧ (axisOf t.dev a).driftE = x.driftE) ∧
      (∀ e : Int, x.idxSeen = true → axCpr x.cfg ≠ 0 →
        e = driftOf s.dev.free (axCpr x.cfg) (wrap48 (x.pos - x.idxPos)) → (axisOf t.dev a).driftE = driftReg e ∧
        (e.natAbs ≤ axDriftTol x.cfg → t.dev.evt = s.dev.evt ∧ (axisOf t.dev a).drift = x.drift) ∧
        (axDriftTol x.cfg < e.natAbs → (axisOf t.dev a).drift = true ∧
          (axisOf t.dev a).driftCnt = min (x.driftCnt + 1) 0xFFFF ∧
          (monitored s.dev a = true → t.dev.safe.held = true) ∧
          (monitored s.dev a = false → Queues s 9 →
            t.dev.evt.queue = s.dev.evt.queue ++ [newEvent s 9 2 (axHandle a) (driftReg e)])))) ∧
  (∀ (s : State) (a : AxisId) (k : Nat) (x : Axis), x = axisOf s.dev a → x.on = true → x.fault = false →
    faultShown x k = true →
    ∃ t, exec (.axisFault a k) s = .next t ∧ (axisOf t.dev a).fault = true ∧ (axisOf t.dev a).cause = k ∧
      (axisOf t.dev a).valid = false ∧ (axisOf t.dev a).faultEdge = true ∧ (axisOf t.dev a).pos = x.pos ∧
      (axisOf t.dev a).waits = [] ∧ (monitored s.dev a = true → t.dev.safe.held = true) ∧
      (monitored s.dev a = false → Queues s 9 → t.dev.evt.queue = s.dev.evt.queue ++
        [newEvent s 9 1 (axHandle a) (1 + k % 16 * 16 + unsigned 48 x.pos * 2 ^ 16)])) ∧
  (∀ (s : State) (a : AxisId) (x : Axis), x = axisOf s.dev a → x.on = true → x.fault = true →
    x.badNs + 1000000 ≤ s.dev.tu.ns →
    ∃ t, exec (.axisFaultClear a) s = .next t ∧ (axisOf t.dev a).fault = false ∧ (axisOf t.dev a).valid = true ∧
      (axisOf t.dev a).pos = wrap48 (x.pos + x.gap) ∧ (axCounts x.cfg = true → (axisOf t.dev a).rehome = true) ∧
      (Queues s 9 → t.dev.evt.queue = s.dev.evt.queue ++
        [newEvent s 9 1 (axHandle a) (x.cause % 16 * 16 + unsigned 48 (wrap48 (x.pos + x.gap)) * 2 ^ 16)]))

/-- 17 R438, R448-R456, R460, R461; 18 R466. -/
def Obligations.LatchesDrivesAndTheLink : Prop :=
  (∀ (s : State) (a : AxisId) (q : LatchReq), latchAsked s.dev a q = false → exec (.latchInstantRx a q) s = .next s) ∧
  (∀ (s : State) (a : AxisId) (q : LatchReq), (axisOf s.dev a).on = true → latchAsked s.dev a q = true →
    latchCrosses s.dev q = true → q ∉ (axisOf s.dev a).lats →
    ((axisOf s.dev a).lats.length < 24 →
      ∃ t, exec (.latchInstantRx a q) s = .next t ∧ (axisOf t.dev a).lats = (axisOf s.dev a).lats ++ [q] ∧
        t.dev.axrec = s.dev.axrec) ∧
    (∀ o rest, (axisOf s.dev a).lats = o :: rest → 24 ≤ (o :: rest).length →
      ∃ t, exec (.latchInstantRx a q) s = .next t ∧ (axisOf t.dev a).lats = rest ++ [q] ∧ (axisOf t.dev a).latch = true ∧
        t.dev.axrec = (putLatch a o { st := 3, posQ := 0, speed := 0, t := o.t } s.dev).axrec)) ∧
  (∀ (s : State) (a : AxisId) (h : Samp) (q : LatchReq) (l1 l2 : List LatchReq), (axisOf s.dev a).hist.head? = some h →
    (axisOf s.dev a).lats = l1 ++ q :: l2 → (∀ o ∈ l1, h.t < o.t / 500 * 500 + 500) → q.t / 500 * 500 + 500 ≤ h.t →
    ∃ t, exec (.latchResolve a) s = .next t ∧ (axisOf t.dev a).lats = l1 ++ l2 ∧ (axisOf t.dev a).latch = true ∧
      t.dev.axrec = (putLatch a q (latchResult (axisOf s.dev a) q.t) s.dev).axrec) ∧
  (∀ (x : Axis) (n g : Nat) (u v : Samp), g = n / 500 * 500 → (x.hist.take 256).find? (fun k => k.t == g) = some u →
    (x.hist.take 256).find? (fun k => k.t == g + 500) = some v → u.valid = true → v.valid = true →
    (∀ o, (x.hist.take 256).getLast? = some o → o.t ≤ g) →
    (latchResult x n).st = 0 ∧ (latchResult x n).speed = v.speed ∧ (latchResult x n).t = n ∧
      (500 * (latchResult x n).posQ - 65536 * (500 * u.p + wrap48 (v.p - u.p) * ((n - g : Nat) : Int))).natAbs ≤ 250) ∧
  (∀ (s : State) (c : CoreId) (a : AxisId) (h : Samp), coreRuns s.dev c = true → (axisOf s.dev a).hist.head? = some h →
    ∃ t, exec (.posSnapshotLoad c a) s = .next t ∧
      t.dev.out = .load (c.val + 1) (0x40010000 + 0x40 * a.val) (unsigned 64 h.p) :: s.dev.out ∧
      (core t.dev c).snaps[a] = { stamp := h.t % 2 ^ 32, speed := h.speed }) ∧
  (∀ (s : State) (c : CoreId) (a : AxisId), coreRuns s.dev c = true →
    ∃ t, exec (.posErrCntRead c a) s = .next t ∧ (axisOf t.dev a).errCnt = 0 ∧ (axisOf t.dev a).driftCnt = 0 ∧
      t.dev.out = .load (c.val + 1) (0x4001002C + 0x40 * a.val)
        ((axisOf s.dev a).errCnt + (axisOf s.dev a).driftCnt * 2 ^ 16) :: s.dev.out) ∧
  (∀ (s : State) (c : CoreId) (a : AxisId) (v : Dword) (w : Word), coreRuns s.dev c = true → axisOwner s.dev a = c.val →
    (monitored s.dev a = false ∨ s.dev.safe.held = true →
      ∃ t, exec (.posPresetWrite c a v) s = .next t ∧ (axisOf t.dev a).preset = some (v.toNat % 2 ^ 48, s.dev.tu.ns) ∧
        (axisOf t.dev a).pos = (axisOf s.dev a).pos) ∧
    (∃ t, exec (.pwmCmdWrite c a w) s = .next t ∧ (axisOf t.dev a).cmd = signed 16 (w.toNat % 2 ^ 16) ∧
      ((axisOf s.dev a).arm = true ∨ (axisOf s.dev a).brk = true → (axisOf t.dev a).timer = s.dev.tu.ns) ∧
      (axisOf t.dev a).arm = (axisOf s.dev a).arm ∧ (axisOf t.dev a).brk = (axisOf s.dev a).brk) ∧
    (∀ i, (i = .pwmArmWrite c a w ∨ i = .brakeRelWrite c a w) →
      ∃ t, exec i s = .next t ∧ (axisOf t.dev a).arm = (w.getLsbD 0 && !s.dev.safe.held) ∧
        (axisOf t.dev a).brk = (w.getLsbD 1 && !s.dev.safe.held) ∧
        (axisOf t.dev a).timeout = ((axisOf s.dev a).timeout && !w.getLsbD 11))) ∧
  (∀ (s : State) (c : CoreId) (a : AxisId) (v : Dword) (w : Word), coreRuns s.dev c = true → axisOwner s.dev a ≠ c.val →
    exec (.posPresetWrite c a v) s = .next (s.mapDev (accessFault c true (0x40010030 + 0x40 * a.val))) ∧
    exec (.pwmCmdWrite c a w) s = .next (s.mapDev (accessFault c true (0x40020000 + 0x20 * a.val))) ∧
    exec (.pwmArmWrite c a w) s = .next (s.mapDev (accessFault c true (0x40020004 + 0x20 * a.val))) ∧
    exec (.brakeRelWrite c a w) s = .next (s.mapDev (accessFault c true (0x40020004 + 0x20 * a.val)))) ∧
  (∀ (s : State) (a : AxisId) (x : Axis), x = axisOf s.dev a → x.on = true →
    (periodOver s.dev a = true → timedOut s.dev a = false →
      ∃ t, exec (.pwmPeriodStart a) s = .next t ∧ (axisOf t.dev a).cmdIn = cmdAt s.dev.tu.ns x ∧
        (axisOf t.dev a).perNs = some s.dev.tu.ns ∧
        (driving s.dev a = true → (axisOf t.dev a).applied = cmdAt s.dev.tu.ns x ∧ t.dev.out =
          .pwm a.val (pwmHigh (axPeriodNs x.cfg / 10) (cmdAt s.dev.tu.ns x)) (axPeriodNs x.cfg / 10) :: s.dev.out) ∧
        (driving s.dev a = false → (axisOf t.dev a).applied = 0 ∧
          t.dev.out = .pwm a.val 0 (axPeriodNs x.cfg / 10) :: s.dev.out)) ∧
    (periodOver s.dev a = true → timedOut s.dev a = true →
      ∃ t, exec (.pwmPeriodStart a) s = .next t ∧ (axisOf t.dev a).arm = false ∧ (axisOf t.dev a).brk = false ∧
        (axisOf t.dev a).timeout = true ∧ (axisOf t.dev a).applied = 0 ∧
        t.dev.out.head? = some (.pwm a.val 0 (axPeriodNs x.cfg / 10))) ∧
    (periodOver s.dev a = false → exec (.pwmPeriodStart a) s = .next s)) ∧
  (∀ (s : State) (a : AxisId) (x : Axis), x = axisOf s.dev a →
    (timedOut s.dev a = true → periodOver s.dev a = true →
      ∃ t, exec (.pwmCmdTimeout a) s = .next t ∧ (axisOf t.dev a).arm = false ∧ (axisOf t.dev a).brk = false ∧
        (axisOf t.dev a).timeout = true ∧ (axisOf t.dev a).applied = 0 ∧
        (Queues s 9 → t.dev.evt.queue = s.dev.evt.queue ++ [newEvent s 9 3 (axHandle a) (unsigned 16 x.applied)])) ∧
    (timedOut s.dev a = false ∨ periodOver s.dev a = false → exec (.pwmCmdTimeout a) s = .next s)) ∧
  (∀ (s : State) (f : LinkFrame), (f.goodA || f.goodB) = true → (∀ n, s.dev.safe.seq = some n → f.seq % 256 = (n + 1) % 256) →
    ∃ t, exec (.skerryLinkFrame f) s = .next t ∧ t.dev.safe.seq = some (f.seq % 256) ∧ t.dev.safe.missed = 0 ∧
      (f.permit = true → t.dev.safe.held = s.dev.safe.held) ∧ (f.permit = false → t.dev.safe.held = true)) ∧
  (∀ (s : State) (f : LinkFrame),
    ((f.goodA || f.goodB) = false ∨ ∃ n, s.dev.safe.seq = some n ∧ f.seq % 256 ≠ (n + 1) % 256) →
    ∃ t, exec (.skerryLinkFrame f) s = .next t ∧ t.dev.safe.missed = s.dev.safe.missed + 1 ∧ t.dev.safe.good = none ∧
      t.dev.safe.held = s.dev.safe.held) ∧
  (∀ (s : State) (x y : Bool),
    ∃ t, exec (.computeLinkFrame x y) s = .next t ∧
      t.dev.safe.goodUp = (if x || y then some (s.dev.safe.goodUp.getD s.dev.tu.ns) else none)) ∧
  (∀ (s : State) (b up : Bool), (if b then s.dev.safe.pathB else s.dev.safe.pathA) ≠ up →
    ∃ t, exec (.linkPathChange b up) s = .next t ∧ t.dev.safe.pathA = (if b then s.dev.safe.pathA else up) ∧
      t.dev.safe.pathB = (if b then up else s.dev.safe.pathB) ∧
      bitOf t.dev.cores.pend 10 = true ∧ (s.dev.safe.por = false → Queues s 9 → t.dev.evt.queue = s.dev.evt.queue ++
        [newEvent s 9 0x12 0 (b2n t.dev.safe.pathA + b2n t.dev.safe.pathB * 2)])) ∧
  (∀ s : State, ∃ t, exec .skerryPor s = .next t ∧ t.dev.safe.held = true ∧ t.dev.safe.cfg = safeCfgDefault ∧
    t.dev.safe.por = true ∧ (∃ c ∈ t.dev.safe.present, c.code = 4) ∧
    ∀ a, (axisOf t.dev a).on = false ∧ (axisOf t.dev a).arm = false ∧ (axisOf t.dev a).brk = false)

/-- 17 R455; 18 R465-R476. -/
def Obligations.CausesForceTheSafeStateAndItIsManaged : Prop :=
  (∀ s : State, ForcedBy 0x01 0xFF s (exec .safeInDemand s)) ∧
  (∀ s : State, 99 ≤ s.dev.safe.missed ∨ s.dev.safe.goodNs + 99000 ≤ s.dev.tu.ns → ForcedBy 0x10 0xFF s (exec .heartbeatLoss s)) ∧
  (∀ s : State, s.dev.safe.missed < 99 → s.dev.tu.ns < s.dev.safe.goodNs + 99000 → exec .heartbeatLoss s = .next s) ∧
  (∀ s : State, crcDiffers s.dev = true → ForcedBy 0x11 0xFF s (exec .configMismatch s)) ∧
  (∀ s : State, crcDiffers s.dev = false → exec .configMismatch s = .next s) ∧
  (∀ s : State, ForcedBy 0x20 0xFF s (exec .lockstep s) ∧ ForcedBy 0x21 0xFF s (exec .siWatchdog s) ∧
    ForcedBy 0x22 0xFF s (exec .siMemory s) ∧ ForcedBy 0x23 0xFF s (exec .siSelftest s) ∧
    ForcedBy 0x24 0xFF s (exec .clockCompute s) ∧ ForcedBy 0x25 0xFF s (exec .clockSkerry s) ∧
    ForcedBy 0x26 0xFF s (exec .supply s) ∧ ForcedBy 0x28 0xFF s (exec .skerryInternal s) ∧
    ForcedBy 0x29 0xFF s (exec (.outputReadback none) s)) ∧
  (∀ (s : State) (a : AxisId), ForcedBy 0x29 a.val s (exec (.outputReadback (some a)) s)) ∧
  (∀ s : State, ∃ t, exec .safeInRelease s = .next t ∧ t.dev.safe.safeIn = true ∧ t.dev.safe.held = s.dev.safe.held ∧
    (∀ k ∈ t.dev.safe.present, ¬(k.code = 1 ∧ k.axis = 0xFF)) ∧
    ∀ k ∈ s.dev.safe.present, ¬(k.code = 1 ∧ k.axis = 0xFF) → k ∈ t.dev.safe.present) ∧
  (∀ (s : State) (t : Nat) (c : Outst) (l : List Byte), Begins specSafetyConfigLoad t s c → l = fit 224 c.e.data →
    (crc32c (l.take 220)).toNat = le l 220 4 →
    (safeCfgValid l = true → (∀ a : AxisId, bitOf (le l 1 1) a.val = true → (axisOf s.dev a).on = true) →
      (s.dev.safe.held = true → noPath s.dev = false →
        ∃ d, exec (.safetyConfigLoad t) s = .next (s.finish c 0 (le l 220 4) 0 d) ∧ d.safe.cfg = l ∧ d.safe.held = true) ∧
      (s.dev.safe.held = false ∨ noPath s.dev = true →
        exec (.safetyConfigLoad t) s = .next (s.finish c 6 0 0 s.dev)))) ∧
  (∀ (s : State) (t : Nat) (c : Outst) (l : List Byte), Begins specSafetyConfigLoad t s c → l = fit 224 c.e.data →
    (crc32c (l.take 220)).toNat ≠ le l 220 4 →
    exec (.safetyConfigLoad t) s = .next (s.finish c 0x0A10 0 0 s.dev)) ∧
  (∀ (s : State) (t : Nat) (c : Outst), Begins specSafetyConfigReset t s c → s.dev.sec.life < 2 → s.dev.sec.level ≠ 2 →
    (s.dev.safe.held = false → exec (.safetyConfigReset t) s = .next (s.finish c 0 0 0 s.dev)) ∧
    (s.dev.safe.held = true → s.dev.safe.present = [] → s.dev.safe.safeIn = true →
      s.dev.safe.entry + le s.dev.safe.cfg 8 1 * 1000000 ≤ s.dev.tu.ns → framesGood s.dev = true →
      ∃ d, exec (.safetyConfigReset t) s = .next (s.finish c 0 1 0 d) ∧ d.safe.held = false ∧
        d.axes = s.dev.axes ∧ bitOf d.cores.pend 8 = true ∧ (Queues s 9 → d.out = .pin 4 1 :: .pin 3 1 :: s.dev.out ∧
          d.evt.queue = s.dev.evt.queue ++ [newEvent s 9 0x11 0 (configId s.dev)])) ∧
    (s.dev.safe.held = true → (s.dev.safe.present ≠ [] ∨ s.dev.safe.safeIn = false ∨ framesGood s.dev = false ∨
        s.dev.tu.ns < s.dev.safe.entry + le s.dev.safe.cfg 8 1 * 1000000) →
      ∃ d r, exec (.safetyConfigReset t) s = .next (s.finish c 0x40 (r * 2 ^ 8) 0 d) ∧ d.safe = s.dev.safe ∧
        (s.dev.safe.present ≠ [] → ∃ k ∈ s.dev.safe.present, k.code = r) ∧
        (s.dev.safe.present = [] → s.dev.safe.safeIn = true → r = 0))) ∧
  (∀ (s : State) (t : Nat) (c : Outst), Begins specSafetyConfigForce t s c →
    ∃ d, exec (.safetyConfigForce t) s = .next (s.finish c 0 0 0 d) ∧ d.safe.held = true ∧
      ∃ k ∈ d.safe.present, k.code = 2 ∧ k.axis = 0xFF) ∧
  (∀ (s : State) (t : Nat) (c : Outst), Begins specSafetyConfigProofTest t s c →
    ∃ d, exec (.safetyConfigProofTest t) s = .next (s.await c .stepped d) ∧ d.safe.held = true ∧
      d.safe.proofCmds = s.dev.safe.proofCmds ++ [c.tag] ∧ ∃ k ∈ d.safe.present, k.code = 3 ∧ k.axis = 0xFF) ∧
  (∀ (s : State) (c : Outst), s.dev.safe.proofCmds = [c.tag] → findOutst s.dev c.tag = some c →
    exec (.proofTestDone 127) s = .next (s.finish c 0 127 0
      (modSafe (fun x => { x with proofCmds := [], proof := 127, proofNs := ns32 s.dev }) s.dev))) ∧
  (∀ (s : State) (n : Nat), s.dev.safe.proofCmds ≠ [] →
    ∃ t, exec (.proofTestDone n) s = .next t ∧ t.dev.safe.proof = n % 128 ∧ t.dev.safe.proofCmds = [] ∧
      t.dev.safe.proofNs = ns32 s.dev ∧ (∀ g ∈ s.dev.safe.proofCmds, findOutst t.dev g = none) ∧
      (n % 128 = 127 → t.dev.safe.held = s.dev.safe.held ∧ t.dev.safe.present = s.dev.safe.present) ∧
      (n % 128 ≠ 127 → t.dev.safe.held = true) ∧ (n % 8 ≠ 7 → ∃ k ∈ t.dev.safe.present, k.code = 0x28) ∧
      (n % 128 / 8 ≠ 15 → ∃ k ∈ t.dev.safe.present, k.code = 0x23)) ∧
  (∀ (s : State) (t : Nat) (c : Outst), Begins specSafetyStatus t s c →
    exec (.safetyStatus t) s = .next (s.finish c 0 (b2n s.dev.safe.held + s.dev.safe.last * 2 ^ 8) 0
      (writeData c (safetyStatusBytes s.dev) s.dev)) ∧ (safetyStatusBytes s.dev).length = 256)

/-- 01 R20; 14 R369; 19 R483-R492. -/
def Obligations.InterruptsTimersAndMailbox : Prop :=
  (∀ (d : Dev) (c : CoreId), (irqNext d c = 0 → ∀ n, 1 ≤ n → n < 64 → claimable d c n = false) ∧
    (irqNext d c ≠ 0 → irqNext d c < 64 ∧ claimable d c (irqNext d c) = true ∧ ∀ n, 1 ≤ n → n < 64 → claimable d c n = true →
      irqPrio d c (irqNext d c) < irqPrio d c n ∨ irqPrio d c (irqNext d c) = irqPrio d c n ∧ irqNext d c ≤ n)) ∧
  (∀ (s : State) (c : CoreId), coreRuns s.dev c = true →
    ∃ t, exec (.irqClaim c) s = .next t ∧ t.dev.out = .load (c.val + 1) 0x40000000 (irqNext s.dev c) :: s.dev.out ∧
      (irqNext s.dev c = 0 → t.dev.cores = s.dev.cores) ∧
      (∀ n, irqNext s.dev c = n → n ≠ 0 → (core t.dev c).active = (core s.dev c).active ++ [n] ∧
        (isLevel n = false → n < 32 → bitOf (core t.dev c).pend n = false) ∧
        (isLevel n = false → 32 ≤ n → bitOf t.dev.cores.pend (n - 32) = false))) ∧
  (∀ (s : State) (c : CoreId) (v : Word), coreRuns s.dev c = true →
    ∃ t, exec (.irqComplete c v) s = .next t ∧
      ((core s.dev c).active.contains (v.toNat % 512) = true → v.toNat % 512 ∉ (core t.dev c).active ∧
        (core t.dev c).spurious = (core s.dev c).spurious) ∧
      ((core s.dev c).active.contains (v.toNat % 512) = false → (core t.dev c).active = (core s.dev c).active ∧
        (core t.dev c).spurious = min ((core s.dev c).spurious + 1) 0xFFFF)) ∧
  (∀ (s : State) (c : CoreId), coreRuns s.dev c = true →
    ∃ t, exec (.irqSpuriousRead c) s = .next t ∧ (core t.dev c).spurious = 0 ∧
      t.dev.out = .load (c.val + 1) 0x40000014 (core s.dev c).spurious :: s.dev.out) ∧
  (∀ (s : State) (c o : CoreId) (v : Word), coreRuns s.dev c = true → o = (if v.getLsbD 8 then otherCore c else c) →
    ∃ t, exec (.sgiWrite c v) s = .next t ∧ bitOf (core t.dev o).pend (24 + v.toNat % 8) = true ∧
      ∀ n, n ≠ 24 + v.toNat % 8 → bitOf (core t.dev o).pend n = bitOf (core s.dev o).pend n) ∧
  (∀ (s : State) (c : CoreId) (n : Nat) (v : Word), coreRuns s.dev c = true → 1 ≤ n → n < 64 →
    ∃ t, exec (.irqTargetWrite c n v) s = .next t ∧ irqPrio t.dev c n = v.toNat % 256 ∧
      (40 ≤ n → n ≤ 53 → t.dev.cores.target.getD (n - 32) 0 = b2n (v.getLsbD 9)) ∧
      (n < 40 ∨ 53 < n → t.dev.cores.target = s.dev.cores.target) ∧ (32 ≤ n → t.dev.cores.c = s.dev.cores.c)) ∧
  (∀ (s : State) (c : CoreId) (n : Fin 4) (k : Tmr), k = (core s.dev c).tmr[n] →
    (tmrDue s.dev k = true → ∃ t k', exec (.tmrExpiry c n) s = .next t ∧ k' = (core t.dev c).tmr[n] ∧ k'.fired = true ∧
      k'.overrun = (k.overrun || k.fired) ∧ k'.step = k.step ∧ k'.count = min (k.count + 1) 0xFFFFFFFF ∧ k'.en = k.periodic ∧
      k'.deadline = (if k.periodic then (k.deadline + max k.period 1000) % 2 ^ 32 else k.deadline) ∧
      bitOf (core t.dev c).pend (1 + n.val) = true) ∧
    (tmrDue s.dev k = false → exec (.tmrExpiry c n) s = .next s)) ∧
  (∀ (s : State) (c : CoreId) (n : Fin 4), coreRuns s.dev c = true →
    ∃ t, exec (.tmrCountRead c n) s = .next t ∧ (core t.dev c).tmr[n].count = 0 ∧
      t.dev.out = .load (c.val + 1) (0x4005000C + 0x20 * n.val) (core s.dev c).tmr[n].count :: s.dev.out) ∧
  (∀ (s : State) (c : CoreId), coreRuns s.dev c = true →
    ∃ t, exec (.timeSnapshotLoad c) s = .next t ∧
      (core t.dev c).tsnap = (s.dev.tu.ns / 1000000000 % 2 ^ 48, s.dev.tu.ns % 1000000000, ns32 s.dev) ∧
      t.dev.out = .load (c.val + 1) 0x40030000 (s.dev.tu.ns % 1000000000) :: s.dev.out) ∧
  (∀ (s : State) (c : CoreId) (v : Dword), coreRuns s.dev c = true →
    ((core s.dev c).outq.length < 16 → ∃ t, exec (.mbxOutPush c v) s = .next t ∧
      (core t.dev c).outq = (core s.dev c).outq ++ [(ns32 s.dev, { w0 := (core s.dev c).outW0, w1 := v })]) ∧
    (16 ≤ (core s.dev c).outq.length → ∃ t, exec (.mbxOutPush c v) s = .next t ∧
      (core t.dev c).outq = (core s.dev c).outq ∧ (core t.dev c).outOvf = true)) ∧
  (∀ (s : State) (c : CoreId), coreRuns s.dev c = true →
    ((core s.dev c).inq = [] → exec (.mbxInPop c) s = .next (s.mapDev (coreLoad c 0x40040018 0))) ∧
    (∀ m rest, (core s.dev c).inq = m :: rest → rest.length < 16 → ∃ t, exec (.mbxInPop c) s = .next t ∧
      t.dev.out = .load (c.val + 1) 0x40040018 m.w1.toNat :: s.dev.out ∧ (core t.dev c).lost = 0 ∧
      (core t.dev c).inq = rest ++ (if (core s.dev c).lost = 0 then [] else [plainMsg 0x85 (core s.dev c).lost 0]))) ∧
  (∀ (s : State) (c : CoreId) (n : Nat) (m : Msg) (rest : List (Nat × Msg)), s.dev.cores.paused = false →
    (core s.dev c).outq = (n, m) :: rest →
    ∃ t, exec (.mbxOutTake c) s = .next t ∧ (core t.dev c).outq = rest ∧
      (bitsOf m.w0.toNat 0 8 = 1 → t.dev.cores.seq = s.dev.cores.seq + 1 ∧ t.dev.cores.posts.getLast? =
        some { seq := s.dev.cores.seq + 1, core := c.val, tag := bitsOf m.w0.toNat 8 8, ns32 := n, data := m.w1 }) ∧
      (bitsOf m.w0.toNat 0 8 = 2 → (core t.dev c).notify = bitsOf m.w0.toNat 16 4) ∧
      (bitsOf m.w0.toNat 0 8 = 3 → (core s.dev c).inq.length < 16 →
        (core t.dev c).inq = (core s.dev c).inq ++ [{ w0 := msgWord 0x83 (bitsOf m.w0.toNat 8 8) 0, w1 := 0 }]) ∧
      ((bitsOf m.w0.toNat 0 8 = 0 ∨ 4 ≤ bitsOf m.w0.toNat 0 8) → (core s.dev c).inq.length < 16 →
        (core t.dev c).inq = (core s.dev c).inq ++ [plainMsg 0x8F (bitsOf m.w0.toNat 0 8) 0])) ∧
  (∀ (s : State) (c : CoreId) (st : Bool) (n : Nat), coreRuns s.dev c = true →
    ∃ t, exec (.customerAccessFault c st n) s = .next t ∧ (core t.dev c).faults = min ((core s.dev c).faults + 1) 0xFFFF ∧
      t.dev.out = .accessFault c.val st n :: (if st then s.dev.out else .load (c.val + 1) n 0 :: s.dev.out)) ∧
  (∀ (s : State) (c : CoreId), s.dev.cores.paused = true ∨ (core s.dev c).outq = [] → exec (.mbxOutTake c) s = .next s) ∧
  (∀ (s : State) (c : CoreId), coreRuns s.dev c = false →
    exec (.irqClaim c) s = .next s ∧ exec (.irqSpuriousRead c) s = .next s ∧ exec (.timeSnapshotLoad c) s = .next s ∧
    exec (.mbxInPop c) s = .next s ∧ (∀ v, exec (.irqComplete c v) s = .next s ∧ exec (.sgiWrite c v) s = .next s) ∧
    (∀ v, exec (.mbxOutPush c v) s = .next s) ∧ (∀ n v, exec (.irqTargetWrite c n v) s = .next s) ∧
    (∀ n, exec (.tmrCountRead c n) s = .next s) ∧ ∀ st n, exec (.customerAccessFault c st n) s = .next s)

/-- 02 R39, R42; 17 R456; 19 R481, R482, R486, R489-R491; the reading of an access of another width is notes/assumptions/18.md. -/
def Obligations.CoreLinkAndRegisterWrite : Prop :=
  (∀ (s : State) (t : Nat) (c : Outst), Begins specCoreLinkVector t s c →
    ∃ d, exec (.coreLinkVector t) s = .next (s.finish c 0 0 0 d) ∧ (core d (coreArg c.e)).vector = fldBits c.e 40 0 11 ∧
      (core d (coreArg c.e)).state = (core s.dev (coreArg c.e)).state) ∧
  (∀ (s : State) (t : Nat) (c : Outst) (k : Core), Begins specCoreLinkPost t s c → k = core s.dev (coreArg c.e) →
    (k.state = 1 → k.inq.length < 16 →
      ∃ d, exec (.coreLinkPost t) s = .next (s.finish c 0 0 0 d) ∧ (core d (coreArg c.e)).inq = k.inq ++
        [{ w0 := msgWord 0x81 (fld c.e 38 1) 0, w1 := BitVec.ofNat 64 (fld c.e 40 8) }]) ∧
    (k.state ≠ 1 ∨ 16 ≤ k.inq.length → exec (.coreLinkPost t) s = .next (s.finish c 6 0 0 s.dev))) ∧
  (∀ (s : State) (t : Nat) (c : Outst), Begins specCoreLinkRestart t s c → custDenied s.dev = false →
    verifyStored s.dev 2 = none →
    ∃ d, exec (.coreLinkRestart t) s =
        .next { (s.finish c 0 0 0 d) with mem := loadTcm s.dev.sec.cust (coreArg c.e) s.mem } ∧
      core d (coreArg c.e) = { state := 1, vector := (core s.dev (coreArg c.e)).vector, faults := (core s.dev (coreArg c.e)).faults } ∧
      d.sec.custRun = s.dev.sec.cust ∧ d.cores.image = true) ∧
  (∀ (s : State) (t : Nat) (c : Outst), Begins specCoreLinkStop t s c →
    ∃ d, exec (.coreLinkStop t) s = .next (s.finish c 0 0 0 d) ∧ (core d (coreArg c.e)).vector = (core s.dev (coreArg c.e)).vector ∧
      (core d (coreArg c.e)).state = (if (core s.dev (coreArg c.e)).state = 2 then 2 else 0) ∧
      (core d (coreArg c.e)).inq = [] ∧ (core d (coreArg c.e)).enable = 0) ∧
  (∀ (s : State) (v : Dword), bar0Live s.dev = true → s.dev.host.enable = false →
    exec (.registerWrite { master := 0, addr := 0x30, size := 4, value := v }) s = .next (s.mapDev fun d => { d with
      host := { d.host with sizes := BitVec.ofNat 32 (bitsOf v.toNat 0 12 + bitsOf v.toNat 16 12 * 2 ^ 16) } }) ∧
    ∃ t, exec (.registerWrite { master := 0, addr := 0x20, size := 8, value := v }) s = .next t ∧
      t.dev.host.asqBase = v &&& 0xFFFFFFFFFFFFF000#64 ∧ t.dev.host.acqBase = s.dev.host.acqBase) ∧
  (∀ (s : State) (v : Dword), bar0Live s.dev = true → s.dev.host.enable = true →
    exec (.registerWrite { master := 0, addr := 0x20, size := 8, value := v }) s = .next s) ∧
  (∀ (s : State) (n : Nat) (v : Dword), bar0Live s.dev = true → n < 2048 →
    ∃ t e, exec (.registerWrite { master := 0, addr := 0x20000 + 16 * n, size := 8, value := v }) s = .next t ∧
      tabGet t.dev.pcie.msix n = some e ∧ e.addr = v) ∧
  (∀ (s : State) (n a : Nat) (v : Dword), coreRuns s.dev 0 = true → (n = 1 ∨ n = 2 ∨ n = 4 ∨ n = 8) → a + n ≤ 0x80000 →
    exec (.registerWrite { master := 1, addr := a, size := n, value := v }) s =
      .next { s with mem := { s.mem with tcm0 := memWriteBytes s.mem.tcm0 a (toLE n v.toNat) } }) ∧
  (∀ (m : List Host.Cell) (a b : Nat) (l : List Byte), (b < a ∨ a + l.length ≤ b → memRead (memWriteBytes m a l) b = memRead m b) ∧
    (cellsWf m = true → ∀ x, a ≤ b → l[b - a]? = some x → memRead (memWriteBytes m a l) b = x)) ∧
  (∀ (s : State) (n a : Nat) (v : Dword), coreRuns s.dev 1 = true → (n = 1 ∨ n = 2 ∨ n = 4 ∨ n = 8) → a + n ≤ 0x400000 →
    ∃ t, exec (.registerWrite { master := 2, addr := 0x10000000 + a, size := n, value := v }) s = .next t ∧
      t.mem = { s.mem with win1 := memWriteBytes s.mem.win1 a (toLE n v.toNat) } ∧ t.dev.cores = s.dev.cores) ∧
  (∀ (s : State) (v : Dword), coreRuns s.dev 0 = true →
    (∃ t, exec (.registerWrite { master := 1, addr := 0x40000008, size := 4, value := v }) s = .next t ∧
      (core t.dev 0).pmr = v.toNat % 256) ∧
    (∃ t, exec (.registerWrite { master := 1, addr := 0x40000034, size := 4, value := v }) s = .next t ∧
      ∀ n, (32 ≤ n → n < 64 → bitOf (core t.dev 0).enable n = v.getLsbD (n - 32)) ∧
        (n < 32 → bitOf (core t.dev 0).enable n = bitOf (core s.dev 0).enable n)) ∧
    (∃ t, exec (.registerWrite { master := 1, addr := 0x40040000, size := 8, value := v }) s = .next t ∧
      (core t.dev 0).outW0 = v) ∧
    (∃ t, exec (.registerWrite { master := 1, addr := 0x40050000, size := 4, value := v }) s = .next t ∧
      (core t.dev 0).tmr[0].en = v.getLsbD 0 ∧ (core t.dev 0).tmr[0].periodic = v.getLsbD 1 ∧
      (core t.dev 0).tmr[0].fired = ((core s.dev 0).tmr[0].fired && !v.getLsbD 8)) ∧
    (∀ a : AxisId, axisOwner s.dev a = 0 →
      ∃ t, exec (.registerWrite { master := 1, addr := 0x4001001C + 0x40 * a.val, size := 4, value := v }) s = .next t ∧
        (axisOf t.dev a).wrap = ((axisOf s.dev a).wrap && !v.getLsbD 3) ∧
        (axisOf t.dev a).latch = ((axisOf s.dev a).latch && !v.getLsbD 8)) ∧
    exec (.registerWrite { master := 1, addr := 0x40000008, size := 8, value := v }) s =
      .next (s.mapDev (accessFault 0 true 0x40000008))) ∧
  (∀ (s : State) (w : RegAccess), (w.master = 1 → coreRuns s.dev 0 = false) → (w.master = 2 → coreRuns s.dev 1 = false) →
    w.master ≠ 0 → w.master ≠ 3 → exec (.registerWrite w) s = .next s) ∧
  (∀ (s : State) (v : Dword), functionOn s.dev = true → s.dev.pcie.up = true →
    ∃ t, exec (.registerWrite { master := 3, addr := 2, size := 2, value := v }) s = .next t ∧
      t.dev.pcie.funcMask = v.getLsbD 14) ∧
  (∀ (s : State) (w : RegAccess), w.master = 3 → (functionOn s.dev && s.dev.pcie.up) = false ∨ w.addr ≠ 2 ∨ w.size ≠ 2 →
    exec (.registerWrite w) s = .next s)

/-- 20 R495-R500; what R500 leaves open of a cut copy is notes/assumptions/13.md. -/
def Obligations.FirmwareIsStagedVerifiedAndCommitted : Prop :=
  (∀ (s : State) (t : Nat) (c : Outst) (l : List Byte), Begins specFwDownload t s c → l = fit c.e.dataLen.toNat c.e.data →
    s.dev.sec.life ≠ 3 → s.dev.pwr.state < 2 →
    (∀ g total, g = fld c.e 36 1 → fld c.e 32 4 = 0 → total = (if g = 2 then 64 else 4096 + imBodyLen l) →
      g = 2 ∨ 4096 ≤ l.length → l.length ≤ total →
      ∃ d, exec (.fwDownload t) s = .next (s.finish c 0 (l.length + total * 2 ^ 32) 0 d) ∧
        stagingOf d g = some { total, bytes := l } ∧ ∀ o, o ≤ 2 → o ≠ g → stagingOf d o = stagingOf s.dev o) ∧
    (∀ g, g = fld c.e 36 1 → ∀ x : Staging, stagingOf s.dev g = some x → 0 < fld c.e 32 4 → x.bytes.length = fld c.e 32 4 →
      fld c.e 32 4 + l.length ≤ x.total →
      ∃ d, exec (.fwDownload t) s = .next (s.finish c 0 (fld c.e 32 4 + l.length + x.total * 2 ^ 32) 0 d) ∧
        stagingOf d g = some { x with bytes := x.bytes ++ l } ∧ ∀ o, o ≤ 2 → o ≠ g → stagingOf d o = stagingOf s.dev o)) ∧
  (∀ (d : Dev) (ty : Nat) (m : List Byte), verifyImage d ty m = none → imType m = ty ∧
    m.length = 4096 + imBodyLen m ∧ floorOf d ty ≤ imSvn m ∧ slotEmpty d (imSlot m) = false ∧
    slotRevoked d (imSlot m) = false ∧ fit 32 (sha3 ((m.drop 96).take 1312)) = slotHash d (imSlot m) ∧
    Config.mldsaVerify ((m.drop 96).take 1312) ((m.drop 1408).take 2420) (imDigest m) = true ∧
    fit 32 (sha3 (imBody m)) = (m.drop 64).take 32) ∧
  (∀ (s : State) (t : Nat) (c : Outst) (sp : CmdSpec) (i : Instr) (target action bank ty : Nat) (m : List Byte),
    (i, sp, target, action, bank, ty) = (.fwCommitWrite t, specFwCommitWrite, 0, 0, otherBank s.dev, 1) ∨
    (i, sp, target, action, bank, ty) = (.fwCommitWriteAndSelect t, specFwCommitWriteAndSelect, 0, 1, otherBank s.dev, 1) ∨
    (i, sp, target, action, bank, ty) = (.fwCommitCustomer t, specFwCommitCustomer, 1, 0, 0xFF, 2) →
    Begins sp t s c → stagedWhole s.dev target = some m →
    (s.dev.sec.life = 3 ∨ target = 1 ∧ s.dev.sec.life = 2 → exec i s = .next (s.finish c 0x0030 0 0 s.dev)) ∧
    (s.dev.sec.life ≠ 3 → target = 0 ∨ s.dev.sec.life ≠ 2 → s.dev.sec.commit = none →
      othersOut s.dev c.tag isCommit = false → s.dev.pwr.state < 2 →
    (verifyImage s.dev ty m = none → ∃ d, exec i s = .next (s.await c .stepped d) ∧ d.sec.commit =
      some { cmd := c.tag, target, action, bank, raiseSvn := raiseSvn c.e, image := m } ∧ d.sec.cust = s.dev.sec.cust) ∧
    (∀ r, verifyImage s.dev ty m = some r → ∃ d, exec i s = .next (s.finish c 0x0110 (commitRes s.dev ty r 0xFF) 0 d) ∧
      d.sec = s.dev.sec ∧ 1 ≤ r ∧ r ≤ 11))) ∧
  (∀ (s : State) (t : Nat) (c : Outst), Begins specFwCommitSelectOnly t s c → s.dev.sec.life ≠ 3 → s.dev.sec.commit = none →
    othersOut s.dev c.tag isCommit = false → s.dev.pwr.state < 2 → verifyStored s.dev (otherBank s.dev) = none →
    ∃ d b, b = otherBank s.dev ∧ exec (.fwCommitSelectOnly t) s = .next (s.await c .stepped d) ∧ d.sec.commit =
      some { cmd := c.tag, target := 0, action := 2, bank := b, raiseSvn := raiseSvn c.e, image := bankImg s.dev b }) ∧
  (∀ (s : State) (t : Nat) (c : Outst) (l : List Byte), Begins specFwCommitKeys t s c → stagedWhole s.dev 2 = some l →
    (le l 0 1 = 2 ∨ le l 0 1 = 3) → slotEmpty s.dev (le l 0 1) = true → s.dev.sec.life = 0 → s.dev.sec.commit = none →
    othersOut s.dev c.tag isCommit = false → s.dev.pwr.state < 2 →
    ∃ r d, exec (.fwCommitKeys t) s = .next (s.finish c 0 r 0 d) ∧ slotHash d (le l 0 1) = fit 32 (l.drop 32) ∧
      (∀ n, n ≠ le l 0 1 → slotHash d n = slotHash s.dev n) ∧ d.sec.stKeys = none) ∧
  (∀ (s : State) (k : Commit) (c : Outst), s.dev.sec.commit = some k → k.cmd = c.tag → findOutst s.dev c.tag = some c →
    (∀ rb, ∃ d r, exec (.flashWriteDone false rb) s = .next (s.finish c 0x0112 r 0 d) ∧ d.sec.commit = none ∧
      d.sec.sel = s.dev.sec.sel ∧ d.sec.floorFw = s.dev.sec.floorFw ∧
      ∀ w, commitDest k = some w → (verifyStored d w).isSome = true) ∧
    (∃ d r, exec (.flashWriteDone true true) s = .next (s.finish c 0 r 0 d) ∧ d.sec.commit = none ∧
      (∀ w, commitDest k = some w → bitOf d.sec.torn w = false ∧
        (if w = 0 then d.sec.bankA else if w = 1 then d.sec.bankB else d.sec.cust) = k.image) ∧
      (k.target = 0 → k.action ≠ 0 → d.sec.sel = k.bank ∧ d.sec.selSeq = s.dev.sec.selSeq + 1) ∧
      (k.target = 0 → k.raiseSvn = true → d.sec.floorFw = max s.dev.sec.floorFw (min (imSvn k.image) 64)) ∧
      s.dev.sec.floorFw ≤ d.sec.floorFw ∧ s.dev.sec.floorCust ≤ d.sec.floorCust ∧
      (k.raiseSvn = false → d.sec.floorFw = s.dev.sec.floorFw ∧ d.sec.floorCust = s.dev.sec.floorCust))) ∧
  (∀ (s : State) (a b : Bool), s.dev.sec.commit = none → exec (.flashWriteDone a b) s = .next s)

/-- 20 R502-R507, R513. -/
def Obligations.AttestationDebugAndLifecycle : Prop :=
  (∀ (s : State) (t : Nat) (c : Outst), Begins specAttestEvidence t s c →
    (s.dev.sec.life ≠ 3 → s.dev.sec.full = false →
      ∃ l d, exec (.attestEvidence t) s = .next (s.finish c 0 0 0 (writeData c l d)) ∧ l.length = 2612 ∧
        l.take 192 = evidence s.dev c.e.metaData (s.dev.sec.evSeq + 1) ∧ d.sec.evSeq = s.dev.sec.evSeq + 1) ∧
    (s.dev.sec.life = 3 ∨ s.dev.sec.full = true → exec (.attestEvidence t) s = .next (s.finish c 0x0030 0 0 s.dev))) ∧
  (∀ (s : State) (t : Nat) (c : Outst), Begins specAttestCerts t s c →
    (s.dev.sec.life ≠ 3 → s.dev.sec.full = false →
      exec (.attestCerts t) s = .next (s.finish c 0 (certChain s.dev).length 0 (writeData c (certChain s.dev) s.dev))) ∧
    (s.dev.sec.life = 3 ∨ s.dev.sec.full = true → exec (.attestCerts t) s = .next (s.finish c 0x0030 0 0 s.dev))) ∧
  (∀ (s : State) (t : Nat) (c : Outst), Begins specDebugTokenChallenge t s c →
    ∃ n d, exec (.debugTokenChallenge t) s = .next (s.finish c 0 0 0 (writeData c
        (n ++ fit 16 s.dev.ident.serial ++ pack [(1, s.dev.sec.life), (1, s.dev.sec.level), (14, 0)]) d)) ∧
      n.length = 32 ∧ d.sec.nonce = some n ∧ d.sec.level = s.dev.sec.level) ∧
  (∀ (s : State) (t : Nat) (c : Outst), Begins (specTokenRow .debugTokenUnlock true 33 1 2) t s c →
    noToken s.dev t = true → s.dev.pwr.waits = [] →
    (s.dev.sec.life = 0 ∨ s.dev.sec.life = 2 → ∃ u, exec (.debugTokenUnlock t) s = .next u ∧
      u.dev.sec.level = fld c.e 33 1 ∧ u.dev.sec.nonce = none ∧ findOutst u.dev t = none ∧
      (fld c.e 33 1 = 2 → u.dev.safe.held = true ∧ u.dev.sec.full = true)) ∧
    (s.dev.sec.life = 1 ∨ s.dev.sec.life = 3 → ∃ d, exec (.debugTokenUnlock t) s = .next (s.finish c 0x0030 0 0 d) ∧
      d.sec = { s.dev.sec with nonce := none })) ∧
  (∀ (s : State) (t : Nat) (c : Outst) (l : List Byte), Begins (specTokenRow .debugTokenUnlock false 33 1 2) t s c →
    noToken s.dev t = false → s.dev.pwr.waits = [] → s.dev.sec.life ≠ 3 → l = fit 3796 c.e.data →
    (verifyToken s.dev [1, 2] l = none → ∃ u, exec (.debugTokenUnlock t) s = .next u ∧ u.dev.sec.level = tkKind l ∧
      (tkKind l = 1 ∨ tkKind l = 2) ∧ u.dev.sec.nonce = none) ∧
    (∀ r, verifyToken s.dev [1, 2] l = some r → ∃ d, exec (.debugTokenUnlock t) s = .next (s.finish c 0x0111 r 0 d) ∧
      d.sec = { s.dev.sec with nonce := none })) ∧
  (∀ (d : Dev) (ks : List Nat) (l : List Byte), verifyToken d ks l = none → tkKind l ∈ ks ∧
    d.sec.nonce = some ((l.drop 24).take 32) ∧ slotRevoked d (tkSlot l) = false ∧ slotEmpty d (tkSlot l) = false ∧
    Config.mldsaVerify ((l.drop 64).take 1312) ((l.drop 1376).take 2420) (fit 32 (sha3 (l.take 1376))) = true) ∧
  (∀ (s : State) (t : Nat) (c : Outst), Begins specDebugTokenRelock t s c → s.dev.pwr.waits = [] →
    ∃ d, exec (.debugTokenRelock t) s = .next (s.finish c 0 0 0 d) ∧ d.sec.level = 0 ∧ d.sec.halted = 0 ∧
      d.sec.nonce = none ∧ d.sec.full = s.dev.sec.full ∧ ∀ k, (core d k).halted = false) ∧
  (∀ (s : State) (t : Nat) (c : Outst), Begins (specTokenRow .debugTokenTransition true 34 1 1) t s c →
    noToken s.dev t = true →
    (s.dev.sec.life = 0 → ∃ d, exec (.debugTokenTransition t) s = .next (s.finish c 0 0 0 d) ∧
      d.sec.lifeNext = max s.dev.sec.lifeNext 1 ∧ d.sec.life = 0 ∧ d.sec.nonce = none) ∧
    (s.dev.sec.life ≠ 0 → ∃ d, exec (.debugTokenTransition t) s = .next (s.finish c 0x0030 0 0 d) ∧
      d.sec = { s.dev.sec with nonce := none })) ∧
  (∀ (s : State) (t : Nat) (c : Outst) (l : List Byte), Begins (specTokenRow .debugTokenTransition false 34 1 1) t s c →
    noToken s.dev t = false → s.dev.sec.life = 1 → l = fit 3796 c.e.data → verifyToken s.dev [3, 4] l = none →
    ∃ d, exec (.debugTokenTransition t) s = .next (s.finish c 0 0 0 d) ∧ d.sec.life = 1 ∧ d.sec.nonce = none ∧
      d.sec.lifeNext = max s.dev.sec.lifeNext (if tkKind l = 3 then 2 else 3)) ∧
  (∀ (s : State) (n : Nat), s.dev.boot.stage ≠ 11 → s.dev.sec.level ≠ 0 → (n = 6 ∨ n = 7) →
    (∃ t, exec (.debugPortHalt n) s = .next t ∧ coreRuns t.dev (custOf n) = false ∧
      (core t.dev (custOf n)).state = (core s.dev (custOf n)).state) ∧
    (s.dev.pwr.waits = [] → ∃ t, exec (.debugPortResume n) s = .next t ∧ (core t.dev (custOf n)).halted = false)) ∧
  (∀ (s : State) (n : Nat), s.dev.boot.stage ≠ 11 → s.dev.sec.level = 2 → n < 6 →
    (∃ t, exec (.debugPortHalt n) s = .next t ∧ bitOf t.dev.sec.halted n = true ∧ t.dev.safe.held = true) ∧
    (s.dev.pwr.waits = [] → ∃ t, exec (.debugPortResume n) s = .next t ∧ bitOf t.dev.sec.halted n = false)) ∧
  (∀ (s : State) (n : Nat), s.dev.sec.level = 0 ∨ s.dev.boot.stage = 11 ∨ n < 6 ∧ s.dev.sec.level ≠ 2 →
    exec (.debugPortHalt n) s = .next s ∧ (s.dev.pwr.waits = [] → exec (.debugPortResume n) s = .next s))

/-- 20 R508-R514. -/
def Obligations.PowerStatesAndWakes : Prop :=
  (∀ (s : State) (t : Nat) (c : Outst) (i : Instr) (sp : CmdSpec) (target gate : Nat),
    (i, sp, target) ∈ [(.powerStateRun t, specPowerStateRun, 0), (.powerStateReduced t, specPowerStateReduced, 1),
      (.powerStateShoal t, specPowerStateShoal, 2)] → gate = (if target = 1 then fldBits c.e 36 0 14 else 0) →
    Begins sp t s c →
    (powerConflict target gate c.tag s.dev = true → exec i s = .next (s.finish c 6 0 0 s.dev)) ∧
    (powerConflict target gate c.tag s.dev = false → fHalted s.dev = true →
      ∃ d, exec i s = .next (s.await c .stepped d) ∧ d.pwr.waits = s.dev.pwr.waits ++ [(c.tag, target, gate, 0)] ∧
        d.pwr.state = s.dev.pwr.state) ∧
    (powerConflict target gate c.tag s.dev = false → fHalted s.dev = false →
      ∃ d, exec i s = .next (s.finish c 0 (d.pwr.state + d.pwr.gate * 2 ^ 8) 0 d) ∧
        d.pwr.state = (if target = 2 then 2 else if gate = 0 then 0 else 1) ∧ (target ≠ 2 → d.pwr.gate = gate) ∧
        (target = 2 → s.dev.pwr.state ≠ 2 → (∀ n : NetId, netUp d n = false) ∧
          ∀ p, (port s.dev p).enabled = true → (link d p).state = 0))) ∧
  (∀ (s : State) (t : Nat) (c : Outst), Begins specPowerStateReef t s c →
    powerConflict 3 0 c.tag s.dev = false → fHalted s.dev = false → reefDrained s.dev t = false →
    ∃ d, exec (.powerStateReef t) s = .next (s.await c .stepped d) ∧ d.pwr.reef = some (c.tag, fldBits c.e 40 0 2) ∧
      d.pwr.state = s.dev.pwr.state) ∧
  (∀ (s : State) (t : Nat) (c : Outst), Begins specPowerStateReef t s c → powerConflict 3 0 c.tag s.dev = true →
    s.dev.pwr.reef = none → exec (.powerStateReef t) s = .next (s.finish c 6 0 0 s.dev)) ∧
  (∀ (s : State) (t : Nat) (c : Outst), Begins specPowerStateReef t s c → powerConflict 3 0 c.tag s.dev = false →
    fHalted s.dev = false → reefDrained s.dev t = true →
    ∃ u, exec (.powerStateReef t) s = .next u ∧ u.mem = {} ∧ u.dev.pwr.state = 3 ∧ u.dev.pwr.wake = fldBits c.e 40 0 2 ∧
      u.dev.tu = s.dev.tu ∧ u.dev.safe = s.dev.safe ∧ u.dev.host = {}) ∧
  (∀ (s : State) (t mask : Nat), startable .powerStateReef t s.dev = none → s.dev.pwr.reef = some (t, mask) →
    reefDrained s.dev t = true →
    ∃ u, exec (.powerStateReef t) s = .next u ∧ u.pending = s.pending ∧ u.mem = {} ∧ u.dev.pwr.state = 3 ∧
      u.dev.pwr.wake = mask ∧ u.dev.tu = s.dev.tu ∧ u.dev.safe = s.dev.safe ∧ u.dev.host = {} ∧ u.dev.cores = {} ∧
      u.dev.sec.level = 0 ∧ u.dev.sec.floorFw = s.dev.sec.floorFw ∧ u.dev.boot.log = s.dev.boot.log) ∧
  (∀ s : State, s.dev.pwr.state = 3 → dieRuns s.dev = true →
    ∃ t, exec .reefWake s = .next t ∧ t.dev.boot.stage = 0 ∧ t.dev.boot.cause = 6 ∧ t.dev.pwr.state = 0 ∧
      t.dev.tu = s.dev.tu ∧ t.dev.safe = s.dev.safe ∧ t.mem = {} ∧ t.dev.sec.life = s.dev.sec.lifeNext) ∧
  (∀ s : State, s.dev.pwr.state ≠ 3 → exec .reefWake s = .next s ∧ ∀ b, exec (.reefWakeEvent b) s = .next s) ∧
  (∀ s : State, s.dev.pwr.state = 3 → s.dev.pwr.wakePin = false →
    (bitOf s.dev.pwr.wake 0 = true → s.dev.safe.held = true →
      ∃ t, exec (.reefWakeEvent false) s = .next t ∧ t.dev.pwr.wakePin = true ∧ t.dev.out = .pin 0 0 :: s.dev.out) ∧
    (bitOf s.dev.pwr.wake 1 = true → s.dev.safe.safeIn = true →
      ∃ t, exec (.reefWakeEvent true) s = .next t ∧ t.dev.pwr.wakePin = true ∧ t.dev.out = .pin 0 0 :: s.dev.out) ∧
    (bitOf s.dev.pwr.wake 0 = false ∨ s.dev.safe.held = false → exec (.reefWakeEvent false) s = .next s) ∧
    (bitOf s.dev.pwr.wake 1 = false ∨ s.dev.safe.safeIn = false → exec (.reefWakeEvent true) s = .next s)) ∧
  (∀ (s : State) (b : Bool), s.dev.pwr.wakePin = true → exec (.reefWakeEvent b) s = .next s)

/-- 21 R517-R528. -/
def Obligations.TemperaturesSheddingAndTelemetry : Prop :=
  (∀ (s : State) (l : List Int), sampleDue s.dev = false → exec (.sensorSample l) s = .next s) ∧
  (∀ (s : State) (l : List Int), sampleDue s.dev = true →
    ∃ t m, exec (.sensorSample l) s = .next t ∧ m = t.dev.thm ∧ (∀ i : TsId, m.ts[i] = l.getD i.val s.dev.thm.ts[i]) ∧
      m.sampled = true ∧ m.sampNs = s.dev.tu.ns ∧
      (∀ i : TsId, (outOfRange m.ts[i] = true → bitOf m.invalid i.val = true) ∧
        (bitOf s.dev.thm.invalid i.val = true → bitOf m.invalid i.val = true) ∧
        (bitOf s.dev.thm.invalid i.val = false → outOfRange m.ts[i] = true → (i.val, false) ∈ m.owed)) ∧
      (12 ≤ ((List.finRange 24).filter (sensorOk m)).length →
        ∃ i : TsId, m.hot = i.val ∧ m.tj = m.ts[i] ∧ sensorOk m i = true ∧
          ∀ j : TsId, sensorOk m j = true → m.ts[j] ≤ m.tj ∧ (m.ts[j] = m.tj → i.val ≤ j.val)) ∧
      (((List.finRange 24).filter (sensorOk m)).length < 12 → 2208 ≤ m.tj) ∧
      m.state = (if 2208 ≤ m.tj then 2 else if (m.throttle : Int) * 16 ≤ m.tj then 1 else 0) ∧
      (m.tj < (m.throttle : Int) * 16 → m.share = 100) ∧
      ((m.throttle : Int) * 16 ≤ m.tj → m.dfMin ≤ 100 → m.dfMin ≤ m.share ∧ m.share ≤ 100 ∧
        (m.dfMin < m.share → 16 * (m.share : Int) ≤ 1600 - m.slope * (m.tj - m.throttle * 16) ∧
          1600 - m.slope * (m.tj - m.throttle * 16) < 16 * (m.share + 1 : Int))) ∧
      (2336 ≤ m.tj → t.dev.safe.held = true) ∧
      (∀ a b c e f, s.dev.thm.pend = some (a, b, c, e, f) →
        m.throttle = a ∧ m.slope = b ∧ m.dfMin = c ∧ m.shedMs = e ∧ m.limit = f ∧ m.pend = none)) ∧
  (∀ (s : State) (i : TsId) (jump : Bool), s.dev.thm.owed.contains (i.val, jump) = true → s.dev.thm.tripped = false →
    Queues s 10 → ∃ t, exec (.sensorFault i jump) s = .next t ∧ t.dev.thm.owed = s.dev.thm.owed.erase (i.val, jump) ∧
      t.dev.evt.queue = s.dev.evt.queue ++ [newEvent s 10 3 0 (i.val + (if jump then 2 else 1) * 256)]) ∧
  (∀ (s : State) (i : TsId) (jump : Bool), s.dev.thm.owed.contains (i.val, jump) = false ∨ s.dev.thm.tripped = true →
    exec (.sensorFault i jump) s = .next s) ∧
  (∀ s : State, s.dev.thm.tripped = false → s.dev.host.activating = false → s.dev.thm.shedArm = true →
    (∀ n, s.dev.thm.shedNs = some n → n + s.dev.thm.shedMs * 1000000 ≤ s.dev.tu.ns) →
    (s.dev.thm.tj < 2208 → exec .shedStep s = .next { s with dev := { s.dev with thm := { s.dev.thm with shedArm := false } } }) ∧
    (2208 ≤ s.dev.thm.tj → shedList s.dev = [] → exec .shedStep s =
      .next { s with dev := { s.dev with thm := { s.dev.thm with shedNs := some s.dev.tu.ns } } }) ∧
    (∀ i p b, 2208 ≤ s.dev.thm.tj → (ctxOf s.dev i p).sub = some b → (∀ y ∈ shedList s.dev, b.prio ≤ y.1) →
      ∃ t, exec .shedStep s = .next t ∧ (ctxOf t.dev i p).sub = none ∧ t.dev.thm.shed = s.dev.thm.shed + 1 ∧
        t.dev.thm.shedNs = some s.dev.tu.ns)) ∧
  (∀ s : State, s.dev.thm.shedArm = false ∨ s.dev.thm.tripped = true ∨ s.dev.host.activating = true ∨
    (∃ n, s.dev.thm.shedNs = some n ∧ s.dev.tu.ns < n + s.dev.thm.shedMs * 1000000) → exec .shedStep s = .next s) ∧
  (∀ (s : State) (t : Nat) (c : Outst), Begins specThermalConfig t s c →
    ∃ d, exec (.thermalConfig t) s = .next (s.finish c 0 (heldOf s.dev rcPower unitAll + fld c.e 40 4 * 2 ^ 32) 0 d) ∧
      d.thm.pend = some (fld c.e 32 1, fld c.e 33 1, fld c.e 34 1, fld c.e 36 2, fld c.e 40 4) ∧
      d.thm.throttle = s.dev.thm.throttle ∧ d.thm.limit = s.dev.thm.limit) ∧
  (∀ (s : State) (t : Nat) (c : Outst), Begins specTelemetrySnapshot t s c →
    exec (.telemetrySnapshot t) s = .next (s.finish c 0 0 0 (writeData c (telemetryRecord s.dev 0) s.dev)) ∧
    (telemetryRecord s.dev 0).length = 256) ∧
  (∀ (s : State) (t : Nat) (c : Outst), Begins specTelemetrySubscribe t s c →
    (s.dev.thm.sub = none → ∃ d, exec (.telemetrySubscribe t) s = .next (s.finish c 0 0 0 d) ∧ d.thm.sub = some
      { period := fld c.e 34 2, slots := fld c.e 36 2, vector := fld c.e 38 2, seq := 0, ring := c.tag, last := s.dev.tu.ns }) ∧
    (s.dev.thm.sub ≠ none → exec (.telemetrySubscribe t) s = .next (s.finish c 6 0 0 s.dev))) ∧
  (∀ (s : State) (t : Nat) (c : Outst), Begins specTelemetryUnsubscribe t s c →
    (∀ b, s.dev.thm.sub = some b → ∃ d, exec (.telemetryUnsubscribe t) s = .next (s.finish c 0 (b.seq % 2 ^ 63) 0 d) ∧
      d.thm.sub = none) ∧
    (s.dev.thm.sub = none → exec (.telemetryUnsubscribe t) s = .next (s.finish c 6 0 0 s.dev))) ∧
  (∀ s : State, (s.dev.thm.sub = none ∨ ∃ b, s.dev.thm.sub = some b ∧ s.dev.thm.telNow = false ∧
      s.dev.tu.ns < b.last + b.period * 1000000) → exec .telemetryRecord s = .next s) ∧
  (∀ (s : State) (b : TelSub), s.dev.thm.sub = some b → (s.dev.thm.telNow = true ∨ b.last + b.period * 1000000 ≤ s.dev.tu.ns) →
    ∃ t x, exec .telemetryRecord s = .next t ∧ t.dev.thm.sub = some x ∧ x.seq = b.seq + 1 ∧ t.dev.thm.telNow = false ∧
      x.last = (if s.dev.thm.telNow then s.dev.tu.ns else b.last + b.period * 1000000) ∧
      (delivering s.dev = false → t.dev.out = s.dev.out) ∧
      (delivering s.dev = true → b.vector = 0 → t.dev.out =
        .ring b.ring (b.seq % (b.slots + 1)) (b.seq + 1) (telemetryRecord s.dev (b.seq + 1)) ::
          ringBusy b.ring b.slots (b.seq + 1) b.wrote :: s.dev.out))

/-- 20 R504; 21 R525, R526; 22 R532-R539; 23 R554. -/
def Obligations.BootWatchdogAndTrip : Prop :=
  (∀ (s : State), s.dev.boot.stage = 0 →
    (∃ t, exec (.bootStageDone true) s = .next t ∧ t.dev.boot.stage = 1 ∧ t.dev.tu = { s.dev.tu with held := false }) ∧
    (∃ t, exec (.bootStageDone false) s = .next t ∧ t.dev.boot.stage = 9 ∧ t.dev.boot.stop = 4 ∧ t.dev.host.fatal = true)) ∧
  (∀ (s : State), (s.dev.boot.stage = 1 ∨ s.dev.boot.stage = 2 ∨ s.dev.boot.stage = 4 ∨ s.dev.boot.stage = 5 ∨
      s.dev.boot.stage = 6) →
    ∃ t, exec (.bootStageDone true) s = .next t ∧ t.dev.boot.stage = s.dev.boot.stage + 1 ∧ t.mem = s.mem) ∧
  (∀ (s : State), s.dev.boot.stage = 3 →
    (verifyStored (romErasures s.dev) s.dev.sec.sel = none →
      ∃ t, exec (.bootStageDone true) s = .next t ∧ t.dev.boot.stage = 4 ∧ t.dev.sec.bank = s.dev.sec.sel ∧
        t.dev.sec.running = bankImg s.dev s.dev.sec.sel ∧ t.dev.boot.fallback = s.dev.boot.fallback) ∧
    (∀ r, verifyStored (romErasures s.dev) s.dev.sec.sel = some r →
      (verifyStored (romErasures s.dev) (1 - s.dev.sec.sel % 2) = none →
        ∃ t, exec (.bootStageDone true) s = .next t ∧ t.dev.boot.stage = 4 ∧ t.dev.boot.fallback = r ∧
          t.dev.sec.running = bankImg s.dev (1 - s.dev.sec.sel % 2)) ∧
      ((verifyStored (romErasures s.dev) (1 - s.dev.sec.sel % 2)).isSome = true →
        ∃ t, exec (.bootStageDone true) s = .next t ∧ t.dev.boot.stage = 10 ∧ t.dev.host.fatal = true ∧
          t.dev.host.ready = true ∧ t.dev.host.hver = 0))) ∧
  (∀ (s : State), s.dev.boot.stage = 7 →
    ∃ t e, exec (.bootStageDone true) s = .next t ∧ t.dev.boot.stage = 8 ∧ t.dev.boot.boots = s.dev.boot.boots + 1 ∧
      t.dev.host.hver = imHver s.dev.sec.running ∧ t.dev.boot.log.getLast? = some e ∧ e.type = 1 ∧
      (verifyStored s.dev 2 = none → custDenied s.dev = true → (∀ c, (core t.dev c).state = 0) ∧ t.mem = s.mem) ∧
      (verifyStored s.dev 2 = none → custDenied s.dev = false → (∀ c, (core t.dev c).state = 1) ∧
        t.mem = loadTcm s.dev.sec.cust 1 (loadTcm s.dev.sec.cust 0 s.mem)) ∧
      ((verifyStored s.dev 2).isSome = true → (∀ c, (core t.dev c).state = 2) ∧ t.mem = s.mem)) ∧
  (∀ s : State, (s.dev.boot.stage = 2 → ∃ t, exec (.bootStageDone false) s = .next t ∧ t.dev.boot.stage = 9 ∧
      t.dev.boot.stop = 2 ∧ t.dev.host.fatal = true) ∧
    (s.dev.boot.stage = 3 → ∃ t, exec (.bootStageDone false) s = .next t ∧ t.dev.boot.stage = 9 ∧ t.dev.boot.stop = 3 ∧
      t.dev.host.fatal = true) ∧
    (s.dev.boot.stage = 1 ∨ 4 ≤ s.dev.boot.stage → exec (.bootStageDone false) s = .next s) ∧
    (8 ≤ s.dev.boot.stage → exec (.bootStageDone true) s = .next s)) ∧
  (∀ (s : State) (ok : Bool), s.dev.boot.stage ≠ 8 ∨ s.dev.host.fatal = true → exec (.engineWatchdog ok) s = .next s) ∧
  (∀ (s : State) (ok : Bool), s.dev.boot.stage = 8 → s.dev.host.fatal = false →
    ∃ t, exec (.engineWatchdog ok) s = .next t ∧ t.dev.host.outst = [] ∧ t.dev.host.fatal = !ok ∧
      t.dev.host.ready = false ∧ (∀ q ∈ t.dev.host.qps, q.1 = 0) ∧ t.dev.boot.act = none ∧ t.dev.sec.commit = none ∧
      t.dev.sec.sel = s.dev.sec.sel ∧ (ok = false → t.dev.boot.log = s.dev.boot.log)) ∧
  (∀ (s : State) (i : TsId) (r : Int) (p : Vector Int 24), dieRuns s.dev = true → Config.tsFailed.getLsbD i.val = false →
    s.dev.thm.sampled = true → s.dev.thm.ts[i] = r → 2368 ≤ r → s.dev.thm.prev = some p → 2368 ≤ p[i] →
    ∃ t e, exec (.thermalTrip i r) s = .next t ∧ t.dev.thm.tripped = true ∧ t.dev.thm.trips = min 255 (s.dev.thm.trips + 1) ∧
      t.dev.boot.tripNext = true ∧ t.dev.boot.stage = 11 ∧ t.dev.tu = { s.dev.tu with held := true } ∧ t.mem = {} ∧
      t.dev.safe = s.dev.safe ∧ t.dev.host = {} ∧ t.dev.boot.log.getLast? = some e ∧ e.type = 2 ∧ e.payload.length = 48) ∧
  (∀ (s : State) (i : TsId) (r : Int), r < 2368 ∨ s.dev.thm.ts[i] ≠ r ∨ s.dev.thm.prev = none →
    exec (.thermalTrip i r) s = .next s) ∧
  (∀ s : State, ∃ t, exec .aonSupplyLoss s = .next t ∧ t.dev.pwr.heldReset = true ∧ t.dev.boot.stage = 11 ∧
    t.dev.tu = { held := true } ∧ t.dev.safe.held = true ∧ t.mem = {} ∧ t.dev.safe.cfg = s.dev.safe.cfg ∧
    t.dev.boot.log = s.dev.boot.log)

/-- 22 R540-R543. -/
def Obligations.FirmwareActivation : Prop :=
  (∀ (s : State) (t : Nat) (c : Outst), Begins specFwActivate t s c →
    (fld c.e 32 1 = s.dev.sec.bank → exec (.fwActivate t) s = .next { s with dev := complete c 2 0 0 32 s.dev }) ∧
    (fld c.e 32 1 ≠ s.dev.sec.bank → s.dev.sec.life ≠ 3 → s.dev.boot.act = none → s.dev.sec.commit = none →
      sleepPending s.dev = false → s.dev.pwr.state < 2 →
      othersOut s.dev c.tag (fun o => isFwLoad o || o == .fwActivate || isSleep o) = false →
      ∃ d, exec (.fwActivate t) s = .next (s.await c .stepped d) ∧
        d.boot.act = some { cmd := c.tag, bank := fld c.e 32 1, step := 0, ns := s.dev.tu.ns } ∧ d.sec = s.dev.sec) ∧
    (fld c.e 32 1 ≠ s.dev.sec.bank → s.dev.sec.life = 3 → exec (.fwActivate t) s = .next (s.finish c 0x0030 0 0 s.dev)) ∧
    (fld c.e 32 1 ≠ s.dev.sec.bank → s.dev.sec.life ≠ 3 → s.dev.boot.act.isSome = true ∨ s.dev.sec.commit.isSome = true ∨
      sleepPending s.dev = true ∨ 2 ≤ s.dev.pwr.state ∨
      othersOut s.dev c.tag (fun o => isFwLoad o || o == .fwActivate || isSleep o) = true →
      exec (.fwActivate t) s = .next (s.finish c 6 0 0 s.dev))) ∧
  (∀ s : State, s.dev.boot.act = none → exec .activationVerifyFailed s = .next s ∧ exec .activationStop s = .next s ∧
    exec .activationHoldTimeout s = .next s ∧ ∀ ok, exec (.activationSwitch ok) s = .next s) ∧
  (∀ (s : State) (a : Activation), s.dev.boot.act = some a →
    (a.step ≠ 0 ∨ activationReason s.dev a = none → exec .activationVerifyFailed s = .next s) ∧
    (a.step = 2 → exec .activationStop s = .next s) ∧
    (a.step ≠ 1 ∨ s.dev.tu.ns ≤ a.ns + 2000000000 → exec .activationHoldTimeout s = .next s) ∧
    (a.step ≠ 2 ∨ (∃ k ∈ s.dev.host.outst, k.tag ≠ a.cmd) → ∀ ok, exec (.activationSwitch ok) s = .next s)) ∧
  (∀ (s : State) (c : Outst) (a : Activation) (r : Nat), s.dev.boot.act = some a → a.step = 0 → a.cmd = c.tag →
    findOutst s.dev c.tag = some c → activationReason s.dev a = some r →
    ∃ d, exec .activationVerifyFailed s = .next (s.finish c 0x0031 r 0 d) ∧ d.boot.act = none ∧ d.sec = s.dev.sec ∧
      d.cores = s.dev.cores ∧ d.host.activating = s.dev.host.activating) ∧
  (∀ (d : Dev) (a : Activation), activationReason d a = none ↔
    verifyStored d a.bank = none ∧ imMajor (bankImg d a.bank) = imMajor d.sec.running) ∧
  (∀ (s : State) (a : Activation), s.dev.boot.act = some a → a.step ≠ 2 → (a.step = 0 → activationReason s.dev a = none) →
    (longOut s.dev = true → (a.step ≠ 1 → exec .activationStop s =
      .next { s with dev := { s.dev with boot := { s.dev.boot with act := some { a with step := 1, ns := s.dev.tu.ns } } } }) ∧
      (a.step = 1 → exec .activationStop s = .next s)) ∧
    (longOut s.dev = false → ∃ t n, exec .activationStop s = .next t ∧
      t.dev.boot.act = some { a with step := 2, ns := s.dev.tu.ns, left := n } ∧
      t.dev.host.activating = true ∧ t.dev.cores.paused = true ∧ (∀ k ∈ t.dev.host.outst, k.op ≠ .eventArm) ∧
      (s.dev.reads = [] → t.dev.evt.resv = s.dev.evt.resv) ∧ t.dev.sec = s.dev.sec ∧ ∀ n, (tabGet t.dev.host.qps n).isSome = (tabGet s.dev.host.qps n).isSome)) ∧
  (∀ (s : State) (c : Outst) (a : Activation), s.dev.boot.act = some a → a.step = 1 → a.cmd = c.tag →
    a.ns + 2000000000 < s.dev.tu.ns → findOutst s.dev c.tag = some c →
    ∃ d, exec .activationHoldTimeout s = .next (s.finish c 0x0031 0x10 0 d) ∧ d.boot.act = none ∧ d.sec = s.dev.sec) ∧
  (∀ (s : State) (c : Outst) (a : Activation) (both : Nat), s.dev.boot.act = some a → a.step = 2 → a.cmd = c.tag →
    s.dev.host.outst = [c] → both = runBuild s.dev + imBuild (bankImg s.dev a.bank) * 2 ^ 32 →
    (∃ t d, exec (.activationSwitch true) s = .next t ∧ t.dev = raise evFirmware 1 0 both (s.finish c 0 both
        ((s.dev.tu.ns - a.ns) / 1000 % 2 ^ 32 + a.left % 2 ^ 32 * 2 ^ 32) d).dev ∧ t.dev.boot.act = none ∧ t.dev.host.activating = false ∧
      t.dev.cores.paused = false ∧ t.dev.sec.running = bankImg s.dev a.bank ∧ t.dev.sec.bank = a.bank ∧
      t.dev.sec.activated = true ∧ t.dev.host.hver = imHver (bankImg s.dev a.bank) ∧ t.dev.host.outst = [] ∧
      t.dev.evt.resv = s.dev.evt.resv ∧ (Queues s 11 → t.dev.evt.queue = s.dev.evt.queue ++
        [newEvent s 11 1 0 both])) ∧
    (∃ d, exec (.activationSwitch false) s = .next (s.finish c 0x0031 0x0F 0 d) ∧ d.boot.act = none ∧
      d.host.activating = false ∧ d.cores.paused = false ∧ d.sec = s.dev.sec))

/-- The frame of the control family (Safety.lean, mayChange). -/
def Obligations.ControlCommandsKeepTheRest : Prop := ∀ i : Instr, familyOf i = .control → Frame i

/-- The frame of the picture family (Safety.lean, mayChange). -/
def Obligations.PictureCommandsKeepTheRest : Prop := ∀ i : Instr, familyOf i = .pictures → Frame i

/-- The frame of the surroundings family (Safety.lean, mayChange). -/
def Obligations.SurroundingCommandsKeepTheRest : Prop := ∀ i : Instr, familyOf i = .surroundings → Frame i

/-- 18 R470, over every command. -/
def Obligations.SafeStateIsLeftOnlyThroughReset : Prop :=
  (∀ (i : Instr) (s t : State), exec i s = .next t → s.dev.safe.held = true → t.dev.safe.held = false →
    ∃ n c, i = .safetyConfigReset n ∧ startable .safetyConfigReset n s.dev = some c ∧ s.dev.safe.present = [] ∧
      s.dev.safe.safeIn = true ∧ s.dev.safe.entry + le s.dev.safe.cfg 8 1 * 1000000 ≤ s.dev.tu.ns ∧
      framesGood s.dev = true ∧ (∃ l, t.dev.out = l ++ .pin 4 1 :: .pin 3 1 :: s.dev.out) ∧
      (s.Inv → ∀ a, driving t.dev a = false ∧ brakeOn t.dev a = false)) ∧
  (∀ (i : Instr) (s t : State) (a : AxisId), exec i s = .next t →
    ((axisOf s.dev a).arm = false ∧ (axisOf t.dev a).arm = true ∨ (axisOf s.dev a).brk = false ∧ (axisOf t.dev a).brk = true) →
    s.dev.safe.held = false ∧ ∃ c v, (i = .pwmArmWrite c a v ∨ i = .brakeRelWrite c a v) ∧ axisOwner s.dev a = c.val)

/-- 02 R48. -/
def Obligations.AtMost1024CommandsAreHeld : Prop :=
  (∀ s t : State, (s.dev.host.outst.filter fun c => c.op != .eventArm).length ≤ 1024 → step s = .next t →
    (t.dev.host.outst.filter fun c => c.op != .eventArm).length ≤ 1024) ∧
  (∀ (s : State) (e : Sqe), (s.dev.host.outst.filter fun c => c.op != .eventArm).length = 1024 →
    exec (.commandFetch e) s = .next s) ∧
  (∀ (s t : State) (e : Sqe), (∀ c ∈ s.dev.host.outst, c.tag < s.dev.host.nextTag) → exec (.commandFetch e) s = .next t →
    (∀ c ∈ t.dev.host.outst, c ∈ s.dev.host.outst ∨ c.op = .eventArm) →
    (t.dev.host.outst.filter fun c => c.op != .eventArm).length = (s.dev.host.outst.filter fun c => c.op != .eventArm).length)

/-- 17 R455, 18 R465; the memories' form is the model's (notes/assumptions/9.md). -/
def Obligations.EveryStepKeepsTheInvariant : Prop := ∀ s t : State, s.Inv → step s = .next t → t.Inv

/-- 02 R39; 18 R465; 22 R531. -/
def Obligations.ResetMeetsTheInvariants : Prop :=
  State.reset.Inv ∧ State.reset.pending = [] ∧ State.reset.dev.host.outst = [] ∧ State.reset.dev.host.enable = false ∧
  State.reset.dev.host.ready = false ∧ State.reset.dev.safe.held = true ∧ State.reset.dev.safe.last = 4 ∧
  State.reset.dev.boot.stage = 0 ∧ State.reset.dev.cores.c.toList.all (fun k => k.state == 0) = true
end

