-- ==== Sys2Proof/Laws/State.lean ====
section
/-!
SUPPORT. Laws/State.lean: what the updates of State and Dev do: one lemma per field of State and update, and one equation
per single-field update of Dev, from which its projections reduce.
-/
namespace Sys2Proof.Machine

@[simp] theorem mapDev_dev (s : State) (f : Dev → Dev) : (s.mapDev f).dev = f s.dev := rfl
@[simp] theorem mapDev_mem (s : State) (f : Dev → Dev) : (s.mapDev f).mem = s.mem := rfl
@[simp] theorem mapDev_pending (s : State) (f : Dev → Dev) : (s.mapDev f).pending = s.pending := rfl
@[simp] theorem resetDev_dev (s : State) (f : Dev → Dev) : (s.resetDev f).dev = f s.dev := rfl
@[simp] theorem resetDev_mem (s : State) (f : Dev → Dev) : (s.resetDev f).mem = ({} : Mem) := rfl
@[simp] theorem resetDev_pending (s : State) (f : Dev → Dev) : (s.resetDev f).pending = s.pending := rfl

/-! Updates of one field of Dev. -/

@[simp] theorem modHost_eq (f : HostIf → HostIf) (d : Dev) : modHost f d = { d with host := f d.host } := rfl
@[simp] theorem modEvt_eq (f : Evt → Evt) (d : Dev) : modEvt f d = { d with evt := f d.evt } := rfl
@[simp] theorem modPcie_eq (f : Pcie → Pcie) (d : Dev) : modPcie f d = { d with pcie := f d.pcie } := rfl
@[simp] theorem modCores_eq (f : Cores → Cores) (d : Dev) : modCores f d = { d with cores := f d.cores } := rfl
@[simp] theorem modSafe_eq (f : Safe → Safe) (d : Dev) : modSafe f d = { d with safe := f d.safe } := rfl
@[simp] theorem modSec_eq (f : Sec → Sec) (d : Dev) : modSec f d = { d with sec := f d.sec } := rfl
@[simp] theorem modBoot_eq (f : Boot → Boot) (d : Dev) : modBoot f d = { d with boot := f d.boot } := rfl
@[simp] theorem modThm_eq (f : Thm → Thm) (d : Dev) : modThm f d = { d with thm := f d.thm } := rfl
@[simp] theorem modHbm_eq (f : Hbm → Hbm) (d : Dev) : modHbm f d = { d with hbm := f d.hbm } := rfl
@[simp] theorem modPtp_eq (f : Ptp → Ptp) (d : Dev) : modPtp f d = { d with ptp := f d.ptp } := rfl
@[simp] theorem modPwr_eq (f : Pwr → Pwr) (d : Dev) : modPwr f d = { d with pwr := f d.pwr } := rfl

/-! Updates of one unit: what that unit and the others read as. -/

@[simp] theorem port_modPort (x : PortId) (f : Port → Port) (d : Dev) : port (modPort x f d) x = f (port d x) := by
  simp [port, modPort, setPort]
theorem port_modPort_ne (x y : PortId) (h : x ≠ y) (f : Port → Port) (d : Dev) : port (modPort x f d) y = port d y := by
  simp [port, modPort, setPort, Fin.getElem_fin, Vector.getElem_set_ne, Fin.val_ne_of_ne h]
@[simp] theorem grp_modGrp (x : GroupId) (f : Group → Group) (d : Dev) : grp (modGrp x f d) x = f (grp d x) := by
  simp [grp, modGrp, setGrp]
theorem grp_modGrp_ne (x y : GroupId) (h : x ≠ y) (f : Group → Group) (d : Dev) : grp (modGrp x f d) y = grp d y := by
  simp [grp, modGrp, setGrp, Fin.getElem_fin, Vector.getElem_set_ne, Fin.val_ne_of_ne h]
@[simp] theorem isle_modIsle (x : IsleId) (f : Isle → Isle) (d : Dev) : isle (modIsle x f d) x = f (isle d x) := by
  simp [isle, modIsle, setIsle]
theorem isle_modIsle_ne (x y : IsleId) (h : x ≠ y) (f : Isle → Isle) (d : Dev) : isle (modIsle x f d) y = isle d y := by
  simp [isle, modIsle, setIsle, Fin.getElem_fin, Vector.getElem_set_ne, Fin.val_ne_of_ne h]
@[simp] theorem link_modLink (x : PortId) (f : Link → Link) (d : Dev) : link (modLink x f d) x = f (link d x) := by
  simp [link, modLink, setLink]
theorem link_modLink_ne (x y : PortId) (h : x ≠ y) (f : Link → Link) (d : Dev) : link (modLink x f d) y = link d y := by
  simp [link, modLink, setLink, Fin.getElem_fin, Vector.getElem_set_ne, Fin.val_ne_of_ne h]
@[simp] theorem lane_modLane (x : LaneId) (f : Lane → Lane) (d : Dev) : lane (modLane x f d) x = f (lane d x) := by
  simp [lane, modLane, setLane]
theorem lane_modLane_ne (x y : LaneId) (h : x ≠ y) (f : Lane → Lane) (d : Dev) : lane (modLane x f d) y = lane d y := by
  simp [lane, modLane, setLane, Fin.getElem_fin, Vector.getElem_set_ne, Fin.val_ne_of_ne h]
@[simp] theorem headAt_modHead (x : HeadId) (f : Head → Head) (d : Dev) : headAt (modHead x f d) x = f (headAt d x) := by
  simp [headAt, modHead]
theorem headAt_modHead_ne (x y : HeadId) (h : x ≠ y) (f : Head → Head) (d : Dev) : headAt (modHead x f d) y = headAt d y := by
  simp [headAt, modHead, Fin.getElem_fin, Vector.getElem_set_ne, Fin.val_ne_of_ne h]
@[simp] theorem aud_modAud (x : AudId) (f : AudPort → AudPort) (d : Dev) : aud (modAud x f d) x = f (aud d x) := by
  simp [aud, modAud]
theorem aud_modAud_ne (x y : AudId) (h : x ≠ y) (f : AudPort → AudPort) (d : Dev) : aud (modAud x f d) y = aud d y := by
  simp [aud, modAud, Fin.getElem_fin, Vector.getElem_set_ne, Fin.val_ne_of_ne h]
@[simp] theorem net_modNet (x : NetId) (f : NetPort → NetPort) (d : Dev) : net (modNet x f d) x = f (net d x) := by
  simp [net, modNet]
theorem net_modNet_ne (x y : NetId) (h : x ≠ y) (f : NetPort → NetPort) (d : Dev) : net (modNet x f d) y = net d y := by
  simp [net, modNet, Fin.getElem_fin, Vector.getElem_set_ne, Fin.val_ne_of_ne h]
@[simp] theorem medium_modMedium (x : MediaId) (f : Medium → Medium) (d : Dev) : medium (modMedium x f d) x = f (medium d x) := by
  simp [medium, modMedium]
theorem medium_modMedium_ne (x y : MediaId) (h : x ≠ y) (f : Medium → Medium) (d : Dev) : medium (modMedium x f d) y = medium d y := by
  simp [medium, modMedium, Fin.getElem_fin, Vector.getElem_set_ne, Fin.val_ne_of_ne h]
@[simp] theorem axisOf_modAxis (x : AxisId) (f : Axis → Axis) (d : Dev) : axisOf (modAxis x f d) x = f (axisOf d x) := by
  simp [axisOf, modAxis]
theorem axisOf_modAxis_ne (x y : AxisId) (h : x ≠ y) (f : Axis → Axis) (d : Dev) : axisOf (modAxis x f d) y = axisOf d y := by
  simp [axisOf, modAxis, Fin.getElem_fin, Vector.getElem_set_ne, Fin.val_ne_of_ne h]
@[simp] theorem core_modCore (x : CoreId) (f : Core → Core) (d : Dev) : core (modCore x f d) x = f (core d x) := by
  simp [core, modCore]
theorem core_modCore_ne (x y : CoreId) (h : x ≠ y) (f : Core → Core) (d : Dev) : core (modCore x f d) y = core d y := by
  simp [core, modCore, Fin.getElem_fin, Vector.getElem_set_ne, Fin.val_ne_of_ne h]

end Sys2Proof.Machine
end

