-- ==== Sys2Proof/Laws/Delivery.lean ====
section
/-!
SUPPORT. Laws/Delivery.lean: what the shared operations toward the host can change: its queues, the events, the link and
what was put out, and nothing else of the device.
-/
namespace Sys2Proof.Machine

/-- `d'` differs from `d` at most on the host's side. -/
def HostSide (d d' : Dev) : Prop :=
  { d' with host := d.host, evt := d.evt, pcie := d.pcie, out := d.out } = d

theorem hostSide_refl (d : Dev) : HostSide d d := rfl

theorem hostSide_trans {a b c : Dev} (h : HostSide a b) (k : HostSide b c) : HostSide a c := by
  unfold HostSide at *
  rw [← h, ← k]

theorem hostSide_foldl {α : Type} (f : Dev → α → Dev) (h : ∀ d x, HostSide d (f d x)) (l : List α) (d : Dev) :
    HostSide d (l.foldl f d) := by
  induction l generalizing d with
  | nil => exact hostSide_refl d
  | cons x l ih => exact hostSide_trans (h d x) (ih (f d x))

theorem hostSide_emit (o : Out) (d : Dev) : HostSide d (emit o d) := rfl

theorem hostSide_modHost (f : HostIf → HostIf) (d : Dev) : HostSide d (modHost f d) := rfl

theorem hostSide_modEvt (f : Evt → Evt) (d : Dev) : HostSide d (modEvt f d) := rfl

theorem hostSide_postOut (o : Out) (d : Dev) : HostSide d (postOut o d) := by
  unfold postOut
  split
  · exact hostSide_emit o d
  · split <;> rfl

theorem hostSide_msixSend (v : Nat) (d : Dev) : HostSide d (msixSend v d) := by
  unfold msixSend
  split
  · split <;> rfl
  · exact hostSide_emit _ d

theorem hostSide_trigger (v : Nat) (d : Dev) : HostSide d (trigger v d) := by
  unfold trigger
  split
  · exact hostSide_msixSend v d
  · split <;> rfl

theorem hostSide_notify (v : Nat) (d : Dev) : HostSide d (notify v d) := by
  unfold notify
  split
  · rfl
  · exact hostSide_trigger v d

theorem hostSide_releaseHeld (d : Dev) : HostSide d (releaseHeld d) := by
  refine hostSide_trans (hostSide_modHost (fun h => { h with held := [] }) d) ?_
  refine hostSide_foldl _ (fun d x => ?_) _ _
  cases x with
  | post o => exact hostSide_emit o d
  | trig v => exact hostSide_msixSend v d

theorem hostSide_logError (c : Outst) (st fb : Nat) (d : Dev) : HostSide d (logError c st fb d) := by
  unfold logError
  split
  · exact hostSide_modHost _ d
  · exact hostSide_refl d

theorem hostSide_complete (c : Outst) (st res ext fb : Nat) (d : Dev) : HostSide d (complete c st res ext fb d) := by
  unfold complete
  refine hostSide_trans (hostSide_modHost (fun h => { h with outst := h.outst.filter fun o => o.tag != c.tag }) d) ?_
  dsimp only
  split
  · rfl
  · rename_i p _
    refine hostSide_trans (hostSide_logError c st fb _) ?_
    generalize logError c st fb _ = d'
    generalize (if (coalesce c.qp st (advanceCq p)).2.since = 1 then
      { (coalesce c.qp st (advanceCq p)).2 with firstNs := d'.tu.ns } else (coalesce c.qp st (advanceCq p)).2) = q
    have base : HostSide d' (setQp c.qp q d') := rfl
    refine hostSide_trans base ?_
    split
    · exact hostSide_trans (hostSide_postOut _ _) (hostSide_trigger _ _)
    · exact hostSide_postOut _ _

theorem hostSide_completeTag (t : Option Nat) (st res ext : Nat) (d : Dev) :
    HostSide d (completeTag t st res ext d) := by
  unfold completeTag
  split
  · rfl
  · split
    · rfl
    · exact hostSide_complete ..

theorem hostSide_setPhase (t : Nat) (ph : Phase) (d : Dev) : HostSide d (setPhase t ph d) := rfl

theorem hostSide_writeData (c : Outst) (l : List Byte) (d : Dev) : HostSide d (writeData c l d) := hostSide_postOut _ d

theorem hostSide_raise (cls code handle detail : Nat) (d : Dev) : HostSide d (raise cls code handle detail d) := by
  unfold raise
  split
  · dsimp only
    split
    · exact hostSide_trans (hostSide_modEvt (fun e => { e with seq := (e.seq + 1) % 2 ^ 32 }) d) (hostSide_complete ..)
    · rfl
  · rfl

theorem hostSide_setResv (o c u a : Nat) (p : Bool) (d : Dev) : HostSide d (setResv o c u a p d) := rfl

theorem hostSide_dropResv (o : Nat) (d : Dev) : HostSide d (dropResv o d) := rfl

theorem hostSide_linkRecover (d : Dev) : HostSide d (linkRecover d) := by
  unfold linkRecover
  split
  · exact hostSide_trans (b := setShort false d) rfl (hostSide_raise ..)
  · rfl

theorem hostSide_linkRecompute (d : Dev) : HostSide d (linkRecompute d) := by
  unfold linkRecompute
  split
  · refine hostSide_trans (hostSide_modHost (fun h => { h with cnt := { h.cnt with below := h.cnt.below + 1 } }) d) ?_
    generalize modHost _ d = d'
    exact hostSide_trans (b := setShort true d') rfl (hostSide_raise ..)
  · exact hostSide_linkRecover d

theorem hostSide_returnResv (o : Nat) (d : Dev) : HostSide d (returnResv o d) :=
  hostSide_trans (hostSide_dropResv o d) (hostSide_linkRecover _)

theorem hostSide_reserve (o : Nat) (p : Bool) (w : List (Nat × Nat × Nat)) (d : Dev) : HostSide d (reserve o p w d) :=
  hostSide_foldl _ (fun _ _ => hostSide_setResv ..) w d

theorem hostSide_openObj (ty slot op st : Nat) (d : Dev) : HostSide d (openObj ty slot op st d).2 := rfl

theorem hostSide_closeObj (h : Nat) (d : Dev) : HostSide d (closeObj h d) := rfl

/-! The fields that no such operation touches. -/

theorem hostSide_ident {d d' : Dev} (h : HostSide d d') : d'.ident = d.ident := have k := congrArg Dev.ident h; k
theorem hostSide_pwr {d d' : Dev} (h : HostSide d d') : d'.pwr = d.pwr := have k := congrArg Dev.pwr h; k
theorem hostSide_thm {d d' : Dev} (h : HostSide d d') : d'.thm = d.thm := have k := congrArg Dev.thm h; k
theorem hostSide_sec {d d' : Dev} (h : HostSide d d') : d'.sec = d.sec := have k := congrArg Dev.sec h; k
theorem hostSide_boot {d d' : Dev} (h : HostSide d d') : d'.boot = d.boot := have k := congrArg Dev.boot h; k
theorem hostSide_mirror {d d' : Dev} (h : HostSide d d') : d'.mirror = d.mirror := have k := congrArg Dev.mirror h; k
theorem hostSide_lanes {d d' : Dev} (h : HostSide d d') : d'.lanes = d.lanes := have k := congrArg Dev.lanes h; k
theorem hostSide_links {d d' : Dev} (h : HostSide d d') : d'.links = d.links := have k := congrArg Dev.links h; k
theorem hostSide_ports {d d' : Dev} (h : HostSide d d') : d'.ports = d.ports := have k := congrArg Dev.ports h; k
theorem hostSide_grps {d d' : Dev} (h : HostSide d d') : d'.grps = d.grps := have k := congrArg Dev.grps h; k
theorem hostSide_isles {d d' : Dev} (h : HostSide d d') : d'.isles = d.isles := have k := congrArg Dev.isles h; k
theorem hostSide_holm {d d' : Dev} (h : HostSide d d') : d'.holm = d.holm := have k := congrArg Dev.holm h; k
theorem hostSide_enc {d d' : Dev} (h : HostSide d d') : d'.enc = d.enc := have k := congrArg Dev.enc h; k
theorem hostSide_ladders {d d' : Dev} (h : HostSide d d') : d'.ladders = d.ladders := have k := congrArg Dev.ladders h; k
theorem hostSide_encReset {d d' : Dev} (h : HostSide d d') : d'.encReset = d.encReset := have k := congrArg Dev.encReset h; k
theorem hostSide_dec {d d' : Dev} (h : HostSide d d') : d'.dec = d.dec := have k := congrArg Dev.dec h; k
theorem hostSide_heads {d d' : Dev} (h : HostSide d d') : d'.heads = d.heads := have k := congrArg Dev.heads h; k
theorem hostSide_hbm {d d' : Dev} (h : HostSide d d') : d'.hbm = d.hbm := have k := congrArg Dev.hbm h; k
theorem hostSide_media {d d' : Dev} (h : HostSide d d') : d'.media = d.media := have k := congrArg Dev.media h; k
theorem hostSide_recs {d d' : Dev} (h : HostSide d d') : d'.recs = d.recs := have k := congrArg Dev.recs h; k
theorem hostSide_reads {d d' : Dev} (h : HostSide d d') : d'.reads = d.reads := have k := congrArg Dev.reads h; k
theorem hostSide_nets {d d' : Dev} (h : HostSide d d') : d'.nets = d.nets := have k := congrArg Dev.nets h; k
theorem hostSide_flows {d d' : Dev} (h : HostSide d d') : d'.flows = d.flows := have k := congrArg Dev.flows h; k
theorem hostSide_ptp {d d' : Dev} (h : HostSide d d') : d'.ptp = d.ptp := have k := congrArg Dev.ptp h; k
theorem hostSide_auds {d d' : Dev} (h : HostSide d d') : d'.auds = d.auds := have k := congrArg Dev.auds h; k
theorem hostSide_auss {d d' : Dev} (h : HostSide d d') : d'.auss = d.auss := have k := congrArg Dev.auss h; k
theorem hostSide_integ {d d' : Dev} (h : HostSide d d') : d'.integ = d.integ := have k := congrArg Dev.integ h; k
theorem hostSide_tu {d d' : Dev} (h : HostSide d d') : d'.tu = d.tu := have k := congrArg Dev.tu h; k
theorem hostSide_axes {d d' : Dev} (h : HostSide d d') : d'.axes = d.axes := have k := congrArg Dev.axes h; k
theorem hostSide_axrec {d d' : Dev} (h : HostSide d d') : d'.axrec = d.axrec := have k := congrArg Dev.axrec h; k
theorem hostSide_safe {d d' : Dev} (h : HostSide d d') : d'.safe = d.safe := have k := congrArg Dev.safe h; k
theorem hostSide_cores {d d' : Dev} (h : HostSide d d') : d'.cores = d.cores := have k := congrArg Dev.cores h; k
theorem hostSide_free {d d' : Dev} (h : HostSide d d') : d'.free = d.free := have k := congrArg Dev.free h; k

@[simp] theorem emit_ident (o : Out) (d : Dev) : (emit o d).ident = d.ident := hostSide_ident (hostSide_emit o d)
@[simp] theorem emit_pwr (o : Out) (d : Dev) : (emit o d).pwr = d.pwr := hostSide_pwr (hostSide_emit o d)
@[simp] theorem emit_thm (o : Out) (d : Dev) : (emit o d).thm = d.thm := hostSide_thm (hostSide_emit o d)
@[simp] theorem emit_sec (o : Out) (d : Dev) : (emit o d).sec = d.sec := hostSide_sec (hostSide_emit o d)
@[simp] theorem emit_boot (o : Out) (d : Dev) : (emit o d).boot = d.boot := hostSide_boot (hostSide_emit o d)
@[simp] theorem emit_mirror (o : Out) (d : Dev) : (emit o d).mirror = d.mirror := hostSide_mirror (hostSide_emit o d)
@[simp] theorem emit_lanes (o : Out) (d : Dev) : (emit o d).lanes = d.lanes := hostSide_lanes (hostSide_emit o d)
@[simp] theorem emit_links (o : Out) (d : Dev) : (emit o d).links = d.links := hostSide_links (hostSide_emit o d)
@[simp] theorem emit_ports (o : Out) (d : Dev) : (emit o d).ports = d.ports := hostSide_ports (hostSide_emit o d)
@[simp] theorem emit_grps (o : Out) (d : Dev) : (emit o d).grps = d.grps := hostSide_grps (hostSide_emit o d)
@[simp] theorem emit_isles (o : Out) (d : Dev) : (emit o d).isles = d.isles := hostSide_isles (hostSide_emit o d)
@[simp] theorem emit_holm (o : Out) (d : Dev) : (emit o d).holm = d.holm := hostSide_holm (hostSide_emit o d)
@[simp] theorem emit_enc (o : Out) (d : Dev) : (emit o d).enc = d.enc := hostSide_enc (hostSide_emit o d)
@[simp] theorem emit_ladders (o : Out) (d : Dev) : (emit o d).ladders = d.ladders := hostSide_ladders (hostSide_emit o d)
@[simp] theorem emit_encReset (o : Out) (d : Dev) : (emit o d).encReset = d.encReset := hostSide_encReset (hostSide_emit o d)
@[simp] theorem emit_dec (o : Out) (d : Dev) : (emit o d).dec = d.dec := hostSide_dec (hostSide_emit o d)
@[simp] theorem emit_heads (o : Out) (d : Dev) : (emit o d).heads = d.heads := hostSide_heads (hostSide_emit o d)
@[simp] theorem emit_hbm (o : Out) (d : Dev) : (emit o d).hbm = d.hbm := hostSide_hbm (hostSide_emit o d)
@[simp] theorem emit_media (o : Out) (d : Dev) : (emit o d).media = d.media := hostSide_media (hostSide_emit o d)
@[simp] theorem emit_recs (o : Out) (d : Dev) : (emit o d).recs = d.recs := hostSide_recs (hostSide_emit o d)
@[simp] theorem emit_reads (o : Out) (d : Dev) : (emit o d).reads = d.reads := hostSide_reads (hostSide_emit o d)
@[simp] theorem emit_nets (o : Out) (d : Dev) : (emit o d).nets = d.nets := hostSide_nets (hostSide_emit o d)
@[simp] theorem emit_flows (o : Out) (d : Dev) : (emit o d).flows = d.flows := hostSide_flows (hostSide_emit o d)
@[simp] theorem emit_ptp (o : Out) (d : Dev) : (emit o d).ptp = d.ptp := hostSide_ptp (hostSide_emit o d)
@[simp] theorem emit_auds (o : Out) (d : Dev) : (emit o d).auds = d.auds := hostSide_auds (hostSide_emit o d)
@[simp] theorem emit_auss (o : Out) (d : Dev) : (emit o d).auss = d.auss := hostSide_auss (hostSide_emit o d)
@[simp] theorem emit_integ (o : Out) (d : Dev) : (emit o d).integ = d.integ := hostSide_integ (hostSide_emit o d)
@[simp] theorem emit_tu (o : Out) (d : Dev) : (emit o d).tu = d.tu := hostSide_tu (hostSide_emit o d)
@[simp] theorem emit_axes (o : Out) (d : Dev) : (emit o d).axes = d.axes := hostSide_axes (hostSide_emit o d)
@[simp] theorem emit_axrec (o : Out) (d : Dev) : (emit o d).axrec = d.axrec := hostSide_axrec (hostSide_emit o d)
@[simp] theorem emit_safe (o : Out) (d : Dev) : (emit o d).safe = d.safe := hostSide_safe (hostSide_emit o d)
@[simp] theorem emit_cores (o : Out) (d : Dev) : (emit o d).cores = d.cores := hostSide_cores (hostSide_emit o d)
@[simp] theorem emit_free (o : Out) (d : Dev) : (emit o d).free = d.free := hostSide_free (hostSide_emit o d)
@[simp] theorem postOut_ident (o : Out) (d : Dev) : (postOut o d).ident = d.ident := hostSide_ident (hostSide_postOut o d)
@[simp] theorem postOut_pwr (o : Out) (d : Dev) : (postOut o d).pwr = d.pwr := hostSide_pwr (hostSide_postOut o d)
@[simp] theorem postOut_thm (o : Out) (d : Dev) : (postOut o d).thm = d.thm := hostSide_thm (hostSide_postOut o d)
@[simp] theorem postOut_sec (o : Out) (d : Dev) : (postOut o d).sec = d.sec := hostSide_sec (hostSide_postOut o d)
@[simp] theorem postOut_boot (o : Out) (d : Dev) : (postOut o d).boot = d.boot := hostSide_boot (hostSide_postOut o d)
@[simp] theorem postOut_mirror (o : Out) (d : Dev) : (postOut o d).mirror = d.mirror := hostSide_mirror (hostSide_postOut o d)
@[simp] theorem postOut_lanes (o : Out) (d : Dev) : (postOut o d).lanes = d.lanes := hostSide_lanes (hostSide_postOut o d)
@[simp] theorem postOut_links (o : Out) (d : Dev) : (postOut o d).links = d.links := hostSide_links (hostSide_postOut o d)
@[simp] theorem postOut_ports (o : Out) (d : Dev) : (postOut o d).ports = d.ports := hostSide_ports (hostSide_postOut o d)
@[simp] theorem postOut_grps (o : Out) (d : Dev) : (postOut o d).grps = d.grps := hostSide_grps (hostSide_postOut o d)
@[simp] theorem postOut_isles (o : Out) (d : Dev) : (postOut o d).isles = d.isles := hostSide_isles (hostSide_postOut o d)
@[simp] theorem postOut_holm (o : Out) (d : Dev) : (postOut o d).holm = d.holm := hostSide_holm (hostSide_postOut o d)
@[simp] theorem postOut_enc (o : Out) (d : Dev) : (postOut o d).enc = d.enc := hostSide_enc (hostSide_postOut o d)
@[simp] theorem postOut_ladders (o : Out) (d : Dev) : (postOut o d).ladders = d.ladders := hostSide_ladders (hostSide_postOut o d)
@[simp] theorem postOut_encReset (o : Out) (d : Dev) : (postOut o d).encReset = d.encReset := hostSide_encReset (hostSide_postOut o d)
@[simp] theorem postOut_dec (o : Out) (d : Dev) : (postOut o d).dec = d.dec := hostSide_dec (hostSide_postOut o d)
@[simp] theorem postOut_heads (o : Out) (d : Dev) : (postOut o d).heads = d.heads := hostSide_heads (hostSide_postOut o d)
@[simp] theorem postOut_hbm (o : Out) (d : Dev) : (postOut o d).hbm = d.hbm := hostSide_hbm (hostSide_postOut o d)
@[simp] theorem postOut_media (o : Out) (d : Dev) : (postOut o d).media = d.media := hostSide_media (hostSide_postOut o d)
@[simp] theorem postOut_recs (o : Out) (d : Dev) : (postOut o d).recs = d.recs := hostSide_recs (hostSide_postOut o d)
@[simp] theorem postOut_reads (o : Out) (d : Dev) : (postOut o d).reads = d.reads := hostSide_reads (hostSide_postOut o d)
@[simp] theorem postOut_nets (o : Out) (d : Dev) : (postOut o d).nets = d.nets := hostSide_nets (hostSide_postOut o d)
@[simp] theorem postOut_flows (o : Out) (d : Dev) : (postOut o d).flows = d.flows := hostSide_flows (hostSide_postOut o d)
@[simp] theorem postOut_ptp (o : Out) (d : Dev) : (postOut o d).ptp = d.ptp := hostSide_ptp (hostSide_postOut o d)
@[simp] theorem postOut_auds (o : Out) (d : Dev) : (postOut o d).auds = d.auds := hostSide_auds (hostSide_postOut o d)
@[simp] theorem postOut_auss (o : Out) (d : Dev) : (postOut o d).auss = d.auss := hostSide_auss (hostSide_postOut o d)
@[simp] theorem postOut_integ (o : Out) (d : Dev) : (postOut o d).integ = d.integ := hostSide_integ (hostSide_postOut o d)
@[simp] theorem postOut_tu (o : Out) (d : Dev) : (postOut o d).tu = d.tu := hostSide_tu (hostSide_postOut o d)
@[simp] theorem postOut_axes (o : Out) (d : Dev) : (postOut o d).axes = d.axes := hostSide_axes (hostSide_postOut o d)
@[simp] theorem postOut_axrec (o : Out) (d : Dev) : (postOut o d).axrec = d.axrec := hostSide_axrec (hostSide_postOut o d)
@[simp] theorem postOut_safe (o : Out) (d : Dev) : (postOut o d).safe = d.safe := hostSide_safe (hostSide_postOut o d)
@[simp] theorem postOut_cores (o : Out) (d : Dev) : (postOut o d).cores = d.cores := hostSide_cores (hostSide_postOut o d)
@[simp] theorem postOut_free (o : Out) (d : Dev) : (postOut o d).free = d.free := hostSide_free (hostSide_postOut o d)
@[simp] theorem trigger_ident (v : Nat) (d : Dev) : (trigger v d).ident = d.ident := hostSide_ident (hostSide_trigger v d)
@[simp] theorem trigger_pwr (v : Nat) (d : Dev) : (trigger v d).pwr = d.pwr := hostSide_pwr (hostSide_trigger v d)
@[simp] theorem trigger_thm (v : Nat) (d : Dev) : (trigger v d).thm = d.thm := hostSide_thm (hostSide_trigger v d)
@[simp] theorem trigger_sec (v : Nat) (d : Dev) : (trigger v d).sec = d.sec := hostSide_sec (hostSide_trigger v d)
@[simp] theorem trigger_boot (v : Nat) (d : Dev) : (trigger v d).boot = d.boot := hostSide_boot (hostSide_trigger v d)
@[simp] theorem trigger_mirror (v : Nat) (d : Dev) : (trigger v d).mirror = d.mirror := hostSide_mirror (hostSide_trigger v d)
@[simp] theorem trigger_lanes (v : Nat) (d : Dev) : (trigger v d).lanes = d.lanes := hostSide_lanes (hostSide_trigger v d)
@[simp] theorem trigger_links (v : Nat) (d : Dev) : (trigger v d).links = d.links := hostSide_links (hostSide_trigger v d)
@[simp] theorem trigger_ports (v : Nat) (d : Dev) : (trigger v d).ports = d.ports := hostSide_ports (hostSide_trigger v d)
@[simp] theorem trigger_grps (v : Nat) (d : Dev) : (trigger v d).grps = d.grps := hostSide_grps (hostSide_trigger v d)
@[simp] theorem trigger_isles (v : Nat) (d : Dev) : (trigger v d).isles = d.isles := hostSide_isles (hostSide_trigger v d)
@[simp] theorem trigger_holm (v : Nat) (d : Dev) : (trigger v d).holm = d.holm := hostSide_holm (hostSide_trigger v d)
@[simp] theorem trigger_enc (v : Nat) (d : Dev) : (trigger v d).enc = d.enc := hostSide_enc (hostSide_trigger v d)
@[simp] theorem trigger_ladders (v : Nat) (d : Dev) : (trigger v d).ladders = d.ladders := hostSide_ladders (hostSide_trigger v d)
@[simp] theorem trigger_encReset (v : Nat) (d : Dev) : (trigger v d).encReset = d.encReset := hostSide_encReset (hostSide_trigger v d)
@[simp] theorem trigger_dec (v : Nat) (d : Dev) : (trigger v d).dec = d.dec := hostSide_dec (hostSide_trigger v d)
@[simp] theorem trigger_heads (v : Nat) (d : Dev) : (trigger v d).heads = d.heads := hostSide_heads (hostSide_trigger v d)
@[simp] theorem trigger_hbm (v : Nat) (d : Dev) : (trigger v d).hbm = d.hbm := hostSide_hbm (hostSide_trigger v d)
@[simp] theorem trigger_media (v : Nat) (d : Dev) : (trigger v d).media = d.media := hostSide_media (hostSide_trigger v d)
@[simp] theorem trigger_recs (v : Nat) (d : Dev) : (trigger v d).recs = d.recs := hostSide_recs (hostSide_trigger v d)
@[simp] theorem trigger_reads (v : Nat) (d : Dev) : (trigger v d).reads = d.reads := hostSide_reads (hostSide_trigger v d)
@[simp] theorem trigger_nets (v : Nat) (d : Dev) : (trigger v d).nets = d.nets := hostSide_nets (hostSide_trigger v d)
@[simp] theorem trigger_flows (v : Nat) (d : Dev) : (trigger v d).flows = d.flows := hostSide_flows (hostSide_trigger v d)
@[simp] theorem trigger_ptp (v : Nat) (d : Dev) : (trigger v d).ptp = d.ptp := hostSide_ptp (hostSide_trigger v d)
@[simp] theorem trigger_auds (v : Nat) (d : Dev) : (trigger v d).auds = d.auds := hostSide_auds (hostSide_trigger v d)
@[simp] theorem trigger_auss (v : Nat) (d : Dev) : (trigger v d).auss = d.auss := hostSide_auss (hostSide_trigger v d)
@[simp] theorem trigger_integ (v : Nat) (d : Dev) : (trigger v d).integ = d.integ := hostSide_integ (hostSide_trigger v d)
@[simp] theorem trigger_tu (v : Nat) (d : Dev) : (trigger v d).tu = d.tu := hostSide_tu (hostSide_trigger v d)
@[simp] theorem trigger_axes (v : Nat) (d : Dev) : (trigger v d).axes = d.axes := hostSide_axes (hostSide_trigger v d)
@[simp] theorem trigger_axrec (v : Nat) (d : Dev) : (trigger v d).axrec = d.axrec := hostSide_axrec (hostSide_trigger v d)
@[simp] theorem trigger_safe (v : Nat) (d : Dev) : (trigger v d).safe = d.safe := hostSide_safe (hostSide_trigger v d)
@[simp] theorem trigger_cores (v : Nat) (d : Dev) : (trigger v d).cores = d.cores := hostSide_cores (hostSide_trigger v d)
@[simp] theorem trigger_free (v : Nat) (d : Dev) : (trigger v d).free = d.free := hostSide_free (hostSide_trigger v d)
@[simp] theorem notify_ident (v : Nat) (d : Dev) : (notify v d).ident = d.ident := hostSide_ident (hostSide_notify v d)
@[simp] theorem notify_pwr (v : Nat) (d : Dev) : (notify v d).pwr = d.pwr := hostSide_pwr (hostSide_notify v d)
@[simp] theorem notify_thm (v : Nat) (d : Dev) : (notify v d).thm = d.thm := hostSide_thm (hostSide_notify v d)
@[simp] theorem notify_sec (v : Nat) (d : Dev) : (notify v d).sec = d.sec := hostSide_sec (hostSide_notify v d)
@[simp] theorem notify_boot (v : Nat) (d : Dev) : (notify v d).boot = d.boot := hostSide_boot (hostSide_notify v d)
@[simp] theorem notify_mirror (v : Nat) (d : Dev) : (notify v d).mirror = d.mirror := hostSide_mirror (hostSide_notify v d)
@[simp] theorem notify_lanes (v : Nat) (d : Dev) : (notify v d).lanes = d.lanes := hostSide_lanes (hostSide_notify v d)
@[simp] theorem notify_links (v : Nat) (d : Dev) : (notify v d).links = d.links := hostSide_links (hostSide_notify v d)
@[simp] theorem notify_ports (v : Nat) (d : Dev) : (notify v d).ports = d.ports := hostSide_ports (hostSide_notify v d)
@[simp] theorem notify_grps (v : Nat) (d : Dev) : (notify v d).grps = d.grps := hostSide_grps (hostSide_notify v d)
@[simp] theorem notify_isles (v : Nat) (d : Dev) : (notify v d).isles = d.isles := hostSide_isles (hostSide_notify v d)
@[simp] theorem notify_holm (v : Nat) (d : Dev) : (notify v d).holm = d.holm := hostSide_holm (hostSide_notify v d)
@[simp] theorem notify_enc (v : Nat) (d : Dev) : (notify v d).enc = d.enc := hostSide_enc (hostSide_notify v d)
@[simp] theorem notify_ladders (v : Nat) (d : Dev) : (notify v d).ladders = d.ladders := hostSide_ladders (hostSide_notify v d)
@[simp] theorem notify_encReset (v : Nat) (d : Dev) : (notify v d).encReset = d.encReset := hostSide_encReset (hostSide_notify v d)
@[simp] theorem notify_dec (v : Nat) (d : Dev) : (notify v d).dec = d.dec := hostSide_dec (hostSide_notify v d)
@[simp] theorem notify_heads (v : Nat) (d : Dev) : (notify v d).heads = d.heads := hostSide_heads (hostSide_notify v d)
@[simp] theorem notify_hbm (v : Nat) (d : Dev) : (notify v d).hbm = d.hbm := hostSide_hbm (hostSide_notify v d)
@[simp] theorem notify_media (v : Nat) (d : Dev) : (notify v d).media = d.media := hostSide_media (hostSide_notify v d)
@[simp] theorem notify_recs (v : Nat) (d : Dev) : (notify v d).recs = d.recs := hostSide_recs (hostSide_notify v d)
@[simp] theorem notify_reads (v : Nat) (d : Dev) : (notify v d).reads = d.reads := hostSide_reads (hostSide_notify v d)
@[simp] theorem notify_nets (v : Nat) (d : Dev) : (notify v d).nets = d.nets := hostSide_nets (hostSide_notify v d)
@[simp] theorem notify_flows (v : Nat) (d : Dev) : (notify v d).flows = d.flows := hostSide_flows (hostSide_notify v d)
@[simp] theorem notify_ptp (v : Nat) (d : Dev) : (notify v d).ptp = d.ptp := hostSide_ptp (hostSide_notify v d)
@[simp] theorem notify_auds (v : Nat) (d : Dev) : (notify v d).auds = d.auds := hostSide_auds (hostSide_notify v d)
@[simp] theorem notify_auss (v : Nat) (d : Dev) : (notify v d).auss = d.auss := hostSide_auss (hostSide_notify v d)
@[simp] theorem notify_integ (v : Nat) (d : Dev) : (notify v d).integ = d.integ := hostSide_integ (hostSide_notify v d)
@[simp] theorem notify_tu (v : Nat) (d : Dev) : (notify v d).tu = d.tu := hostSide_tu (hostSide_notify v d)
@[simp] theorem notify_axes (v : Nat) (d : Dev) : (notify v d).axes = d.axes := hostSide_axes (hostSide_notify v d)
@[simp] theorem notify_axrec (v : Nat) (d : Dev) : (notify v d).axrec = d.axrec := hostSide_axrec (hostSide_notify v d)
@[simp] theorem notify_safe (v : Nat) (d : Dev) : (notify v d).safe = d.safe := hostSide_safe (hostSide_notify v d)
@[simp] theorem notify_cores (v : Nat) (d : Dev) : (notify v d).cores = d.cores := hostSide_cores (hostSide_notify v d)
@[simp] theorem notify_free (v : Nat) (d : Dev) : (notify v d).free = d.free := hostSide_free (hostSide_notify v d)
@[simp] theorem complete_ident (c : Outst) (st res ext fb : Nat) (d : Dev) : (complete c st res ext fb d).ident = d.ident := hostSide_ident (hostSide_complete c st res ext fb d)
@[simp] theorem complete_pwr (c : Outst) (st res ext fb : Nat) (d : Dev) : (complete c st res ext fb d).pwr = d.pwr := hostSide_pwr (hostSide_complete c st res ext fb d)
@[simp] theorem complete_thm (c : Outst) (st res ext fb : Nat) (d : Dev) : (complete c st res ext fb d).thm = d.thm := hostSide_thm (hostSide_complete c st res ext fb d)
@[simp] theorem complete_sec (c : Outst) (st res ext fb : Nat) (d : Dev) : (complete c st res ext fb d).sec = d.sec := hostSide_sec (hostSide_complete c st res ext fb d)
@[simp] theorem complete_boot (c : Outst) (st res ext fb : Nat) (d : Dev) : (complete c st res ext fb d).boot = d.boot := hostSide_boot (hostSide_complete c st res ext fb d)
@[simp] theorem complete_mirror (c : Outst) (st res ext fb : Nat) (d : Dev) : (complete c st res ext fb d).mirror = d.mirror := hostSide_mirror (hostSide_complete c st res ext fb d)
@[simp] theorem complete_lanes (c : Outst) (st res ext fb : Nat) (d : Dev) : (complete c st res ext fb d).lanes = d.lanes := hostSide_lanes (hostSide_complete c st res ext fb d)
@[simp] theorem complete_links (c : Outst) (st res ext fb : Nat) (d : Dev) : (complete c st res ext fb d).links = d.links := hostSide_links (hostSide_complete c st res ext fb d)
@[simp] theorem complete_ports (c : Outst) (st res ext fb : Nat) (d : Dev) : (complete c st res ext fb d).ports = d.ports := hostSide_ports (hostSide_complete c st res ext fb d)
@[simp] theorem complete_grps (c : Outst) (st res ext fb : Nat) (d : Dev) : (complete c st res ext fb d).grps = d.grps := hostSide_grps (hostSide_complete c st res ext fb d)
@[simp] theorem complete_isles (c : Outst) (st res ext fb : Nat) (d : Dev) : (complete c st res ext fb d).isles = d.isles := hostSide_isles (hostSide_complete c st res ext fb d)
@[simp] theorem complete_holm (c : Outst) (st res ext fb : Nat) (d : Dev) : (complete c st res ext fb d).holm = d.holm := hostSide_holm (hostSide_complete c st res ext fb d)
@[simp] theorem complete_enc (c : Outst) (st res ext fb : Nat) (d : Dev) : (complete c st res ext fb d).enc = d.enc := hostSide_enc (hostSide_complete c st res ext fb d)
@[simp] theorem complete_ladders (c : Outst) (st res ext fb : Nat) (d : Dev) : (complete c st res ext fb d).ladders = d.ladders := hostSide_ladders (hostSide_complete c st res ext fb d)
@[simp] theorem complete_encReset (c : Outst) (st res ext fb : Nat) (d : Dev) : (complete c st res ext fb d).encReset = d.encReset := hostSide_encReset (hostSide_complete c st res ext fb d)
@[simp] theorem complete_dec (c : Outst) (st res ext fb : Nat) (d : Dev) : (complete c st res ext fb d).dec = d.dec := hostSide_dec (hostSide_complete c st res ext fb d)
@[simp] theorem complete_heads (c : Outst) (st res ext fb : Nat) (d : Dev) : (complete c st res ext fb d).heads = d.heads := hostSide_heads (hostSide_complete c st res ext fb d)
@[simp] theorem complete_hbm (c : Outst) (st res ext fb : Nat) (d : Dev) : (complete c st res ext fb d).hbm = d.hbm := hostSide_hbm (hostSide_complete c st res ext fb d)
@[simp] theorem complete_media (c : Outst) (st res ext fb : Nat) (d : Dev) : (complete c st res ext fb d).media = d.media := hostSide_media (hostSide_complete c st res ext fb d)
@[simp] theorem complete_recs (c : Outst) (st res ext fb : Nat) (d : Dev) : (complete c st res ext fb d).recs = d.recs := hostSide_recs (hostSide_complete c st res ext fb d)
@[simp] theorem complete_reads (c : Outst) (st res ext fb : Nat) (d : Dev) : (complete c st res ext fb d).reads = d.reads := hostSide_reads (hostSide_complete c st res ext fb d)
@[simp] theorem complete_nets (c : Outst) (st res ext fb : Nat) (d : Dev) : (complete c st res ext fb d).nets = d.nets := hostSide_nets (hostSide_complete c st res ext fb d)
@[simp] theorem complete_flows (c : Outst) (st res ext fb : Nat) (d : Dev) : (complete c st res ext fb d).flows = d.flows := hostSide_flows (hostSide_complete c st res ext fb d)
@[simp] theorem complete_ptp (c : Outst) (st res ext fb : Nat) (d : Dev) : (complete c st res ext fb d).ptp = d.ptp := hostSide_ptp (hostSide_complete c st res ext fb d)
@[simp] theorem complete_auds (c : Outst) (st res ext fb : Nat) (d : Dev) : (complete c st res ext fb d).auds = d.auds := hostSide_auds (hostSide_complete c st res ext fb d)
@[simp] theorem complete_auss (c : Outst) (st res ext fb : Nat) (d : Dev) : (complete c st res ext fb d).auss = d.auss := hostSide_auss (hostSide_complete c st res ext fb d)
@[simp] theorem complete_integ (c : Outst) (st res ext fb : Nat) (d : Dev) : (complete c st res ext fb d).integ = d.integ := hostSide_integ (hostSide_complete c st res ext fb d)
@[simp] theorem complete_tu (c : Outst) (st res ext fb : Nat) (d : Dev) : (complete c st res ext fb d).tu = d.tu := hostSide_tu (hostSide_complete c st res ext fb d)
@[simp] theorem complete_axes (c : Outst) (st res ext fb : Nat) (d : Dev) : (complete c st res ext fb d).axes = d.axes := hostSide_axes (hostSide_complete c st res ext fb d)
@[simp] theorem complete_axrec (c : Outst) (st res ext fb : Nat) (d : Dev) : (complete c st res ext fb d).axrec = d.axrec := hostSide_axrec (hostSide_complete c st res ext fb d)
@[simp] theorem complete_safe (c : Outst) (st res ext fb : Nat) (d : Dev) : (complete c st res ext fb d).safe = d.safe := hostSide_safe (hostSide_complete c st res ext fb d)
@[simp] theorem complete_cores (c : Outst) (st res ext fb : Nat) (d : Dev) : (complete c st res ext fb d).cores = d.cores := hostSide_cores (hostSide_complete c st res ext fb d)
@[simp] theorem complete_free (c : Outst) (st res ext fb : Nat) (d : Dev) : (complete c st res ext fb d).free = d.free := hostSide_free (hostSide_complete c st res ext fb d)
@[simp] theorem completeTag_ident (t : Option Nat) (st res ext : Nat) (d : Dev) : (completeTag t st res ext d).ident = d.ident := hostSide_ident (hostSide_completeTag t st res ext d)
@[simp] theorem completeTag_pwr (t : Option Nat) (st res ext : Nat) (d : Dev) : (completeTag t st res ext d).pwr = d.pwr := hostSide_pwr (hostSide_completeTag t st res ext d)
@[simp] theorem completeTag_thm (t : Option Nat) (st res ext : Nat) (d : Dev) : (completeTag t st res ext d).thm = d.thm := hostSide_thm (hostSide_completeTag t st res ext d)
@[simp] theorem completeTag_sec (t : Option Nat) (st res ext : Nat) (d : Dev) : (completeTag t st res ext d).sec = d.sec := hostSide_sec (hostSide_completeTag t st res ext d)
@[simp] theorem completeTag_boot (t : Option Nat) (st res ext : Nat) (d : Dev) : (completeTag t st res ext d).boot = d.boot := hostSide_boot (hostSide_completeTag t st res ext d)
@[simp] theorem completeTag_mirror (t : Option Nat) (st res ext : Nat) (d : Dev) : (completeTag t st res ext d).mirror = d.mirror := hostSide_mirror (hostSide_completeTag t st res ext d)
@[simp] theorem completeTag_lanes (t : Option Nat) (st res ext : Nat) (d : Dev) : (completeTag t st res ext d).lanes = d.lanes := hostSide_lanes (hostSide_completeTag t st res ext d)
@[simp] theorem completeTag_links (t : Option Nat) (st res ext : Nat) (d : Dev) : (completeTag t st res ext d).links = d.links := hostSide_links (hostSide_completeTag t st res ext d)
@[simp] theorem completeTag_ports (t : Option Nat) (st res ext : Nat) (d : Dev) : (completeTag t st res ext d).ports = d.ports := hostSide_ports (hostSide_completeTag t st res ext d)
@[simp] theorem completeTag_grps (t : Option Nat) (st res ext : Nat) (d : Dev) : (completeTag t st res ext d).grps = d.grps := hostSide_grps (hostSide_completeTag t st res ext d)
@[simp] theorem completeTag_isles (t : Option Nat) (st res ext : Nat) (d : Dev) : (completeTag t st res ext d).isles = d.isles := hostSide_isles (hostSide_completeTag t st res ext d)
@[simp] theorem completeTag_holm (t : Option Nat) (st res ext : Nat) (d : Dev) : (completeTag t st res ext d).holm = d.holm := hostSide_holm (hostSide_completeTag t st res ext d)
@[simp] theorem completeTag_enc (t : Option Nat) (st res ext : Nat) (d : Dev) : (completeTag t st res ext d).enc = d.enc := hostSide_enc (hostSide_completeTag t st res ext d)
@[simp] theorem completeTag_ladders (t : Option Nat) (st res ext : Nat) (d : Dev) : (completeTag t st res ext d).ladders = d.ladders := hostSide_ladders (hostSide_completeTag t st res ext d)
@[simp] theorem completeTag_encReset (t : Option Nat) (st res ext : Nat) (d : Dev) : (completeTag t st res ext d).encReset = d.encReset := hostSide_encReset (hostSide_completeTag t st res ext d)
@[simp] theorem completeTag_dec (t : Option Nat) (st res ext : Nat) (d : Dev) : (completeTag t st res ext d).dec = d.dec := hostSide_dec (hostSide_completeTag t st res ext d)
@[simp] theorem completeTag_heads (t : Option Nat) (st res ext : Nat) (d : Dev) : (completeTag t st res ext d).heads = d.heads := hostSide_heads (hostSide_completeTag t st res ext d)
@[simp] theorem completeTag_hbm (t : Option Nat) (st res ext : Nat) (d : Dev) : (completeTag t st res ext d).hbm = d.hbm := hostSide_hbm (hostSide_completeTag t st res ext d)
@[simp] theorem completeTag_media (t : Option Nat) (st res ext : Nat) (d : Dev) : (completeTag t st res ext d).media = d.media := hostSide_media (hostSide_completeTag t st res ext d)
@[simp] theorem completeTag_recs (t : Option Nat) (st res ext : Nat) (d : Dev) : (completeTag t st res ext d).recs = d.recs := hostSide_recs (hostSide_completeTag t st res ext d)
@[simp] theorem completeTag_reads (t : Option Nat) (st res ext : Nat) (d : Dev) : (completeTag t st res ext d).reads = d.reads := hostSide_reads (hostSide_completeTag t st res ext d)
@[simp] theorem completeTag_nets (t : Option Nat) (st res ext : Nat) (d : Dev) : (completeTag t st res ext d).nets = d.nets := hostSide_nets (hostSide_completeTag t st res ext d)
@[simp] theorem completeTag_flows (t : Option Nat) (st res ext : Nat) (d : Dev) : (completeTag t st res ext d).flows = d.flows := hostSide_flows (hostSide_completeTag t st res ext d)
@[simp] theorem completeTag_ptp (t : Option Nat) (st res ext : Nat) (d : Dev) : (completeTag t st res ext d).ptp = d.ptp := hostSide_ptp (hostSide_completeTag t st res ext d)
@[simp] theorem completeTag_auds (t : Option Nat) (st res ext : Nat) (d : Dev) : (completeTag t st res ext d).auds = d.auds := hostSide_auds (hostSide_completeTag t st res ext d)
@[simp] theorem completeTag_auss (t : Option Nat) (st res ext : Nat) (d : Dev) : (completeTag t st res ext d).auss = d.auss := hostSide_auss (hostSide_completeTag t st res ext d)
@[simp] theorem completeTag_integ (t : Option Nat) (st res ext : Nat) (d : Dev) : (completeTag t st res ext d).integ = d.integ := hostSide_integ (hostSide_completeTag t st res ext d)
@[simp] theorem completeTag_tu (t : Option Nat) (st res ext : Nat) (d : Dev) : (completeTag t st res ext d).tu = d.tu := hostSide_tu (hostSide_completeTag t st res ext d)
@[simp] theorem completeTag_axes (t : Option Nat) (st res ext : Nat) (d : Dev) : (completeTag t st res ext d).axes = d.axes := hostSide_axes (hostSide_completeTag t st res ext d)
@[simp] theorem completeTag_axrec (t : Option Nat) (st res ext : Nat) (d : Dev) : (completeTag t st res ext d).axrec = d.axrec := hostSide_axrec (hostSide_completeTag t st res ext d)
@[simp] theorem completeTag_safe (t : Option Nat) (st res ext : Nat) (d : Dev) : (completeTag t st res ext d).safe = d.safe := hostSide_safe (hostSide_completeTag t st res ext d)
@[simp] theorem completeTag_cores (t : Option Nat) (st res ext : Nat) (d : Dev) : (completeTag t st res ext d).cores = d.cores := hostSide_cores (hostSide_completeTag t st res ext d)
@[simp] theorem completeTag_free (t : Option Nat) (st res ext : Nat) (d : Dev) : (completeTag t st res ext d).free = d.free := hostSide_free (hostSide_completeTag t st res ext d)
@[simp] theorem writeData_ident (c : Outst) (l : List Byte) (d : Dev) : (writeData c l d).ident = d.ident := hostSide_ident (hostSide_writeData c l d)
@[simp] theorem writeData_pwr (c : Outst) (l : List Byte) (d : Dev) : (writeData c l d).pwr = d.pwr := hostSide_pwr (hostSide_writeData c l d)
@[simp] theorem writeData_thm (c : Outst) (l : List Byte) (d : Dev) : (writeData c l d).thm = d.thm := hostSide_thm (hostSide_writeData c l d)
@[simp] theorem writeData_sec (c : Outst) (l : List Byte) (d : Dev) : (writeData c l d).sec = d.sec := hostSide_sec (hostSide_writeData c l d)
@[simp] theorem writeData_boot (c : Outst) (l : List Byte) (d : Dev) : (writeData c l d).boot = d.boot := hostSide_boot (hostSide_writeData c l d)
@[simp] theorem writeData_mirror (c : Outst) (l : List Byte) (d : Dev) : (writeData c l d).mirror = d.mirror := hostSide_mirror (hostSide_writeData c l d)
@[simp] theorem writeData_lanes (c : Outst) (l : List Byte) (d : Dev) : (writeData c l d).lanes = d.lanes := hostSide_lanes (hostSide_writeData c l d)
@[simp] theorem writeData_links (c : Outst) (l : List Byte) (d : Dev) : (writeData c l d).links = d.links := hostSide_links (hostSide_writeData c l d)
@[simp] theorem writeData_ports (c : Outst) (l : List Byte) (d : Dev) : (writeData c l d).ports = d.ports := hostSide_ports (hostSide_writeData c l d)
@[simp] theorem writeData_grps (c : Outst) (l : List Byte) (d : Dev) : (writeData c l d).grps = d.grps := hostSide_grps (hostSide_writeData c l d)
@[simp] theorem writeData_isles (c : Outst) (l : List Byte) (d : Dev) : (writeData c l d).isles = d.isles := hostSide_isles (hostSide_writeData c l d)
@[simp] theorem writeData_holm (c : Outst) (l : List Byte) (d : Dev) : (writeData c l d).holm = d.holm := hostSide_holm (hostSide_writeData c l d)
@[simp] theorem writeData_enc (c : Outst) (l : List Byte) (d : Dev) : (writeData c l d).enc = d.enc := hostSide_enc (hostSide_writeData c l d)
@[simp] theorem writeData_ladders (c : Outst) (l : List Byte) (d : Dev) : (writeData c l d).ladders = d.ladders := hostSide_ladders (hostSide_writeData c l d)
@[simp] theorem writeData_encReset (c : Outst) (l : List Byte) (d : Dev) : (writeData c l d).encReset = d.encReset := hostSide_encReset (hostSide_writeData c l d)
@[simp] theorem writeData_dec (c : Outst) (l : List Byte) (d : Dev) : (writeData c l d).dec = d.dec := hostSide_dec (hostSide_writeData c l d)
@[simp] theorem writeData_heads (c : Outst) (l : List Byte) (d : Dev) : (writeData c l d).heads = d.heads := hostSide_heads (hostSide_writeData c l d)
@[simp] theorem writeData_hbm (c : Outst) (l : List Byte) (d : Dev) : (writeData c l d).hbm = d.hbm := hostSide_hbm (hostSide_writeData c l d)
@[simp] theorem writeData_media (c : Outst) (l : List Byte) (d : Dev) : (writeData c l d).media = d.media := hostSide_media (hostSide_writeData c l d)
@[simp] theorem writeData_recs (c : Outst) (l : List Byte) (d : Dev) : (writeData c l d).recs = d.recs := hostSide_recs (hostSide_writeData c l d)
@[simp] theorem writeData_reads (c : Outst) (l : List Byte) (d : Dev) : (writeData c l d).reads = d.reads := hostSide_reads (hostSide_writeData c l d)
@[simp] theorem writeData_nets (c : Outst) (l : List Byte) (d : Dev) : (writeData c l d).nets = d.nets := hostSide_nets (hostSide_writeData c l d)
@[simp] theorem writeData_flows (c : Outst) (l : List Byte) (d : Dev) : (writeData c l d).flows = d.flows := hostSide_flows (hostSide_writeData c l d)
@[simp] theorem writeData_ptp (c : Outst) (l : List Byte) (d : Dev) : (writeData c l d).ptp = d.ptp := hostSide_ptp (hostSide_writeData c l d)
@[simp] theorem writeData_auds (c : Outst) (l : List Byte) (d : Dev) : (writeData c l d).auds = d.auds := hostSide_auds (hostSide_writeData c l d)
@[simp] theorem writeData_auss (c : Outst) (l : List Byte) (d : Dev) : (writeData c l d).auss = d.auss := hostSide_auss (hostSide_writeData c l d)
@[simp] theorem writeData_integ (c : Outst) (l : List Byte) (d : Dev) : (writeData c l d).integ = d.integ := hostSide_integ (hostSide_writeData c l d)
@[simp] theorem writeData_tu (c : Outst) (l : List Byte) (d : Dev) : (writeData c l d).tu = d.tu := hostSide_tu (hostSide_writeData c l d)
@[simp] theorem writeData_axes (c : Outst) (l : List Byte) (d : Dev) : (writeData c l d).axes = d.axes := hostSide_axes (hostSide_writeData c l d)
@[simp] theorem writeData_axrec (c : Outst) (l : List Byte) (d : Dev) : (writeData c l d).axrec = d.axrec := hostSide_axrec (hostSide_writeData c l d)
@[simp] theorem writeData_safe (c : Outst) (l : List Byte) (d : Dev) : (writeData c l d).safe = d.safe := hostSide_safe (hostSide_writeData c l d)
@[simp] theorem writeData_cores (c : Outst) (l : List Byte) (d : Dev) : (writeData c l d).cores = d.cores := hostSide_cores (hostSide_writeData c l d)
@[simp] theorem writeData_free (c : Outst) (l : List Byte) (d : Dev) : (writeData c l d).free = d.free := hostSide_free (hostSide_writeData c l d)
@[simp] theorem raise_ident (k c h x : Nat) (d : Dev) : (raise k c h x d).ident = d.ident := hostSide_ident (hostSide_raise k c h x d)
@[simp] theorem raise_pwr (k c h x : Nat) (d : Dev) : (raise k c h x d).pwr = d.pwr := hostSide_pwr (hostSide_raise k c h x d)
@[simp] theorem raise_thm (k c h x : Nat) (d : Dev) : (raise k c h x d).thm = d.thm := hostSide_thm (hostSide_raise k c h x d)
@[simp] theorem raise_sec (k c h x : Nat) (d : Dev) : (raise k c h x d).sec = d.sec := hostSide_sec (hostSide_raise k c h x d)
@[simp] theorem raise_boot (k c h x : Nat) (d : Dev) : (raise k c h x d).boot = d.boot := hostSide_boot (hostSide_raise k c h x d)
@[simp] theorem raise_mirror (k c h x : Nat) (d : Dev) : (raise k c h x d).mirror = d.mirror := hostSide_mirror (hostSide_raise k c h x d)
@[simp] theorem raise_lanes (k c h x : Nat) (d : Dev) : (raise k c h x d).lanes = d.lanes := hostSide_lanes (hostSide_raise k c h x d)
@[simp] theorem raise_links (k c h x : Nat) (d : Dev) : (raise k c h x d).links = d.links := hostSide_links (hostSide_raise k c h x d)
@[simp] theorem raise_ports (k c h x : Nat) (d : Dev) : (raise k c h x d).ports = d.ports := hostSide_ports (hostSide_raise k c h x d)
@[simp] theorem raise_grps (k c h x : Nat) (d : Dev) : (raise k c h x d).grps = d.grps := hostSide_grps (hostSide_raise k c h x d)
@[simp] theorem raise_isles (k c h x : Nat) (d : Dev) : (raise k c h x d).isles = d.isles := hostSide_isles (hostSide_raise k c h x d)
@[simp] theorem raise_holm (k c h x : Nat) (d : Dev) : (raise k c h x d).holm = d.holm := hostSide_holm (hostSide_raise k c h x d)
@[simp] theorem raise_enc (k c h x : Nat) (d : Dev) : (raise k c h x d).enc = d.enc := hostSide_enc (hostSide_raise k c h x d)
@[simp] theorem raise_ladders (k c h x : Nat) (d : Dev) : (raise k c h x d).ladders = d.ladders := hostSide_ladders (hostSide_raise k c h x d)
@[simp] theorem raise_encReset (k c h x : Nat) (d : Dev) : (raise k c h x d).encReset = d.encReset := hostSide_encReset (hostSide_raise k c h x d)
@[simp] theorem raise_dec (k c h x : Nat) (d : Dev) : (raise k c h x d).dec = d.dec := hostSide_dec (hostSide_raise k c h x d)
@[simp] theorem raise_heads (k c h x : Nat) (d : Dev) : (raise k c h x d).heads = d.heads := hostSide_heads (hostSide_raise k c h x d)
@[simp] theorem raise_hbm (k c h x : Nat) (d : Dev) : (raise k c h x d).hbm = d.hbm := hostSide_hbm (hostSide_raise k c h x d)
@[simp] theorem raise_media (k c h x : Nat) (d : Dev) : (raise k c h x d).media = d.media := hostSide_media (hostSide_raise k c h x d)
@[simp] theorem raise_recs (k c h x : Nat) (d : Dev) : (raise k c h x d).recs = d.recs := hostSide_recs (hostSide_raise k c h x d)
@[simp] theorem raise_reads (k c h x : Nat) (d : Dev) : (raise k c h x d).reads = d.reads := hostSide_reads (hostSide_raise k c h x d)
@[simp] theorem raise_nets (k c h x : Nat) (d : Dev) : (raise k c h x d).nets = d.nets := hostSide_nets (hostSide_raise k c h x d)
@[simp] theorem raise_flows (k c h x : Nat) (d : Dev) : (raise k c h x d).flows = d.flows := hostSide_flows (hostSide_raise k c h x d)
@[simp] theorem raise_ptp (k c h x : Nat) (d : Dev) : (raise k c h x d).ptp = d.ptp := hostSide_ptp (hostSide_raise k c h x d)
@[simp] theorem raise_auds (k c h x : Nat) (d : Dev) : (raise k c h x d).auds = d.auds := hostSide_auds (hostSide_raise k c h x d)
@[simp] theorem raise_auss (k c h x : Nat) (d : Dev) : (raise k c h x d).auss = d.auss := hostSide_auss (hostSide_raise k c h x d)
@[simp] theorem raise_integ (k c h x : Nat) (d : Dev) : (raise k c h x d).integ = d.integ := hostSide_integ (hostSide_raise k c h x d)
@[simp] theorem raise_tu (k c h x : Nat) (d : Dev) : (raise k c h x d).tu = d.tu := hostSide_tu (hostSide_raise k c h x d)
@[simp] theorem raise_axes (k c h x : Nat) (d : Dev) : (raise k c h x d).axes = d.axes := hostSide_axes (hostSide_raise k c h x d)
@[simp] theorem raise_axrec (k c h x : Nat) (d : Dev) : (raise k c h x d).axrec = d.axrec := hostSide_axrec (hostSide_raise k c h x d)
@[simp] theorem raise_safe (k c h x : Nat) (d : Dev) : (raise k c h x d).safe = d.safe := hostSide_safe (hostSide_raise k c h x d)
@[simp] theorem raise_cores (k c h x : Nat) (d : Dev) : (raise k c h x d).cores = d.cores := hostSide_cores (hostSide_raise k c h x d)
@[simp] theorem raise_free (k c h x : Nat) (d : Dev) : (raise k c h x d).free = d.free := hostSide_free (hostSide_raise k c h x d)
@[simp] theorem returnResv_ident (o : Nat) (d : Dev) : (returnResv o d).ident = d.ident := hostSide_ident (hostSide_returnResv o d)
@[simp] theorem returnResv_pwr (o : Nat) (d : Dev) : (returnResv o d).pwr = d.pwr := hostSide_pwr (hostSide_returnResv o d)
@[simp] theorem returnResv_thm (o : Nat) (d : Dev) : (returnResv o d).thm = d.thm := hostSide_thm (hostSide_returnResv o d)
@[simp] theorem returnResv_sec (o : Nat) (d : Dev) : (returnResv o d).sec = d.sec := hostSide_sec (hostSide_returnResv o d)
@[simp] theorem returnResv_boot (o : Nat) (d : Dev) : (returnResv o d).boot = d.boot := hostSide_boot (hostSide_returnResv o d)
@[simp] theorem returnResv_mirror (o : Nat) (d : Dev) : (returnResv o d).mirror = d.mirror := hostSide_mirror (hostSide_returnResv o d)
@[simp] theorem returnResv_lanes (o : Nat) (d : Dev) : (returnResv o d).lanes = d.lanes := hostSide_lanes (hostSide_returnResv o d)
@[simp] theorem returnResv_links (o : Nat) (d : Dev) : (returnResv o d).links = d.links := hostSide_links (hostSide_returnResv o d)
@[simp] theorem returnResv_ports (o : Nat) (d : Dev) : (returnResv o d).ports = d.ports := hostSide_ports (hostSide_returnResv o d)
@[simp] theorem returnResv_grps (o : Nat) (d : Dev) : (returnResv o d).grps = d.grps := hostSide_grps (hostSide_returnResv o d)
@[simp] theorem returnResv_isles (o : Nat) (d : Dev) : (returnResv o d).isles = d.isles := hostSide_isles (hostSide_returnResv o d)
@[simp] theorem returnResv_holm (o : Nat) (d : Dev) : (returnResv o d).holm = d.holm := hostSide_holm (hostSide_returnResv o d)
@[simp] theorem returnResv_enc (o : Nat) (d : Dev) : (returnResv o d).enc = d.enc := hostSide_enc (hostSide_returnResv o d)
@[simp] theorem returnResv_ladders (o : Nat) (d : Dev) : (returnResv o d).ladders = d.ladders := hostSide_ladders (hostSide_returnResv o d)
@[simp] theorem returnResv_encReset (o : Nat) (d : Dev) : (returnResv o d).encReset = d.encReset := hostSide_encReset (hostSide_returnResv o d)
@[simp] theorem returnResv_dec (o : Nat) (d : Dev) : (returnResv o d).dec = d.dec := hostSide_dec (hostSide_returnResv o d)
@[simp] theorem returnResv_heads (o : Nat) (d : Dev) : (returnResv o d).heads = d.heads := hostSide_heads (hostSide_returnResv o d)
@[simp] theorem returnResv_hbm (o : Nat) (d : Dev) : (returnResv o d).hbm = d.hbm := hostSide_hbm (hostSide_returnResv o d)
@[simp] theorem returnResv_media (o : Nat) (d : Dev) : (returnResv o d).media = d.media := hostSide_media (hostSide_returnResv o d)
@[simp] theorem returnResv_recs (o : Nat) (d : Dev) : (returnResv o d).recs = d.recs := hostSide_recs (hostSide_returnResv o d)
@[simp] theorem returnResv_reads (o : Nat) (d : Dev) : (returnResv o d).reads = d.reads := hostSide_reads (hostSide_returnResv o d)
@[simp] theorem returnResv_nets (o : Nat) (d : Dev) : (returnResv o d).nets = d.nets := hostSide_nets (hostSide_returnResv o d)
@[simp] theorem returnResv_flows (o : Nat) (d : Dev) : (returnResv o d).flows = d.flows := hostSide_flows (hostSide_returnResv o d)
@[simp] theorem returnResv_ptp (o : Nat) (d : Dev) : (returnResv o d).ptp = d.ptp := hostSide_ptp (hostSide_returnResv o d)
@[simp] theorem returnResv_auds (o : Nat) (d : Dev) : (returnResv o d).auds = d.auds := hostSide_auds (hostSide_returnResv o d)
@[simp] theorem returnResv_auss (o : Nat) (d : Dev) : (returnResv o d).auss = d.auss := hostSide_auss (hostSide_returnResv o d)
@[simp] theorem returnResv_integ (o : Nat) (d : Dev) : (returnResv o d).integ = d.integ := hostSide_integ (hostSide_returnResv o d)
@[simp] theorem returnResv_tu (o : Nat) (d : Dev) : (returnResv o d).tu = d.tu := hostSide_tu (hostSide_returnResv o d)
@[simp] theorem returnResv_axes (o : Nat) (d : Dev) : (returnResv o d).axes = d.axes := hostSide_axes (hostSide_returnResv o d)
@[simp] theorem returnResv_axrec (o : Nat) (d : Dev) : (returnResv o d).axrec = d.axrec := hostSide_axrec (hostSide_returnResv o d)
@[simp] theorem returnResv_safe (o : Nat) (d : Dev) : (returnResv o d).safe = d.safe := hostSide_safe (hostSide_returnResv o d)
@[simp] theorem returnResv_cores (o : Nat) (d : Dev) : (returnResv o d).cores = d.cores := hostSide_cores (hostSide_returnResv o d)
@[simp] theorem returnResv_free (o : Nat) (d : Dev) : (returnResv o d).free = d.free := hostSide_free (hostSide_returnResv o d)

end Sys2Proof.Machine
end

