-- ==== Sys2Proof/Laws/HostRow.lean ====
section
/-!
SUPPORT. Laws/HostRow.lean: a host command that begins its step: which command it is, and that its row answers with its body.
-/
namespace Sys2Proof.Machine

theorem begins_find {sp : CmdSpec} {t : Nat} {s : State} {c : Outst} (h : Begins sp t s c) : findOutst s.dev t = some c := by
  have hs := h.1
  unfold startable at hs
  revert hs
  split
  · intro h; cases h
  · rename_i x hx
    dsimp only
    split
    · intro h; cases h; exact hx
    · intro h; cases h

theorem begins_tag {sp : CmdSpec} {t : Nat} {s : State} {c : Outst} (h : Begins sp t s c) : c.tag = t := by
  have := List.find?_some (begins_find h)
  simpa using this

/-- The row of a command that begins applies the answer of its body. -/
theorem hostRow_begins {sp : CmdSpec} {t : Nat} {s : State} {c : Outst} {body : Outst → Dev → Ans} (h : Begins sp t s c) :
    hostRow sp t body s.dev = applyAns c (body c s.dev) s.dev := by
  unfold hostRow
  rw [h.1]
  simp [h.2]

theorem applyAns_done (c : Outst) (d d' : Dev) (st res ext : Nat) :
    applyAns c (.done d' st res ext) d = complete c st res ext 0xFF d' := rfl
theorem applyAns_fail (c : Outst) (d : Dev) (st fb ext : Nat) : applyAns c (.fail st fb ext) d = complete c st 0 ext fb d := rfl
theorem applyAns_stay (c : Outst) (d d' : Dev) (ph : Phase) : applyAns c (.stay d' ph) d = setPhase c.tag ph d' := rfl

/-- A row without a command to begin does nothing. -/
theorem hostRow_idle {sp : CmdSpec} {t : Nat} {d : Dev} {body : Outst → Dev → Ans} (h : startable sp.op t d = none) :
    hostRow sp t body d = d := by
  unfold hostRow
  rw [h]

end Sys2Proof.Machine
end

