-- ==== Sys2Proof/Laws/Memory.lean ====
section
/-!
SUPPORT. Laws/Memory.lean: byte memories: every operation keeps the canonical form, a read after a write of the same byte gives
what was written, every other byte reads as before, and a register write keeps the form of every memory.
-/
namespace Sys2Proof.Machine

theorem cellsAbove_mono {n k : Nat} {m : List Host.Cell} (h : n ≤ k) (w : cellsAbove k m = true) : cellsAbove n m = true := by
  cases m with
  | nil => rfl
  | cons x l =>
    obtain ⟨a, b⟩ := x
    simp only [cellsAbove, Bool.and_eq_true, decide_eq_true_eq] at w ⊢
    exact ⟨⟨Nat.le_trans h w.1.1, w.1.2⟩, w.2⟩

theorem memWrite_above {n a : Nat} {v : Byte} {m : List Host.Cell} (h : n ≤ a) (w : cellsAbove n m = true) :
    cellsAbove n (memWrite m a v) = true := by
  induction m generalizing n with
  | nil =>
    unfold memWrite
    split
    · rfl
    · rename_i hv; simp [cellsAbove, h, hv]
  | cons x l ih =>
    obtain ⟨k, b⟩ := x
    simp only [cellsAbove, Bool.and_eq_true, decide_eq_true_eq] at w
    unfold memWrite
    split
    · rename_i hk
      split
      · simp [cellsAbove, w.1.1, w.1.2, w.2]
      · rename_i hv
        simp only [cellsAbove, Bool.and_eq_true, decide_eq_true_eq]
        exact ⟨⟨h, by simp [hv]⟩, ⟨hk, w.1.2⟩, w.2⟩
    · split
      · rename_i _ hk
        subst hk
        split
        · exact cellsAbove_mono (by omega) w.2
        · rename_i hv; simp [cellsAbove, h, hv, w.2]
      · simp only [cellsAbove, Bool.and_eq_true, decide_eq_true_eq]
        exact ⟨⟨w.1.1, w.1.2⟩, ih (by omega) w.2⟩

/-- A write keeps the canonical form. -/
theorem memWrite_wf {m : List Host.Cell} (a : Nat) (v : Byte) (w : cellsWf m = true) : cellsWf (memWrite m a v) = true :=
  memWrite_above (Nat.zero_le a) w

theorem memWriteBytes_wf {m : List Host.Cell} (a : Nat) (l : List Byte) (w : cellsWf m = true) :
    cellsWf (memWriteBytes m a l) = true := by
  induction l generalizing m a with
  | nil => exact w
  | cons v l ih => exact ih _ (memWrite_wf a v w)

theorem memRead_below {n a : Nat} {m : List Host.Cell} (h : a < n) (w : cellsAbove n m = true) : memRead m a = emptyByte := by
  induction m generalizing n with
  | nil => rfl
  | cons x l ih =>
    obtain ⟨k, b⟩ := x
    simp only [cellsAbove, Bool.and_eq_true, decide_eq_true_eq] at w
    unfold memRead
    rw [if_neg (by omega)]
    exact ih (by omega) w.2

theorem memRead_write_above {n : Nat} (a : Nat) (v : Byte) {m : List Host.Cell} (w : cellsAbove n m = true) :
    memRead (memWrite m a v) a = v := by
  induction m generalizing n with
  | nil =>
    unfold memWrite
    split
    · rename_i hv; simp [memRead, hv]
    · simp [memRead]
  | cons x l ih =>
    obtain ⟨k, b⟩ := x
    simp only [cellsAbove, Bool.and_eq_true, decide_eq_true_eq] at w
    unfold memWrite
    split
    · rename_i hk
      split
      · rename_i hv
        unfold memRead
        rw [if_neg (by omega), memRead_below (Nat.lt_succ_of_lt hk) w.2, hv]
      · simp [memRead]
    · split
      · rename_i _ hk
        subst hk
        split
        · rename_i hv; rw [memRead_below (Nat.lt_succ_self a) w.2, hv]
        · simp [memRead]
      · rename_i h1 h2
        unfold memRead
        rw [if_neg h2]
        exact ih w.2

/-- A byte reads as it was written. -/
theorem memRead_write {m : List Host.Cell} (a : Nat) (v : Byte) (w : cellsWf m = true) : memRead (memWrite m a v) a = v :=
  memRead_write_above a v w

/-- A write leaves every other byte. -/
theorem memRead_write_ne {a b : Nat} (v : Byte) (m : List Host.Cell) (h : b ≠ a) : memRead (memWrite m a v) b = memRead m b := by
  induction m with
  | nil =>
    unfold memWrite
    split
    · rfl
    · simp [memRead, h]
  | cons x l ih =>
    obtain ⟨k, c⟩ := x
    unfold memWrite
    split
    · split
      · rfl
      · simp [memRead, h]
    · split
      · rename_i _ hk
        subst hk
        split <;> simp [memRead, h]
      · simp [memRead, ih]

/-- Bytes of the boot's image in a core's memory. -/
theorem loadTcm_wf (img : List Byte) (c : CoreId) {m : Mem} (w : m.wf = true) : (loadTcm img c m).wf = true := by
  simp only [Mem.wf, Bool.and_eq_true] at w
  unfold loadTcm
  dsimp only
  split <;> simp [Mem.wf, w, memWriteBytes_wf (m := []) _ _ rfl]

theorem mem_empty_wf : ({} : Mem).wf = true := rfl
theorem reset_mem_wf : State.reset.mem.wf = true := rfl

/-- A store by a customer core keeps the canonical form of every memory. -/
theorem coreStore_wf (c : CoreId) (addr size : Nat) (v : Dword) {s : State} (w : s.mem.wf = true) :
    (coreStore c addr size v s).mem.wf = true := by
  have h := w
  simp only [Mem.wf, Bool.and_eq_true] at h
  unfold coreStore
  dsimp only
  split
  · exact w
  · split
    · exact w
    · split
      · split <;> simp [Mem.wf, h, memWriteBytes_wf]
      · split
        · split <;> simp [Mem.wf, State.mapDev, h, memWriteBytes_wf]
        · exact w

/-- REGISTER_WRITE keeps the canonical form of every memory. -/
theorem registerWrite_wf (r : RegAccess) {s : State} (w : s.mem.wf = true) : (registerWrite r s).mem.wf = true := by
  unfold registerWrite
  split
  · exact w
  · exact w
  · exact coreStore_wf _ _ _ _ w
  · exact coreStore_wf _ _ _ _ w
  · exact w

end Sys2Proof.Machine
end

