-- ==== Sys2Proof/Machine/Reads.lean ====
section
/-!
DEFINITION. Machine/Reads.lean: what a read of a register returns (00 R8): by the host from BAR0 (02 R39), and by a customer
core from its map (19 R481, with the registers of 14 R369, 17 R456 and 19 R486-R490). A read that also changes something (CLAIM,
SPURIOUS, COUNT, ERR_CNT, POSITION, IN_W1, TIME_NS) has a row of its own; here is the value it returns. No other read changes
anything, and the table has no row for it.
-/
namespace Sys2Proof.Machine

/-! BAR0 (02 R39-R42). -/

/-- HSTS (02 R39). -/
def hsts (d : Dev) : Nat :=
  b2n d.host.ready + b2n d.host.fatal * 2 + b2n d.host.activating * 4 + b2n d.host.cfgErr * 8 + d.sec.life % 4 * 2 ^ 8 +
    b2n (debugGranted d) * 2 ^ 10 + d.sec.level % 4 * 2 ^ 11 + d.pwr.state % 8 * 2 ^ 13

/-- BOOT_STATUS (02 R40). -/
def bootStatus (d : Dev) : Nat := d.boot.cause % 16 + d.boot.stop % 16 * 2 ^ 4 + b2n d.boot.trip * 2 ^ 8 + d.thm.trips % 2 ^ 16 * 2 ^ 16

/-- The first two dwords of the mirror (02 R41). -/
def mirrorSafe (m : Mirror) : Nat :=
  b2n m.safeOk + b2n m.safeState * 2 + b2n m.safeIn * 4 + b2n m.stoOut * 8 + m.lastFault.toNat * 2 ^ 8 +
    m.faultCount.toNat * 2 ^ 16
def mirrorHeat (m : Mirror) : Nat := m.tj.toNat + m.thmState % 4 * 2 ^ 16 + m.hotSensor % 32 * 2 ^ 18

/-- A dword of the MSI-X table (02 R42). -/
def msixRead32 (p : Pcie) (off : Nat) : Nat :=
  let e := (tabGet p.msix (off / 16)).getD {}
  match off % 16 with
  | 0 => e.addr.toNat % 2 ^ 32
  | 4 => e.addr.toNat / 2 ^ 32
  | 8 => e.data.toNat
  | _ => e.ctrl.toNat

/-- A dword of the pending-bit array (02 R42). -/
def pbaRead32 (p : Pcie) (off : Nat) : Nat :=
  (List.range 32).foldl (fun n i => n + b2n (p.pba.contains (8 * off + i)) * 2 ^ i) 0

/-- An aligned dword of BAR0: doorbells are write-only, reserved fields and offsets not listed read 0 (00 R8; 02 R39). -/
def bar0Read32 (d : Dev) (a : Nat) : Nat :=
  let half (v k : Nat) : Nat := v / 2 ^ (32 * k) % 2 ^ 32
  match a with
  | 0x00 => half (hid d) 0
  | 0x04 => half (hid d) 1
  | 0x08 => half d.host.hver.toNat 0
  | 0x0C => half d.host.hver.toNat 1
  | 0x10 => b2n d.host.enable
  | 0x14 => hsts d
  | 0x20 => half d.host.asqBase.toNat 0
  | 0x24 => half d.host.asqBase.toNat 1
  | 0x28 => half d.host.acqBase.toNat 0
  | 0x2C => half d.host.acqBase.toNat 1
  | 0x30 => d.host.sizes.toNat
  | 0x40 => bootStatus d
  | 0x100 => mirrorSafe d.mirror
  | 0x104 => mirrorHeat d.mirror
  | 0x108 => d.mirror.seq.toNat
  | _ =>
    if 0x20000 ≤ a && decide (a < 0x28000) then msixRead32 d.pcie (a - 0x20000)
    else if 0x28000 ≤ a && decide (a < 0x28100) then pbaRead32 d.pcie (a - 0x28000)
    else 0

/-- The host reads BAR0 while the function answers: from boot stage 2 on, a stopped boot included (22 R536, R538). -/
def bar0Reads (d : Dev) : Bool := functionOn d && d.pcie.up && decide (2 ≤ d.boot.stage)

/-- A host read of BAR0: naturally aligned 32 or 64 bits; any other completes with 0 (02 R39). -/
def bar0Read (d : Dev) (a size : Nat) : Nat :=
  if !bar0Reads d then 0
  else if size = 4 && a % 4 = 0 then bar0Read32 d a
  else if size = 8 && a % 8 = 0 then bar0Read32 d a + bar0Read32 d (a + 4) * 2 ^ 32
  else 0

/-! The customer-core map (19 R481). -/

/-- Bits of the IDs in a range of 32 that a property holds for. -/
def idBits (base : Nat) (p : Nat → Bool) : Nat := (List.range 32).foldl (fun n i => n + b2n (p (base + i)) * 2 ^ i) 0

/-- TARGET as an ID's word shows it (19 R488): 0 for a private ID. -/
def idTarget (d : Dev) (id : Nat) : Nat :=
  if id < 32 then 0 else if id ≤ 39 then axisOwner d (axisIdx (id - 32)) else d.cores.target.getD (id - 32) 0

/-- An IRQ_ register (19 R486). -/
def irqRead (d : Dev) (c : CoreId) (off : Nat) : Option Nat :=
  match off with
  | 0x00 => some (irqNext d c)
  | 0x04 => some 0
  | 0x08 => some (core d c).pmr
  | 0x0C => some (core d c).gsplit
  | 0x10 => some (irqRunning d c + irqNext d c * 2 ^ 8)
  | 0x14 => some (core d c).spurious
  | 0x18 => some 0
  | 0x20 => some (idBits 0 fun i => i != 0 && irqPending d c i)
  | 0x24 => some (idBits 32 (irqPending d c))
  | 0x28 => some (idBits 0 (core d c).active.contains)
  | 0x2C => some (idBits 32 (core d c).active.contains)
  | 0x30 => some ((core d c).enable % 2 ^ 32 / 2 * 2)
  | 0x34 => some ((core d c).enable / 2 ^ 32)
  | _ =>
    if 0x104 ≤ off && off ≤ 0x1FC && off % 4 = 0 then
      let id := (off - 0x100) / 4
      some (irqPrio d c id + b2n (isSource id && !isLevel id) * 2 ^ 8 + idTarget d id * 2 ^ 9)
    else none

/-- POS_STATUS of an axis (17 R456). -/
def posStatus (x : Axis) : Nat :=
  b2n x.valid + b2n x.dir * 2 + b2n x.rehome * 4 + axisFlags x + b2n x.fault * 2 ^ 12 + x.cause % 16 * 2 ^ 16

/-- A POS_ register with its width in bytes: 64-bit positions carry copies of bit 47 above it (17 R456). -/
def posRead (d : Dev) (c : CoreId) (off : Nat) : Option (Nat × Nat) :=
  if off = 0x200 then
    some (4, b2n d.safe.pathA + b2n d.safe.pathB * 2 + b2n d.safe.por * 4 +
      ((List.finRange 8).foldl (fun n a => n + b2n (axisOf d a).on * 2 ^ a.val) 0) * 2 ^ 8)
  else if 0x200 ≤ off then none
  else
    let a := axisIdx (off / 0x40)
    let x := axisOf d a
    let snap := (core d c).snaps[a]
    match off % 0x40 with
    | 0x00 => some (8, unsigned 64 x.pos)
    | 0x08 => some (4, snap.stamp)
    | 0x0C => some (4, unsigned 32 snap.speed)
    | 0x10 => some (8, unsigned 64 x.idxPos)
    | 0x18 => some (4, x.idxNs)
    | 0x1C => some (4, posStatus x)
    | 0x20 => some (4, x.irqEn)
    | 0x24 => some (4, x.a2)
    | 0x28 => some (4, x.driftE)
    | 0x2C => some (4, x.errCnt + x.driftCnt * 2 ^ 16)
    | 0x30 => some (8, 0)
    | _ => none

/-- A PWM_ register (17 R456). -/
def pwmRead (d : Dev) (off : Nat) : Option Nat :=
  if off = 0x100 then some (b2n (!d.safe.held) + b2n d.safe.held * 2)
  else if 0x100 ≤ off then none
  else
    let a := axisIdx (off / 0x20)
    let x := axisOf d a
    match off % 0x20 with
    | 0x00 => some (unsigned 16 x.cmd)
    | 0x04 => some (b2n x.arm + b2n x.brk * 2 + b2n (driving d a) * 2 ^ 8 + b2n (brakeOn d a) * 2 ^ 9 +
        b2n d.safe.held * 2 ^ 10 + b2n x.timeout * 2 ^ 11)
    | 0x08 => some (unsigned 16 (if driving d a then x.applied else 0))
    | 0x0C => some (pwmTicks x.cfg % 2 ^ 20)
    | _ => none

/-- A register of the time readout with its width (14 R369). -/
def timeRead (d : Dev) (c : CoreId) (off : Nat) : Option (Nat × Nat) :=
  match off with
  | 0x00 => some (4, d.tu.ns % 1000000000)
  | 0x08 => some (8, (core d c).tsnap.1)
  | 0x10 => some (4, ns32 d)
  | 0x14 => some (4, (core d c).tsnap.2.2)
  | 0x18 => some (8, d.tu.addend)
  | 0x20 => some (4, d.ptp.state % 8 + le d.ptp.cfg 13 1 % 4 * 2 ^ 4 + d.tu.steps % 2 ^ 16 * 2 ^ 16)
  | _ => none

/-- An MBX_ register with its width (19 R490). -/
def mbxRead (d : Dev) (c : CoreId) (off : Nat) : Option (Nat × Nat) :=
  let k := core d c
  match off with
  | 0x00 => some (8, 0)
  | 0x08 => some (8, 0)
  | 0x10 => some (8, (k.inq.head?.map fun m => m.w0.toNat).getD 0)
  | 0x18 => some (8, (k.inq.head?.map fun m => m.w1.toNat).getD 0)
  | 0x20 => some (4, (16 - k.outq.length) + k.inq.length * 2 ^ 8 + b2n k.outOvf * 2 ^ 16 + b2n d.cores.paused * 2 ^ 17)
  | _ => none

/-- A TMR_ register (19 R489). -/
def tmrRead (d : Dev) (c : CoreId) (off : Nat) : Option Nat :=
  if 0x80 ≤ off then none
  else
    let t := (core d c).tmr.getD (off / 0x20) {}
    match off % 0x20 with
    | 0x00 => some (b2n t.en + b2n t.periodic * 2 + b2n t.fired * 2 ^ 8 + b2n t.step * 2 ^ 9 + b2n t.overrun * 2 ^ 10)
    | 0x04 => some t.deadline
    | 0x08 => some t.period
    | 0x0C => some t.count
    | _ => none

/-- What a load of a customer core from a register block returns: none where it has no register of that width there. -/
def coreRegRead (d : Dev) (c : CoreId) (addr size : Nat) : Option Nat :=
  let off := addr % 0x1000
  let sized (x : Option (Nat × Nat)) : Option Nat := (x.filter fun p => p.1 == size).map (·.2)
  let words (x : Option Nat) : Option Nat := if size = 4 then x else none
  match addr / 0x1000 with
  | 0x40000 => words (irqRead d c off)
  | 0x40010 => sized (posRead d c off)
  | 0x40020 => words (pwmRead d off)
  | 0x40030 => sized (timeRead d c off)
  | 0x40040 => sized (mbxRead d c off)
  | 0x40050 => words (tmrRead d c off)
  | _ => none

/-- What a load of a customer core returns; none is an access fault, whose load returns 0 (01 R20; 19 R481). -/
def coreRead (s : State) (c : CoreId) (addr size : Nat) : Option Nat :=
  let bytes (m : List Host.Cell) (a : Nat) : Nat := leNat ((List.range size).map fun i => memRead m (a + i))
  if !(size = 1 || size = 2 || size = 4 || size = 8) then none
  else if addr + size ≤ 0x80000 then some (bytes (if c = 0 then s.mem.tcm0 else s.mem.tcm1) addr)
  else if 0x10000000 ≤ addr && addr + size ≤ 0x10400000 then
    some (bytes (if c = 0 then s.mem.win0 else s.mem.win1) (addr - 0x10000000))
  else coreRegRead s.dev c addr size

/-- The value a load returns to the core. -/
def coreLoadValue (s : State) (c : CoreId) (addr size : Nat) : Nat := (coreRead s c addr size).getD 0

end Sys2Proof.Machine
end

