-- ==== Sys2Proof/WellFormed.lean ====
section
/-!
DEFINITION. WellFormed.lean: the ranges of a command's operands: what the table's rows can name. A meaning is total all
the same: a command outside its range changes nothing or acts on what it can reach.
-/
namespace Sys2Proof

/-- Lanes of the host link (02 R36). -/
def linkWidthOk (w : Nat) : Bool := w == 1 || w == 2 || w == 4 || w == 8 || w == 16

/-- Bytes of a register access (02 R39; 19 R481). -/
def accessSizeOk (n : Nat) : Bool := n == 1 || n == 2 || n == 4 || n == 8

/-- Figures of merit of the lanes of a port, 8 bits each (03 R98). -/
def fomsOk (l : List Nat) : Bool := decide (l.length ≤ 8) && l.all fun x => decide (x < 256)

/-- The symbols of one block at either modulation (03 R79). -/
def blkOk (b : Blk) : Bool :=
  (b.length == 132 && b.all fun x => decide (x < 2)) || (b.length == 66 && b.all fun x => decide (x < 4))

/-- One block time of a port of at most eight lanes (03 R81). -/
def timeOk (t : BlkTime) : Bool := decide (t.length ≤ 8) && t.all blkOk

/-- A command whose operands lie in their ranges. -/
def wellFormed (i : Instr) : Bool :=
  match i with
  | .hostLinkL0Entry rate width => decide (1 ≤ rate) && decide (rate ≤ 7) && linkWidthOk width
  | .l0pWidthChange width => linkWidthOk width
  | .sqTailDoorbell qp _ => decide (qp < 4096)
  | .cqHeadDoorbell qp _ => decide (qp < 4096)
  | .msixVectorUnmask vec => decide (vec < 2048)
  | .registerWrite w => decide (w.master ≤ 3) && accessSizeOk w.size
  | .intCoalesceTimeout qp => decide (qp < 4096)
  | .trainBlockRx _ lanes => decide (lanes.length ≤ 8) && lanes.all (·.all blkOk)
  | .adaptationDone _ foms => fomsOk foms
  | .presetAck _ time foms => timeOk time && fomsOk foms
  | .commaBlockRx _ lanes => decide (lanes.length ≤ 8) && lanes.all fun l => blkOk l.blk
  | .laneLockLoss _ lane _ => decide (lane < 8)
  | .fomMeasure _ fom => decide (fom < 256)
  | .sleepBlockRx _ times | .smiwaldHunt _ times | .fsPacket _ times | .fePacket _ times | .linePacket _ times
  | .embeddedPacket _ times | .ctrlRespPacket _ times | .unknownTypePacket _ times => times.all timeOk
  | .hbmRefresh pc bank => decide (pc < 64) && decide (bank < 48)
  | .hbmTraining pc _ => decide (pc < 64)
  | .lagoonRepair off _ => decide (off < 201326592)
  | .bankPressureInterval waits longest => decide (waits.length ≤ 64) && decide (longest.length ≤ 64)
  | .ptpSyncRx m egress | .ptpDelayReqRx m egress => m.mac.ok && egress.ok
  | .ptpSyncTx _ stamp | .ptpDelayReqTx _ stamp => stamp.ok
  | .dpLinkTrained _ _ lanes => lanes == 0 || lanes == 1 || lanes == 2 || lanes == 4
  | .axisFault _ cause => decide (1 ≤ cause) && decide (cause ≤ 7)
  | .proofTestDone passed => decide (passed < 128)
  | .irqTargetWrite _ id _ => decide (1 ≤ id) && decide (id < 64)
  | .sensorSample readings => readings.length == 24
  | .debugPortHalt core => decide (core < 8)
  | .debugPortResume core => decide (core < 8)
  | .powerOn | .rstN | .pllLoss | .supplyReset | .debugResetRequest | .aonSupplyLoss | .bootStageDone _
  | .adminReady | .adminNotReady | .controllerEnable | .controllerDisable | .functionLevelReset | .hotReset
  | .hostLinkDown | .busMasterEnableWrite _ | .pmD3hotEntry | .pmD0Return | .commandFetch _ | .identify _
  | .qpCreate _ | .qpDelete _ | .qpReset _ | .featureSetArbitration _ | .featureSetIntCoalesce _
  | .featureSetEventConfig _ | .featureSetQpClass _ | .featureSetMemory _ | .coreLinkVector _ | .coreLinkPost _
  | .coreLinkRestart _ | .coreLinkStop _ | .featureGet _ | .logGet _ | .abort _ | .flush _ | .flushDone _
  | .eventArm _ | .mirrorUpdate | .linkDiagStatus _ | .linkDiagCounters _ | .linkDiagEyeScan _
  | .linkDiagCounterClear _ | .eyeScanDone _ _ | .trainReqTimer _ | .retrainTimer _ | .noResponseTimeout _
  | .failRetry _ | .presetAckTimeout _ | .alignTimeout _ | .wakeTimeout _ _ | .bcSleepTimer _
  | .laneRecalTimer _ | .portConfig _ | .groupConfig _ | .captureStart _ | .captureStop _ | .captureStopDone _
  | .frameTrigger _ _ | .genlockInEdge _ _ | .genlockTimeout _ | .genlockStartTimeout _
  | .lineTimeout _ | .fsDeadline _ | .sensorCtrlWrite _ | .sensorCtrlRead _ | .sensorCtrlTiming _
  | .sensorCtrlCounters _ | .sensorNoResponse _ _ | .frameFetch _ | .frameFetchDone _ | .tileRowStart _
  | .isleFrameStart _ _ | .commandDeferTimeout _ | .isleConfig _ | .feTableLoad _ | .statsSubscribeStart _
  | .statsSubscribeStop _ | .statsRecord _ _ | .blendGridUpdate _ _ | .cfaKernelLoad _ | .colourLoadParams _
  | .colourLoadBlendGrid _ | .colourLoadLook _ | .colourLoadTapOutput _ | .lookSelect _ | .tapConfigEnable _
  | .tapConfigDisable _ | .tapRingFrameDone _ _ | .encOpen _ | .encReconfig _ | .encForce _ | .encClose _
  | .encCloseDone _ | .encPictureDone _ _ _ | .encRowDone _ _ | .motionFieldDone _ _ _ | .encParityError _
  | .encPictureTimeout _ | .encRowTimeout _ | .encEngineResetDone _ | .holmOpen _ | .holmClose _
  | .holmCloseDone _ | .holmRowDone _ _ | .holmAuDone _ | .holmParityError _ | .holmRowTimeout _ | .decOpen _
  | .decSubmit _ | .decClose _ | .decPictureDone _ _ | .decPicturePresent _ | .decParityError _
  | .decPictureTimeout _ | .katExpectedReady _ _ | .katCompare _ _ _ | .scrubRead _ | .lagoonScrub _
  | .mediumInserted _ | .mediumInitDone _ _ | .mediumRemoved _ | .mediaLinkDown _ _ | .mediaAttachAttach _
  | .mediaAttachDetach _ | .mediaAttachInfo _ | .nvmeShutdownDone _ _ | .recOpen _ | .recExtents _ | .recCommit _
  | .recClose _ | .recItemReady _ _ | .nvmeWriteDone _ _ _ _ | .nvmeFlushDone _ _ _ | .nvmeTimeout _ _
  | .commitTimer _ | .recCommitTimeout _ | .mediaReadBlocks _ | .mediaReadItems _ | .nvmeReadDone _ _
  | .netConfig _ | .netLinkChange _ _ _ | .firmwareProtocolRx _ _ _ | .chainForward _ _ | .ptpConfig _
  | .ptpFollowUpRx _ | .ptpDelayRespRx _ | .ptpAnnounceRx _
  | .ptpManagementRx _ | .ptpAnnounceTx _ | .syncHoldoverTimeout _
  | .timeGetRead _ | .timeGetSet _ | .timeGetStatus _ | .flowOpen _ | .flowClose _ | .flowFrameTx _ _
  | .audioPacketTx _ _ _ | .rxFlowPacket _ _ | .ltcInFrame _ _ | .ltcInLost | .ltcOutFrame _
  | .headConfigEnable _ | .headConfigDisable _ | .headCommit _ | .commitCopyDone _ | .headFrameSelect _ _
  | .headFrameStart _ | .sourceGap _ | .dpHpd _ | .audConfigEnable _ | .audConfigDisable _ | .audEnableDone _
  | .audNoClockTimeout _ | .audDisableDone _ | .audClockLoss _ | .audClockRestored _ | .audStreamOpen _
  | .audStreamClose _ | .audStreamMask _ | .audStreamStatus _ | .audPeriodDone _ _ | .audPlaybackRead _ _
  | .axisConfigEnable _ | .axisConfigDisable _ | .axisConfigTimeout _ | .axisGridSample _ _
  | .encoderReadDone _ _ | .axisIndex _ _ | .axisFaultClear _ | .latchInstantRx _ _ | .latchResolve _
  | .skerryLinkFrame _ | .computeLinkFrame _ _ | .linkPathChange _ _ | .posSnapshotLoad _ _
  | .posPresetWrite _ _ _ | .posErrCntRead _ _ | .pwmCmdWrite _ _ _ | .pwmArmWrite _ _ _ | .brakeRelWrite _ _ _
  | .pwmPeriodStart _ | .pwmCmdTimeout _ | .skerryPor | .safeInDemand | .heartbeatLoss | .configMismatch
  | .lockstep | .siWatchdog | .siMemory | .siSelftest | .clockCompute | .clockSkerry | .supply
  | .skerryInternal | .outputReadback _ | .safetyConfigLoad _ | .safetyConfigReset _ | .safetyConfigForce _
  | .safetyConfigProofTest _ | .safetyStatus _ | .irqClaim _ | .irqComplete _ _ | .irqSpuriousRead _
  | .sgiWrite _ _ | .tmrExpiry _ _ | .tmrCountRead _ _ | .timeSnapshotLoad _ | .mbxOutPush _ _ | .mbxInPop _
  | .mbxOutTake _ | .customerAccessFault _ _ _ | .fwDownload _ | .fwCommitWrite _ | .fwCommitWriteAndSelect _
  | .fwCommitSelectOnly _ | .fwCommitCustomer _ | .fwCommitKeys _ | .flashWriteDone _ _ | .fwActivate _
  | .activationStop | .activationHoldTimeout | .activationSwitch _ | .engineWatchdog _ | .attestEvidence _
  | .attestCerts _ | .debugTokenChallenge _ | .debugTokenUnlock _ | .debugTokenRelock _
  | .debugTokenTransition _ | .powerStateRun _ | .powerStateReduced _ | .powerStateShoal _ | .powerStateReef _
  | .reefWake | .reefWakeEvent _ | .sensorFault _ _ | .shedStep | .thermalTrip _ _ | .thermalConfig _
  | .telemetrySnapshot _ | .telemetrySubscribe _ | .telemetryUnsubscribe _ | .telemetryRecord | .safeInRelease
  | .audFirstFsync _ _ | .ioQueuesCreated _ | .flowCloseDone _ | .activationVerifyFailed => true

end Sys2Proof
end

