-- ==== Sys2Proof/Tests/Slice0.lean ====
section
/-!
SUPPORT. Tests/Slice0.lean: the smoke tests of WellFormed, the spec's worked examples, and for each statement of
Certificates/Slice0/Obligations.lean concrete states and operands that meet the hypotheses of its clauses together.
-/
set_option maxRecDepth 4000
set_option Elab.async false


namespace Sys2Proof.Machine.Tests

/-! States for the tests. -/

/-- A submission entry with an opcode, a handle, command dwords and data. -/
def sqe (handle body : Nat) (data : List Byte := []) : Sqe where
  opcode := 0
  flags := 0
  cid := 7
  handle := BitVec.ofNat 32 handle
  metaPtr := 0
  bdlPtr := 0
  dataLen := BitVec.ofNat 32 data.length
  bdlCount := 0
  rsvd := 0
  body := BitVec.ofNat 256 body
  data := data
  bdl := [(0, BitVec.ofNat 32 data.length, 0)]
  metaData := []
  ringBytes := 0

/-- A field of the command dwords: its byte offset in the entry and its value. -/
def fb (off v : Nat) : Nat := v * 2 ^ (8 * (off - 32))

/-- A value at a byte offset of a structure. -/
def at' (off v : Nat) : Nat := v * 2 ^ (8 * off)
/-- A buffer of zeros. -/
def buf (n : Nat) : List Byte := List.replicate n 0

/-- Command 0, fetched from QP1 and not begun. -/
def cmd (op : HostOp) (e : Sqe) : Outst := { tag := 0, qp := 1, op, e, phase := .fetched }

/-- A device that has booted, with delivery on and QP0 and QP1. -/
def dev0 : Dev :=
  { ident := { b24 := false, fwHbmMib := 0, fwLagoonKib := 0 }
    boot := { stage := 8 }
    host := { enable := true, ready := true, qps := [(0, { cls := 0 }), (1, { cls := 1, aggCount := 3, aggTime := 5, since := 1 })] }
    pcie := { up := true, bme := true, rate := 6, width := 8, funcMask := false, msix := [(0, { ctrl := 0 })] } }

/-- A state in which a command is outstanding and may begin. -/
def run (op : HostOp) (e : Sqe) (d : Dev := dev0) : State :=
  { dev := { d with host := { d.host with outst := [cmd op e], nextTag := 1 } } }

/-- A command begins as the first command outstanding. -/
abbrev bg (sp : CmdSpec) (e : Sqe) (d : Dev := dev0) : Prop := Begins sp 0 (run sp.op e d) (cmd sp.op e)

/-- A state of a device. -/
def at0 (d : Dev) : State := { dev := d }

/-- A state at rest. -/
theorem test_idle : (at0 dev0).pending = [] ∧ (at0 dev0).dev.hbm.queue = [] ∧ (at0 dev0).dev.flows = [] ∧
    ∀ n, (net (at0 dev0).dev n).txq = [] := by decide

/-! 00, 10, 11: the queue, resets and the host interface. -/

theorem test_empty_queue : (at0 dev0).pending = [] ∧ dev0.tu.held = false := by decide +kernel
theorem test_resets : dieRuns dev0 = true ∧ dev0.pwr.state ≠ 3 ∧ dev0.pwr.heldReset = false ∧
    { dev0.sec with level := 2 }.level = 2 := by decide +kernel

def hostOff (sizes : Word) (acq : Dword) : Dev :=
  { dev0 with host := { sizes, acqBase := acq, asqBase := 0x1000 } }
theorem test_enable : bar0Live (hostOff 0x10001 0x2000) = true ∧ adminValid (hostOff 0x10001 0x2000) = true ∧
    adminValid (hostOff 0 0x2000) = false ∧ (hostOff 0 0).host.enable = false ∧ (hostOff 0 0).host.activating = false := by
  decide +kernel
theorem test_ready_disable : dev0.host.enable = true ∧ bar0Live dev0 = true ∧ dev0.host.cfgErr = false ∧
    dev0.host.fatal = false ∧ dev0.host.restart = false := by decide +kernel
theorem test_function_resets : functionOn dev0 = true ∧ dev0.pcie.up = true ∧ dev0.pwr.waits = [] := by decide +kernel
def held1 : Dev := { dev0 with pcie := { dev0.pcie with bme := false } }
theorem test_delivery : dev0.pcie.d3hot = false ∧ delivering held1 = false ∧ held1.host.enable = true ∧
    delivering dev0 = true ∧ 6 ≤ dev0.pcie.rate := by decide +kernel
def qpDev : Dev :=
  { dev0 with host := { dev0.host with qps := [(1, { sqSize := 8, cqSize := 8, cqTail := 5, unrel := 5 })] } }
theorem test_doorbells : ∃ p, getQp qpDev 1 = some p ∧ 7 < p.sqSize ∧
    (p.sqTail + p.sqSize - p.sqHead) % p.sqSize + (7 + p.sqSize - p.sqTail) % p.sqSize < p.sqSize ∧
    (5 + p.cqSize - p.cqHead) % p.cqSize ≤ p.unrel ∧ p.unrel < (6 + p.cqSize - p.cqHead) % p.cqSize ∧
    p.sqSize ≤ 8 ∧ bitOf qpDev.evt.mask 12 = true ∧ oldestArm qpDev = none := ⟨_, rfl, by decide +kernel⟩
def qpWait : Dev :=
  { dev0 with host := { dev0.host with qps := [(0, { cls := 0, sqTail := 1, sqSize := 4, cqSize := 4 })] } }
theorem test_fetch : canFetch qpWait = true ∧ stalled qpWait = false ∧
    nextEligible qpWait 0 (lastOf qpWait.host 0) = some 0 ∧ holding qpWait = false ∧ pairOutst qpWait 0 = [] ∧
    (routeIn qpWait 0 { sqe 0 0 with opcode := 1 }).toOption = some .identify ∧ (pick qpWait).isSome = true := by decide +kernel
def qpOrd : Dev := { qpWait with host := { qpWait.host with outst := [{ cmd .flush (sqe 0 0) with qp := 0 }] } }
theorem test_fetch_ordered : canFetch qpOrd = true ∧ stalled qpOrd = false ∧
    nextEligible qpOrd 0 (lastOf qpOrd.host 0) = some 0 ∧ ordered { sqe 0 0 with flags := 1 } = true ∧
    pairOutst qpOrd 0 ≠ [] ∧ delivering held1 = false ∧ (pick dev0).isNone = true ∧ stalled dev0 = false := by decide +kernel
theorem test_interrupts : (∃ p, getQp dev0 1 = some p ∧ p.aggTime ≠ 0 ∧ p.since ≠ 0 ∧ p.since < p.aggCount ∧
    vecMasked dev0 p.vector = false) ∧ vecMasked dev0 5 = true ∧ dev0.pcie.funcMask = false ∧
    5 ∈ { dev0.pcie with pba := [5] }.pba := ⟨⟨_, rfl, by decide +kernel⟩, by decide +kernel⟩
def armed (n : Nat) : Dev :=
  { dev0 with host := { dev0.host with outst := (List.range n).map fun k => { cmd .eventArm (sqe 0 0) with tag := k + 1, phase := .waiting } } }
theorem test_events : bitOf dev0.evt.mask 9 = true ∧ oldestArm dev0 = none ∧ (oldestArm (armed 1)).isSome = true ∧
    bitOf dev0.evt.mask 0 = false ∧ ({} : Evt).queue.length < 63 ∧ (List.replicate 63 (default : Event)).length = 63 := by
  decide +kernel
theorem test_event_arm : Begins specEventArm 0 (run .eventArm (sqe 0 0)) (cmd .eventArm (sqe 0 0)) ∧
    (16 ≤ ((armed 16).host.outst.filter fun o => o.op == .eventArm && o.phase == .waiting).length) := by
  unfold Begins; decide +kernel
def qpBody : Nat := fb 32 0x1000 + fb 40 0x2000 + fb 48 7 + fb 50 7 + fb 52 2 + fb 54 4 + fb 56 1
theorem test_qp_create : Begins specQpCreate 0 (run .qpCreate (sqe 0 qpBody)) (cmd .qpCreate (sqe 0 qpBody)) ∧
    getQp dev0 2 = none ∧ (getQp dev0 1).isSome = true ∧ fld (sqe 0 qpBody) 52 2 = 2 := by unfold Begins; decide +kernel
theorem test_qp_reset : Begins specQpReset 0 (run .qpReset (sqe 0x1000003 0)) (cmd .qpReset (sqe 0x1000003 0)) ∧
    Begins specQpDelete 0 (run .qpDelete (sqe 0x1000FFF 0)) (cmd .qpDelete (sqe 0x1000FFF 0)) ∧
    (sqe 0x1000FFF 0).handle.toNat = 2 ^ 24 + 4095 ∧ Begins specQpReset 0 (run .qpReset (sqe 0x1000000 0)) (cmd .qpReset (sqe 0x1000000 0)) := by
  unfold Begins; decide +kernel
def reef0 : Dev := { dev0 with pwr := { state := 3, wake := 3 } }
theorem test_resets_else : dieRuns reef0 = true ∧ reef0.pwr.state = 3 ∧ dieRuns { dev0 with pwr := { heldReset := true } } = false ∧
    dev0.sec.level ≠ 2 ∧ functionOn reef0 = false ∧ functionOn { dev0 with boot := { stage := 10 } } = true := by decide +kernel
def heldPost : Dev := { held1 with host := { held1.host with held := [.post (.pin 5 1)] } }
theorem test_delivery_resumes : heldPost.pcie.pba = [] ∧ heldPost.host.held = [Out.pin 5 1].map Held.post ∧
    heldPost.pcie.up = true ∧ heldPost.host.enable = true ∧ linkCapacityOf 1 1 < linkHeld { dev0 with evt :=
      { resv := [{ owner := 1, cls := rcHost, unit := 0, cur := 300, nxt := 300 }] } } ∧ dev0.tu.ns < 0 + 5 * 1000 ∧
    0 + 5 * 1000 ≤ { dev0.tu with ns := 5000 }.ns := by decide +kernel
theorem test_qp_missing : Begins specQpReset 0 (run .qpReset (sqe 0x1000009 0)) (cmd .qpReset (sqe 0x1000009 0)) ∧
    Begins specQpDelete 0 (run .qpDelete (sqe 0x1000009 0)) (cmd .qpDelete (sqe 0x1000009 0)) ∧ getQp dev0 9 = none ∧
    Begins specQpDelete 0 (run .qpDelete (sqe 0x1000000 0)) (cmd .qpDelete (sqe 0x1000000 0)) ∧ (getQp dev0 3).isNone = true := by
  unfold Begins; decide +kernel
theorem test_fetch_refused : canFetch qpWait = true ∧ (pick qpWait).map (·.2.1) = some 0 ∧ (getQp qpWait 0).isSome = true ∧
    (match routeIn qpWait 0 (sqe 0 0) with | .error x => x | .ok _ => (0, 0)) = (stInvalidOpcode, 0) ∧
    isLong .logGet = true ∧ holding { qpWait with boot := { stage := 8, act := some { cmd := 9, bank := 1, step := 1, ns := 0 } } } = true := by
  decide +kernel

/-! 02: features, IDENTIFY, LOG_GET, ABORT, FLUSH, the mirror. -/

theorem test_features :
    Begins specFeatureSetArbitration 0 (run .featureSetArbitration (sqe 0 (fb 32 1 + fb 36 0x01020F))) (cmd .featureSetArbitration (sqe 0 (fb 32 1 + fb 36 0x01020F))) ∧
    Begins specFeatureSetEventConfig 0 (run .featureSetEventConfig (sqe 0 (fb 32 3 + fb 36 0x1FFE))) (cmd .featureSetEventConfig (sqe 0 (fb 32 3 + fb 36 0x1FFE))) ∧
    Begins specFeatureSetIntCoalesce 0 (run .featureSetIntCoalesce (sqe 0 (fb 32 2 + fb 36 1 + fb 40 4))) (cmd .featureSetIntCoalesce (sqe 0 (fb 32 2 + fb 36 1 + fb 40 4))) ∧
    Begins specFeatureSetIntCoalesce 0 (run .featureSetIntCoalesce (sqe 0 (fb 32 2 + fb 36 9))) (cmd .featureSetIntCoalesce (sqe 0 (fb 32 2 + fb 36 9))) ∧
    Begins specFeatureSetQpClass 0 (run .featureSetQpClass (sqe 0 (fb 32 4 + fb 36 1 + fb 40 2))) (cmd .featureSetQpClass (sqe 0 (fb 32 4 + fb 36 1 + fb 40 2))) ∧
    Begins specFeatureSetQpClass 0 (run .featureSetQpClass (sqe 0 (fb 32 4 + fb 36 9 + fb 40 2))) (cmd .featureSetQpClass (sqe 0 (fb 32 4 + fb 36 9 + fb 40 2))) ∧
    (getQp dev0 1).isSome = true ∧ getQp dev0 9 = none := by unfold Begins; decide +kernel
theorem test_feature_get :
    Begins (specFeatureGet 1) 0 (run .featureGet (sqe 0 (fb 32 1))) (cmd .featureGet (sqe 0 (fb 32 1))) ∧
    Begins (specFeatureGet 2) 0 (run .featureGet (sqe 0 (fb 32 2 + fb 36 1))) (cmd .featureGet (sqe 0 (fb 32 2 + fb 36 1))) ∧
    Begins (specFeatureGet 3) 0 (run .featureGet (sqe 0 (fb 32 3))) (cmd .featureGet (sqe 0 (fb 32 3))) ∧
    Begins (specFeatureGet 4) 0 (run .featureGet (sqe 0 (fb 32 4 + fb 36 1))) (cmd .featureGet (sqe 0 (fb 32 4 + fb 36 1))) ∧
    fldBits (sqe 0 (fb 32 4 + fb 36 1)) 36 0 12 = 1 := by unfold Begins; decide +kernel
theorem test_identify : Begins specIdentify 0 (run .identify (sqe 0 0 (buf 16))) (cmd .identify (sqe 0 0 (buf 16))) := by
  unfold Begins; decide +kernel
def logAt (off : Nat) : Sqe := sqe 0 (fb 32 1 + fb 36 off) (buf 16)
theorem test_log_get : Begins specLogGet 0 (run .logGet (logAt 0)) (cmd .logGet (logAt 0)) ∧
    Begins specLogGet 0 (run .logGet (logAt 100000)) (cmd .logGet (logAt 100000)) ∧
    ∃ l, logPage (run .logGet (logAt 0)).dev 1 = some l ∧ 0 < l.length ∧ l.length ≤ 100000 := by
  unfold Begins; exact ⟨by decide +kernel, by decide +kernel, _, rfl, by decide +kernel⟩
def abortE : Sqe := sqe 0 (fb 32 1 + fb 34 9)
def abortS : State :=
  { dev := { dev0 with host := { dev0.host with outst := [cmd .abort abortE, { cmd .flush { abortE with cid := 9 } with tag := 1, phase := .waiting }] } } }
theorem test_abort : Begins specAbort 0 (run .abort abortE) (cmd .abort abortE) ∧ abortTarget (cmd .abort abortE) dev0 = none ∧
    Begins specAbort 0 abortS (cmd .abort abortE) ∧ (abortTarget (cmd .abort abortE) abortS.dev).isSome = true := by
  unfold Begins; decide +kernel
def flushS (op : HostOp) : State :=
  { dev := { dev0 with host := { dev0.host with outst := [cmd op (sqe 0 0), { cmd .flush (sqe 0 0) with tag := 1, phase := .waiting }] } } }
theorem test_flush : Begins specFlush 0 (run .flush (sqe 0 0)) (cmd .flush (sqe 0 0)) ∧
    (findOutst (flushS .eventArm).dev 1).isSome = true ∧ (flushS .eventArm).dev.recs = [] ∧
    (∀ o ∈ (flushS .eventArm).dev.host.outst, o.qp = 1 → o.tag < 1 → o.op = .eventArm) ∧
    (∃ o ∈ (flushS .identify).dev.host.outst, o.tag < 1 ∧ o.op ≠ .eventArm) ∧ islandRuns dev0 = true ∧
    islandRuns { dev0 with boot := { stage := 11 }, pwr := { heldReset := true } } = false := by unfold Begins; decide +kernel
theorem test_feature_get_else :
    Begins (specFeatureGet 5) 0 (run .featureGet (sqe 0 (fb 32 5))) (cmd .featureGet (sqe 0 (fb 32 5))) ∧
    Begins (specFeatureGet 6) 0 (run .featureGet (sqe 0 (fb 32 6 + fb 36 1))) (cmd .featureGet (sqe 0 (fb 32 6 + fb 36 1))) ∧
    Begins (specFeatureGet 4) 0 (run .featureGet (sqe 0 (fb 32 4))) (cmd .featureGet (sqe 0 (fb 32 4))) := by
  unfold Begins; decide +kernel
def abortRead : Dev := { abortS.dev with
  host := { abortS.dev.host with outst := [cmd .abort abortE, { cmd .mediaReadBlocks { abortE with cid := 9 } with tag := 1, phase := .waiting }] }
  reads := [{ (default : MediaRead) with cmd := 1 }] }
theorem test_abort_read : Begins specAbort 0 (at0 abortRead) (cmd .abort abortE) ∧
    ((abortTarget (cmd .abort abortE) abortRead).map (·.tag)) = some 1 ∧
    ((abortRead.reads.find? fun r => r.cmd == 1).isSome = true) ∧ (∀ r ∈ abortS.dev.reads, r.cmd ≠ 1) := by
  unfold Begins; decide +kernel
def flushRec (r : RecSes) : Dev := { (flushS .eventArm).dev with recs := [(0, r)] }
theorem test_flush_waits : (findOutst (flushRec default) 1).isSome = true ∧
    (∃ r ∈ (flushRec { (default : RecSes) with waits := [{ (default : RecWait) with qp := 1, tag := 0 }] }).recs,
      ∃ w ∈ r.2.waits, w.qp = 1 ∧ w.tag < 1) ∧
    (∃ r ∈ (flushRec { (default : RecSes) with flushes := [(1, none, none)] }).recs, ∃ f ∈ r.2.flushes, f.1 = 1) := by decide +kernel

/-! 03: the sensor links. -/

/-- A device with one sensor link on port 0. -/
def linkDev (k : Link) : Dev := { dev0 with links := dev0.links.set 0 k }
/-- The symbols of a control block at an NRZ rate: header 1010, H0 first, then the payload, each byte from its bit 0. -/
def ctl (l : List Byte) : Blk := (List.range 132).map fun i => b2n (bitOf (0b1010 + le l 0 16 * 16) i)
/-- A payload of 14 bytes and their CRC-16. -/
def crcd (l : List Byte) : List Byte := fit 14 l ++ [BitVec.ofNat 8 (crc16 (fit 14 l) / 256), BitVec.ofNat 8 (crc16 (fit 14 l))]
/-- 8 TRAIN blocks of a lane: logical lane, width, rate, TX_EQ; TRAIN_SEQ 9. -/
def tb (n width rate eq : Nat) : List Blk := List.replicate 8 (ctl [0x2D, BitVec.ofNat 8 n, BitVec.ofNat 8 width, BitVec.ofNat 8 rate, BitVec.ofNat 8 eq, 9])
def tr (n rate width : Nat) (eq : Bool := false) : LaneTrain :=
  { logical := n, width, rateCode := rate, txEq := eq, preset := 0, seq := 9, inverted := false }
def detect : Link := { state := 1, rate := 5, width := 2, search := true }
theorem test_train_blocks : trainLanes (linkDev detect) 0 [tb 0 2 5 1, tb 1 2 5 1] = [tr 0 5 2 true, tr 1 5 2 true].map some ∧
    trainLanes (linkDev detect) 0 [tb 1 2 5 0, (tb 0 2 5 0).map fun b => b.map fun l => 1 - l] =
      [tr 1 5 2, { tr 0 5 2 with inverted := true }].map some ∧
    trainLanes (linkDev detect) 0 [tb 0 2 5 1, (tb 1 2 5 1).take 7] = [some (tr 0 5 2 true), none] := by decide +kernel
theorem test_bring_up : (link (linkDev detect) 0).state = 1 ∧ TrainBlocksAwaited (at0 (linkDev detect)) 0 ∧
    TrainBlocksAwaited (at0 (linkDev { state := 2, retrain := true })) 0 ∧ reqDue (linkDev detect) 0 = true ∧
    reqDue (linkDev { state := 2, retrain := true }) 0 = true ∧ BcFree (at0 (linkDev detect)) 0 ∧
    inOrder [tr 0 5 2 true, tr 1 5 2 true] = true ∧ isReversed [tr 1 5 2, tr 0 5 2] = true ∧
    inOrder [tr 1 5 2, tr 1 5 2] = false ∧ isReversed [tr 1 5 2, tr 1 5 2] = false ∧
    (∀ l ∈ [tr 0 5 2 true, tr 1 5 2 true], l.width = 2 ∧ l.rateCode = 5 ∧ l.txEq = true) ∧
    (∃ l ∈ [tr 0 4 2, tr 1 5 2], l.rateCode ≠ 5) ∧ (∃ l ∈ [tr 0 5 1, tr 1 5 2], l.width ≠ 2) ∧
    (link (linkDev { state := 7 }) 0).state = 7 := by
  refine ⟨by decide +kernel, by unfold TrainBlocksAwaited; decide +kernel, by unfold TrainBlocksAwaited; decide +kernel,
    by decide +kernel, by decide +kernel, ⟨by decide +kernel, by decide +kernel, by decide +kernel, by decide +kernel, ?_⟩, by decide +kernel⟩
  intro b h
  have e : bcGuard (linkDev detect) 0 = none := by decide +kernel
  exact absurd (e.symm.trans h) (by simp)
def late (k : Link) (n : Nat) : Dev := { linkDev k with tu := { ns := n } }
theorem test_link_times : (link (late { detect with req := some (0, 0) } 10000000) 0).req = some (0, 0) ∧
    0 + 10000000 ≤ (late { detect with req := some (0, 0) } 10000000).tu.ns ∧
    (link (late { state := 7 } 100000000) 0).failNs + 100000000 ≤ (late { state := 7 } 100000000).tu.ns ∧
    commaNs (link (late { state := 3, rate := 5, width := 2 } 100000000) 0) 4 ≤ 100000000 ∧
    (dev0.tu.ns < (link (linkDev { detect with bcFree := 5 }) 0).bcFree) := by decide +kernel
def train : Link := { state := 2, rate := 5, width := 2 }
/-- A block time whose LCTL on logical lane 0 acknowledges preset 14. -/
def ack : BlkTime :=
  let l := crcd [0x5A, 0x81, 14]
  [ctl (l.take 1 ++ (descramble (scrSeed 0) (l.drop 1)).1), ctl (buf 16)]
theorem test_adaptation : (link (linkDev train) 0).asked = none ∧ (link (linkDev train) 0).retrain = false ∧
    (∀ f ∈ [24, 255], 24 ≤ f) ∧ (∃ f ∈ [24, 23], f < 24) ∧ (link (linkDev { train with asked := some 14 }) 0).asked = some 14 ∧
    (link (linkDev { train with asked := some 14 }) 0).final = false ∧
    (link (linkDev { train with asked := some 14 }) 0).again = false ∧
    ((lctlCopies (linkDev { train with asked := some 14 }) 0 ack).find? (·.1)) = some (true, crcd [0x5A, 0x81, 14]) ∧
    (link (late { train with asked := some 14, askedNs := some 0 } 20000) 0).askedNs = some 0 := by decide +kernel
/-- A COMMA, COMMA_SEQ 3, that arrives at an instant. -/
def cm (ps : Nat) : CommaRx := { blk := ctl (crcd [0xB4, 0, 0, 0, 3]), arrivalPs := ps }
def co (t : Nat) : LaneComma := { present := true, crcOk := true, seq := 3, arrivalPs := t }
def align : Link := { state := 3, rate := 5, width := 2, seen := true }
theorem test_alignment : commaLanes (linkDev align) 0 [cm 0, cm 31500] = [co 0, co 31500] ∧ commaOk 2 [co 0, co 31500] = true ∧
    skewPclk [co 0, co 31500] = 63 ∧ skewPclk [co 0, co 31501] = 64 ∧
    (link (linkDev align) 0).state = 3 ∧ (link (linkDev { align with seen := false }) 0).seen = false ∧
    (link (linkDev { align with state := 5 }) 0).state = 5 ∧
    (link (linkDev { align with state := 4, slips := [0, 0, 0] }) 0).slips = [0, 0, 0] ∧ dev0.tu.ns < 0 + 1000000000 ∧
    (link (late { align with bcSleep := true, clkRef := true } 20000) 0).bcSleep = true ∧
    (link (linkDev align) 0).bcFree + 20000 ≤ (late align 20000).tu.ns ∧
    laneRuns (linkDev { align with state := 4 }) 1 = true ∧ recalDue (late { align with state := 4 } 10000000) 1 = true ∧
    bitOf dev0.evt.mask 2 = true := by decide +kernel
/-- A SLEEP block of the deep state on both lanes, scrambled by a lane that starts at state 1. -/
def slp : BlkTime := [ctl (0x78 :: (descramble 1 (1 :: buf 14)).1), ctl (0x78 :: (descramble 1 (1 :: buf 14)).1)]
def slpDev : Dev := { linkDev { align with state := 4 } with lanes := Vector.replicate 36 { scr := 1 } }
theorem test_sleep_block : SleepBlock (receive 0 [] slpDev) 0 slp true ∧ (link (receive 0 [] slpDev) 0).state = 4 :=
  ⟨⟨_, _, rfl, by decide +kernel, by decide +kernel, by decide +kernel⟩, by decide +kernel⟩
def eye : Sqe := sqe 0 (fb 32 3 + fb 42 1 + fb 43 20) (buf 16)
def eyeDev : Dev := linkDev { align with state := 4 }
def scanDev (stop : Bool) : Dev :=
  { (run .linkDiagEyeScan eye eyeDev).dev with lanes := eyeDev.lanes.set 0 { scan := some 0, scanStop := stop } }
theorem test_link_diag :
    Begins specLinkDiagStatus 0 (run .linkDiagStatus (sqe 0 0)) (cmd .linkDiagStatus (sqe 0 0)) ∧
    Begins specLinkDiagCounters 0 (run .linkDiagCounters (sqe 0 (fb 32 1) (buf 4))) (cmd .linkDiagCounters (sqe 0 (fb 32 1) (buf 4))) ∧
    Begins specLinkDiagCounterClear 0 (run .linkDiagCounterClear (sqe 0 (fb 32 2))) (cmd .linkDiagCounterClear (sqe 0 (fb 32 2))) ∧
    Begins specLinkDiagEyeScan 0 (run .linkDiagEyeScan eye eyeDev) (cmd .linkDiagEyeScan eye) ∧
    diagLane eye = portLane 0 0 ∧ fld eye 42 1 = 1 ∧ (lane eyeDev 0).scan = none ∧ scanPoints eye = 1 ∧
    Begins specLinkDiagEyeScan 0 (at0 (scanDev false)) (cmd .linkDiagEyeScan eye) ∧ (lane (scanDev false) (diagLane eye)).scan.isSome = true ∧
    scanLane (scanDev true) 0 = some 0 ∧ findOutst (scanDev true) 0 = some (cmd .linkDiagEyeScan eye) ∧
    (lane (scanDev true) 0).scanStop = true ∧ ([] : List Nat).length < scanPoints eye := by unfold Begins; decide +kernel
/-- 03, the example after R90: fibres that differ by 7.3 ns. -/
theorem test_skew_example : skewPclk [co 0, co 7300] = 15 := by decide +kernel

/-! 04: ports, groups, capture and frames. -/

def portE (on mem : Nat) : Sqe :=
  sqe 0x02000000 (if on = 0 then 0 else fb 32 1 + fb 33 2 + fb 34 5 + fb 36 (if mem = 1 then 1 else 0) + fb 37 mem + fb 38 12 + fb 39 1 +
    fb 40 0x00FF + fb 42 0x3FFF + fb 52 1 + fb 56 1)
def pk : Port := { enabled := true, bits := 12, streams := 1, samples := 255, height := 15, timing := { eo := 0, ed := 1000, ls := 1000000 } }
def gr : Group := { members := 1, num := 120, den := 1, window := 100 }
/-- A device with port 0 in group 0. -/
def capDev (k : Port) (g : Group) (l : Link := { state := 4, rate := 5, width := 2 }) : Dev :=
  { dev0 with ports := dev0.ports.set 0 k, grps := dev0.grps.set 0 g, links := dev0.links.set 0 l }
theorem test_port_config : (Begins specPortConfig 0 (run .portConfig (portE 1 0)) (cmd .portConfig (portE 1 0)) ∧
    fld (portE 1 0) 32 1 = 1 ∧ fld (portE 1 0) 37 1 = 0 ∧ capturing dev0 (portArg (portE 1 0)) = false ∧
    (port dev0 (portArg (portE 1 0))).play = none) ∧
    (Begins specPortConfig 0 (run .portConfig (portE 0 0)) (cmd .portConfig (portE 0 0)) ∧ fld (portE 0 0) 32 1 = 0) ∧
    (Begins specPortConfig 0 (run .portConfig (portE 1 0) (capDev pk { gr with run := true })) (cmd .portConfig (portE 1 0)) ∧
      capturing (capDev pk { gr with run := true }) 0 = true) ∧ dev0.pwr.state < 2 := by unfold Begins; decide +kernel
def grpE (m : Nat) : Sqe := sqe 0x03000000 (fb 32 m + fb 36 120 + fb 40 1 + fb 48 100)
theorem test_group_config : Begins specGroupConfig 0 (run .groupConfig (grpE 1)) (cmd .groupConfig (grpE 1)) ∧
    fld (grpE 1) 32 1 ≠ 0 ∧ (grp dev0 (groupArg (grpE 1))).run = false ∧ capturing dev0 0 = false ∧
    Begins specGroupConfig 0 (run .groupConfig (grpE 0)) (cmd .groupConfig (grpE 0)) ∧ fld (grpE 0) 32 1 = 0 ∧
    Begins specGroupConfig 0 (run .groupConfig (grpE 1) (capDev pk { gr with run := true })) (cmd .groupConfig (grpE 1)) ∧
    (grp (capDev pk { gr with run := true }) (groupArg (grpE 1))).run = true := by unfold Begins; decide +kernel
/-- 04 R127: 120 frames a second. -/
theorem test_grid_example : timeGrid gr 7 = 58333334 ∧ firstIndex gr 58333334 = 7 ∧ firstIndex gr 58333335 = 8 := by decide +kernel
def startE : Sqe := sqe 0x03000000 0
theorem test_capture_start : Begins specCaptureStart 0 (run .captureStart startE (capDev pk gr)) (cmd .captureStart startE) ∧
    members (capDev pk gr) (groupArg startE) = [0] ∧ (port (capDev pk gr) 0).enabled = true ∧ (port (capDev pk gr) 0).play = none ∧
    isleAvail (capDev pk gr) 0 = true ∧ linkCarries gr pk (link (capDev pk gr) 0) = true ∧ fld startE 48 2 = 0 ∧
    admitFails (run .captureStart startE (capDev pk gr)).dev (groupHandle (groupArg startE)) true
      (captureWants (run .captureStart startE (capDev pk gr)).dev (groupArg startE) 0) = none := by unfold Begins; decide +kernel
def live : Group := { gr with run := true, fired := true, next := 5, k := 1, lastT := 0 }
theorem test_trigger : nextTrig live = some 8333334 ∧ (8333334 : Nat) ≤ 8333374 ∧ live.ended = false ∧
    ({ capDev pk live with tu := { ns := 8333400 } } : Dev).tu.ns = 8333400 := by decide +kernel
def stopE : Sqe := sqe 0x03000000 (fb 36 0xFFFFFFFF)
theorem test_capture_stop : Begins specCaptureStop 0 (run .captureStop stopE (capDev pk live)) (cmd .captureStop stopE) ∧
    fld stopE 32 1 = 0 ∧ fld stopE 36 4 = 0xFFFFFFFF ∧ (grp (capDev pk live) (groupArg stopE)).fired = true ∧
    (grp (capDev pk live) (groupArg stopE)).stop = none ∧
    groupLatestEnd (capDev pk live) 0 (groupArg stopE) (fnPred live.next) ≤ 0 + 80000000 := by
  unfold Begins; decide +kernel
def ended : Group := { live with ended := true, stop := some { frame := 4, immediate := false, cmds := [] } }
theorem test_stop_done : (grp (capDev pk ended) 0).stop.isSome = true ∧ memberIdle (capDev pk ended) 0 = true ∧ rawBusy (capDev pk ended) 0 = false ∧
    members (capDev pk ended) 0 = [0] := by decide +kernel
def gl : Group := { live with genlock := true, glDiv := 1, anchor := some 0 }
theorem test_genlock : (grp (capDev pk gl) 0).free = false ∧ 0 + periods gl 1 + 10000 ≤ 8343334 ∧
    (grp (capDev pk { gl with anchor := none }) 0).anchor = none ∧ gl.s + 1000000000 ≤ 1000000000 := by decide +kernel

/-- A packet with a good header and CRC. -/
def pkt (type stream len line fn : Nat) (payload : List Byte) : Pkt :=
  let h := pack [(1, type), (1, stream), (2, len), (2, line), (1, fn)]
  let l := h ++ [BitVec.ofNat 8 (hcrc h)] ++ payload
  { bytes := l ++ toLE 4 (crc32 l).toNat, blockErr := false }
def trg : Trig := { num := 4, t := 0, tm := pk.timing, free := false, doom := 0 }
def frm : Frm :=
  { port := 0, num := 4, t := 0, tm := pk.timing, status := 0, lines := [], next0 := 0, next1 := 0, emb := [], filled := 0, lastNs := 0
    delayed := false, crcErrs := 0, fe := [] }
def fsK : Pkt := pkt 1 0 3 0 4 (pack [(4, 4), (4, 0), (4, 1000), (4, 1000000)])
/-- A running port on which the bytes of a packet have arrived. -/
def arrived (x : Port) (k : Pkt) : Dev := capDev { x with rx := k.bytes.map fun b => (b, k.blockErr) } live
/-- The packet that a row takes, and the device once it is taken. -/
def taken (x : Port) (k : Pkt) (f : Nat → Bool) : Dev × Option Pkt := takeFront 0 [] f (arrived x k)
def waitP : Port := { pk with await := [trg] }
def wait1 : Dev := capDev waitP live
def badHead : List (Byte × Bool) := [1, 0, 0, 0, 0, 0, 0, 0].map fun b => (b, false)
theorem test_headers : headerBad (fsK.bytes.take 8) = false ∧ headerBad (badHead.map (·.1)) = true ∧
    skipPads badHead = badHead ∧ (port (receive 0 [] (capDev { pk with rx := badHead } live)) 0).hunt = false ∧
    8 ≤ (port (arrived { waitP with hunt := true } fsK) 0).rx.length ∧
    headerAccepted { waitP with hunt := true } (fsK.bytes.take 8) = true := by decide +kernel
theorem test_frame_start : (taken waitP fsK (· == 1)).2 = some fsK ∧ expectsFrames (taken waitP fsK (· == 1)).1 0 = true ∧
    awaited (port (taken waitP fsK (· == 1)).1 0) = some trg ∧
    trg.num = le (pktPayload fsK) 0 4 ∧ 0 < deadlineOf wait1 0 trg ∧ (port wait1 0).late = [] ∧
    (port wait1 0).cur = none ∧ (port wait1 0).fillEnd ≤ nowPclk wait1 ∧ (port wait1 0).await.head? = some trg := by
  decide +kernel
def openP : Port := { pk with cur := some frm, emb := 2 }
def open1 : Dev := capDev openP live
def lineK : Pkt := pkt 3 0 95 0 4 (List.replicate 384 0)
def embK : Pkt := pkt 4 0 0 0 4 [1, 2, 3, 4]
def feK : Pkt := pkt 2 0 0 0 4 (toLE 4 4)
def oddK : Pkt := pkt 9 0 0 0 4 [1, 2, 3, 4]
theorem test_line : (taken openP lineK (· == 3)).2 = some lineK ∧ openFor (port (taken openP lineK (· == 3)).1 0) lineK = some frm ∧
    pktLen lineK = lineLen (port open1 0) ∧ pktStream lineK = 0 ∧ 0 < (port open1 0).streams ∧ pktLine lineK = frm.next0 ∧
    frm.next0 ≤ (port open1 0).height ∧ (port open1 0).store = [] := by decide +kernel
theorem test_frame_end : (taken openP feK (· == 2)).2 = some feK ∧ openFor (port (taken openP feK (· == 2)).1 0) feK = some frm ∧
    le (pktPayload feK) 0 4 = frm.num ∧ (port open1 0).await = [] := by decide +kernel
theorem test_embedded : (taken openP embK (· == 4)).2 = some embK ∧ openFor (port (taken openP embK (· == 4)).1 0) embK = some frm ∧
    frm.emb.length < (port open1 0).emb ∧ pktLen embK ≤ lineLen (port open1 0) ∧ (taken openP oddK (5 < ·)).2 = some oddK ∧
    pcrcOk oddK = true := by decide +kernel
theorem test_port_memory : Begins specPortConfig 0 (run .portConfig (portE 1 1) (capDev pk {})) (cmd .portConfig (portE 1 1)) ∧
    memoryBindings (capDev pk {}) 1 0 < 3 ∧
    3 ≤ memoryBindings { dev0 with ports := Vector.replicate 4 { enabled := true, memory := true, isle := 1 } } 1 0 := by
  unfold Begins; decide +kernel
theorem test_timeouts : frm.lastNs + 64 * frm.tm.ls / 1000 ≤ 64000 ∧ deadlineOf wait1 0 trg ≤ 101000 ∧ trg.free = false := by
  decide +kernel
/-- 04 R111: the LEN of a 17,280-sample 12-bit line. -/
theorem test_line_example : lineLen { pk with samples := 17279 } = 6479 := by decide +kernel
theorem test_capture_stop_else :
    Begins specCaptureStop 0 (run .captureStop (sqe 0x03000000 (fb 32 1)) (capDev pk live)) (cmd .captureStop (sqe 0x03000000 (fb 32 1))) ∧
    Begins specCaptureStop 0 (run .captureStop stopE (capDev pk gr)) (cmd .captureStop stopE) ∧
    (grp (capDev pk gr) (groupArg stopE)).run = false ∧ fld (sqe 0x03000000 (fb 32 1)) 32 1 = 1 ∧
    awaited (port wait1 0) = some trg ∧ (port wait1 0).cur = none := by unfold Begins; decide +kernel
/-! 04: sensor control and FRAME_FETCH. -/

def senE (sub data : Nat) (more : Nat := 0) : Sqe := sqe 0x02000000 (fb 32 sub + fb 40 0xFFFFFFFF + more) (buf data)
def full64 : Port := { pk with ctrl := List.replicate 64 { tag := 0, cmd := 5, read := true } }
theorem test_sensor_ctrl : (bg specSensorCtrlWrite (senE 1 1) (capDev pk gr) ∧ (link (capDev pk gr) 0).state = 4 ∧
      framePassed (run .sensorCtrlWrite (senE 1 1) (capDev pk gr)).dev 0 0xFFFFFFFF = false ∧ (port (capDev pk gr) 0).ctrl.length < 64) ∧
    bg specSensorCtrlRead (senE 2 1) (capDev pk gr) ∧
    (bg specSensorCtrlRead (senE 2 32 (fb 33 31)) (capDev full64 gr) ∧ 64 ≤ (port (capDev full64 gr) 0).ctrl.length) ∧
    (bg specSensorCtrlTiming (senE 3 0 (fb 48 5 + fb 52 9)) (capDev pk live) ∧
      framePassed (capDev pk live) 0 0xFFFFFFFF = false ∧ framePassed (capDev pk live) 0 5 = false) ∧
    bg specSensorCtrlTiming (sqe 0x02000000 (fb 32 3 + fb 40 5 + fb 48 5 + fb 52 9)) (capDev pk live) ∧
    bg specSensorCtrlCounters (sqe 0x02000000 (fb 32 4) (buf 64)) (capDev pk gr) := by unfold bg Begins; decide +kernel
def respK (st : Nat) : Pkt :=
  let l := toLE 4 (3 + 256 * st)
  pkt 5 0 1 0 0 (l ++ toLE 4 (crc32 l).toNat)
def respP (rd : Bool) : Port := { pk with ctrl := [{ tag := 3, cmd := 0, read := rd, sent := some 0 }] }
def respD (rd : Bool) : Dev := capDev (respP rd) gr
/-- An answer with a bad PCRC. -/
def respBad : Pkt := { respK 0 with bytes := (respK 0).bytes.set 10 9 }
theorem test_ctrl_resp : pcrcOk (respK 0) = true ∧ (taken (respP false) (respK 2) (· == 5)).2 = some (respK 2) ∧ pcrcOk (respK 2) = true ∧
    (ctrlOf (taken (respP false) (respK 2) (· == 5)).1 0 (BitVec.ofNat 8 (le (pktPayload (respK 2)) 0 1))).isSome = true ∧
    (findOutst (run .sensorCtrlWrite (senE 1 1) (respD false)).dev 0).isSome = true := by decide +kernel
theorem test_ctrl_resp_bad : (taken (respP true) respBad (· == 5)).2 = some respBad ∧ pcrcOk respBad = false ∧
    (ctrlOf (respD true) 0 (BitVec.ofNat 8 (le (pktPayload respBad) 0 1))).isSome = true ∧
    (∃ w, ctrlOf (respD true) 0 3 = some w ∧ w.sent = some 0 ∧ 0 + 10000000 ≤ { (respD true).tu with ns := 10000000 }.ns) :=
  ⟨by decide +kernel, by decide +kernel, by decide +kernel, _, rfl, by decide +kernel⟩
def fetE (num : Nat) : Sqe := sqe 0x12000000 (fb 32 num) (buf 576)
def fetD (w : List FetchWait) : Dev := capDev { pk with raw := some { handle := 0x12000000, slots := 2, frames := [frm] }, fetch := w } gr
theorem test_frame_fetch : bg specFrameFetch (fetE 4) (fetD []) ∧ fetchPort (fetD []) 0x12000000 = some (0, false) ∧
    fetchBytes (port (fetD []) 0) (fetE 4) = (fetE 4).dataLen.toNat ∧
    (((port (fetD []) 0).raw.bind fun r => r.frames.find? fun x => x.num == 4) = some frm) := by unfold bg Begins; decide +kernel
theorem test_frame_fetch_next : bg specFrameFetch (sqe 0x02000000 (fb 32 0xFFFFFFFF) (buf 576)) (capDev pk live) ∧
    fetchPort (capDev pk live) 0x02000000 = some (0, true) ∧ groupOf (capDev pk live) 0 = some 0 ∧
    groupLatestEnd (capDev pk live) 0 0 (grp (capDev pk live) 0).next ≤ 0 + 80000000 ∧
    fetchBytes (port (capDev pk live) 0) (sqe 0x02000000 (fb 32 0xFFFFFFFF) (buf 576)) ≤ 576 ∧
    admitFails (capDev pk live) (2 ^ 40 + 0) true (fetchWants (capDev pk live) 0) = none := by unfold bg Begins; decide +kernel
theorem test_frame_fetch_done : fetchReady (port (fetD [{ cmd := 0, num := some 4, own := false, shut := true, frm := some frm }]) 0) 0 = some frm ∧
    ∀ q, q ≠ 0 → fetchReady (port (fetD [{ cmd := 0, num := some 4, own := false, shut := true, frm := some frm }]) q) 0 = none := by decide +kernel
theorem test_fetch_read : (fetchRead (cmd .frameFetch (fetE 4)) 0 false frm (fetD [])).bad = [] ∧
    (fetchRead (cmd .frameFetch (fetE 4)) 0 false frm (fetD [])).lost = false := by decide +kernel
/-- 04 R138: the pitch of a 17,280-sample 12-bit line is 26,112 bytes packed, of 1,000 unpacked samples 2,048 bytes. -/
theorem test_pitch : fetchPitch { pk with samples := 17279 } (fetE 4) = 26112 ∧
    fetchPitch { pk with samples := 999 } (sqe 0 (fb 36 1)) = 2048 := by decide +kernel

/-! 05, 06, 07, 11: the Isles. -/

def isD : Dev := capDev pk gr
def isE (body : Nat) (data : List Byte := []) : Sqe := sqe 0x04000000 (fb 36 0xFFFFFFFF + body) data
/-- A valid structure, and one with another shading grid. -/
def feV : List Byte := toLE 128 (le feDefault 0 128 + at' 64 f24One + at' 72 f24One)
def feG : List Byte := feV.set 58 4
def shOf (kind idx : Nat) : Shadow := newShadow (cmd .isleConfig (isE 0)) kind idx 0 0 0xFFFFFFFF []
def isMod (f : Isle → Isle) (d : Dev := isD) : Dev := modIsle 0 f d
theorem test_isle_config : (bg specIsleConfig (isE 0 feV) isD ∧ feValid feV = true ∧ fit 128 feV = feV ∧
      applyCheck (run .isleConfig (isE 0) isD).dev 0 0 0xFFFFFFFF = none ∧ isleAvail isD 0 = true ∧ capturing isD 0 = false ∧
      pendingShadow (isle isD 0) 1 0 0 = false ∧ loadPending isD 0 0 = false ∧
      geometryChange (ctxOf isD 0 0).pipe.fe feV = false ∧ geometryChange (ctxOf isD 0 0).pipe.fe feG = true ∧
      feValid feG = true ∧
      admitFails (run .isleConfig (isE 0) isD).dev (ctxOwner 0 0) false [(0x0A, 0xFF, ctxLagoon feV)] = none) ∧
    (bg specIsleConfig (isE 0 feV) (isMod (fun k => { k with shadows := [shOf 1 0] })) ∧
      pendingShadow (isle (isMod (fun k => { k with shadows := [shOf 1 0] })) 0) 1 0 0 = true) ∧
    capturing (capDev pk live) 0 = true := by unfold bg Begins; decide +kernel
theorem test_fe_table_load : (bg specFeTableLoad (isE (fb 33 1 + fb 34 1) (buf 2)) isD ∧ tableCountOk (ctxOf isD 0 0).pipe.fe 1 1 = true) ∧
    (bg specFeTableLoad (isE (fb 33 2) (buf 4)) isD ∧ tableCountOk (ctxOf isD 0 0).pipe.fe 2 1 = true ∧ firstBadDefect [0] = none) ∧
    (bg specFeTableLoad (isE (fb 33 3 + fb 40 26) (buf 54)) isD ∧ tableCountOk (ctxOf isD 0 0).pipe.fe 3 27 = true) ∧
    (bg specFeTableLoad (isE (fb 33 4 + fb 40 35) (buf 72)) isD ∧ tableCountOk (ctxOf isD 0 0).pipe.fe 4 36 = true) ∧
    pendingShadow (isle isD 0) 2 0 2 = false ∧ geometryPending isD 0 0 = false := by unfold bg Begins; decide +kernel
theorem test_kernel_load : bg specCfaKernelLoad (isE (fb 33 1) (buf 1944)) isD ∧
    1 * cfaW (ctxOf isD 0 0).pipe.fe * cfaH (ctxOf isD 0 0).pipe.fe * filters (ctxOf isD 0 0).pipe.fe * 162 = 1944 := by
  unfold bg Begins; decide +kernel
theorem test_colour_loads : (bg specColourLoadParams (isE (fb 32 1) paramsDefault) isD ∧
      paramsValid (filters (ctxOf isD 0 0).pipe.fe) paramsDefault = true) ∧
    (bg specColourLoadTapOutput (isE (fb 32 4 + fb 33 7) tapOutDefault) isD ∧ tapOutputValid tapOutDefault = true) ∧
    bg specLookSelect (sqe 0x04000000 (fb 33 15 + fb 36 0xFFFFFFFF + fb 40 0xFF04)) isD := by unfold bg Begins; decide +kernel
def gridE : Sqe := { isE (fb 32 3) [] with dataLen := 1152, bdl := [(0, 1152, 0)] }
theorem leNat_zeros (n : Nat) : leNat (List.replicate n 0) = 0 := by
  induction n with
  | zero => rfl
  | succ n ih => rw [List.replicate_succ, leNat, ih]; rfl
theorem test_blend_grid : bg specColourLoadBlendGrid gridE isD ∧ (words16 (fit 1152 gridE.data)).all (· ≤ 32768) = true := by
  refine ⟨by unfold bg Begins; decide +kernel, ?_⟩
  have h : fit 1152 gridE.data = List.replicate 1152 0 := by
    show List.take 1152 (List.replicate 1152 0) = _
    rw [List.take_replicate, Nat.min_self]
  rw [h, words16, List.all_map, List.all_eq_true]
  intro i _
  simp only [Function.comp_apply, le, List.drop_replicate, List.take_replicate, leNat_zeros, Nat.zero_le, decide_true]
def lookE : Sqe := { sqe 0x04000000 (fb 32 2 + fb 33 3) (buf 41 ++ [1]) with dataLen := 8256, bdl := [(0, 8256, 0)] }
theorem test_look_load : bg specColourLoadLook lookE isD ∧ lookValid (fit 8256 lookE.data) = true ∧
    firstBadLut (fit 8256 lookE.data) = none ∧ bitOf (le (fit 8256 lookE.data) 0 1) 2 = false := by
  refine ⟨by unfold bg Begins; decide +kernel, by decide +kernel, ?_, by decide +kernel⟩
  have h : (fit 8256 lookE.data).length = 8256 := by
    simp only [fit, List.length_take, List.length_append, zeros, List.length_replicate, Nat.min_def]; split <;> omega
  simp [firstBadLut, h]
theorem test_isle_frame_start : (port open1 0).enabled = true ∧ (port open1 0).isle = 0 ∧ isleAvail open1 0 = true ∧
    (port open1 0).memory = false ∧ (port open1 0).area = [] ∧ (port open1 0).cur = some frm ∧ (ctxOf open1 0 0).run = none := by
  decide +kernel
def deferD : Dev := isMod (fun k => { k with shadows := [shOf 1 0] }) (run .isleConfig (isE 0) isD).dev
theorem test_defer : (findOutst deferD 0).isSome = true ∧ shOf 1 0 ∈ (isle deferD 0).shadows ∧ (shOf 1 0).cmd = 0 ∧
    (∀ j : IsleId, ∀ x ∈ (isle deferD j).shadows, x.cmd = 0 → x = shOf 1 0 ∧ j = 0) ∧ deferD.enc = [] := by decide +kernel
def sub0 : StatSub :=
  { slots := 3, vector := 0, decim := 0, prio := 0, fpsMax := 120, stride := 65536, seq := 9, pos := 1, lastT := some 0 }
def fin0 : FinFrm := { frm := { frm with t := 8333334 }, geo := geoOf pk, pipe := {}, ob := List.replicate 12 0 }
def subD : Dev := modCtx 0 0 (fun x => { x with sub := some sub0, fin := some (9, fin0), gridOf := some fin0 }) isD
def subD' : Dev := modCtx 0 0 (fun x => { x with sub := some sub0 }) isD
def subE (en : Nat) : Sqe := sqe 0x04000000 (fb 33 en + fb 34 1 + fb 40 120) []
def subS : Sqe := { subE 1 with dataLen := 131072, bdl := [(0, 131072, 0)] }
theorem test_stats : (bg specStatsSubscribeStart subS isD ∧ (ctxOf isD 0 0).sub = none ∧
      (fld subS 34 2 + 1) * recordStride (ctxOf isD 0 0).pipe.fe ≤ subS.dataLen.toNat ∧
      admitFails (run .statsSubscribeStart subS isD).dev (statOwner 0 0) true
        [(0x08, 0xFF, divUp (recordStride (ctxOf isD 0 0).pipe.fe * 120) 1000000),
          (0x0B, 0, divUp (recordStride (ctxOf isD 0 0).pipe.fe * 120) 1000000)] = none) ∧
    (bg specStatsSubscribeStop (subE 0) subD ∧ (ctxOf subD 0 0).sub = some sub0 ∧ (ctxOf subD 0 0).fin ≠ none) ∧
    (bg specStatsSubscribeStop (subE 0) subD' ∧ (ctxOf subD' 0 0).sub = some sub0 ∧ (ctxOf subD' 0 0).fin = none) ∧
    bg specStatsSubscribeStop (subE 0) isD := by unfold bg Begins; decide +kernel
theorem test_stats_record : (ctxOf subD 0 0).fin = some (9, fin0) ∧ statsTakes sub0 fin0.frm.t = true ∧ deliversFrom fin0.ep subD = true ∧ sub0.closing = none ∧
    recordLen fin0.pipe.fe ≤ sub0.stride ∧ sub0.vector = 0 ∧ (ctxOf subD 0 0).gridOf = some fin0 := by decide +kernel
def tmP : Port := { pk with memory := true, height := 63, area := [frm] }
def tmD : Dev := isMod (fun k => { k with tm := some { port := 0, num := 4, rows := 1 } }) (capDev tmP live)
theorem test_tile_row : (isle tmD 0).tm = some { port := 0, num := 4, rows := 1 } ∧ (isle tmD 0).rowEnd ≤ nowPclk tmD ∧
    rowFits tmD 0 (16 * 1 * linePclk tmP + 512) = true ∧ 16 * 2 < 64 ∧ (port tmD 0).area = [frm] ∧
    nowPclk tmD < (isle (isMod (fun k => { k with rowEnd := 9 }) tmD) 0).rowEnd := by decide +kernel
theorem test_isle_through_memory : (port (isMod (fun k => { k with wait := [0] }) (capDev { tmP with enabled := true, isle := 0 } live)) 0).area = [frm] ∧
    (isle (isMod (fun k => { k with wait := [0] }) (capDev tmP live)) 0).wait.head? = some 0 ∧
    (isle (isMod (fun k => { k with wait := [0] }) (capDev tmP live)) 0).tm = none ∧
    bg specStatsSubscribeStart subS subD' ∧ (ctxOf subD' 0 0).sub ≠ none := by unfold bg Begins; decide +kernel
theorem test_stats_ready : (ctxOf subD' 0 0).fin = none ∧ deliversFrom fin0.ep subD' = true ∧ recordLen fin0.pipe.fe ≤ sub0.stride ∧
    0 + 90000000 ≤ ({ ns := 90000000 } : Tu).ns := by decide +kernel

/-! 07: a COLOUR tap of 256 x 16 pixels, RGBA8. -/
def tapL : List Byte := toLE 128 (at' 2 1 + at' 8 255 + at' 10 15 + at' 12 255 + at' 14 15 + at' 16 2 + at' 17 2 + at' 28 120 + at' 42 1)
def tapE (d : List Byte) : Sqe := sqe 0x05000000 (fb 32 0xFFFFFFFF + fb 36 (if d = [] then 0 else 1)) d
def fastL : List Byte := toLE 128 (at' 2 1 + at' 8 16383 + at' 10 16383 + at' 12 16383 + at' 14 16383 + at' 16 2 + at' 17 2 + at' 28 1000 + at' 42 1)
def tap0 : Tap := { on := true, cfg := tapL, ring := some { slots := 1, vector := 0, stride := 65536, seq := 5, prio := 0 }
                    out := some (5, { fin := fin0, snap := { cfg := tapL, tapOut := [], look := [] }, at' := 0 }) }
def tapD (t : Tap) : Dev := modTap 0 0 (fun _ => t) isD
theorem test_tap_enable : bg specTapConfigEnable (tapE tapL) isD ∧ tapArg (tapE tapL) = (0, 0) ∧ fit 128 tapL = tapL ∧
    tapValid tapL = true ∧ le tapL 32 8 = 0 ∧ 128 + 128 * (hTaps tapL + vTaps tapL) * coefSrc tapL = 128 ∧
    tapRate tapL 1 ≤ 32000 ∧ (tapOf isD 0 0).att = [] ∧
    admitFails (run .tapConfigEnable (tapE tapL) isD).dev (tapHandle 0 0) true (tapWants 0 tapL 12 1) = none ∧ 12 ≤ 16 ∧ 1 ≤ 2 ∧
    (if (port isD (portOf (tapPort tapL))).enabled then (port isD (portOf (tapPort tapL))).bits else 16) = 12 ∧
    (if (port isD (portOf (tapPort tapL))).enabled then (port isD (portOf (tapPort tapL))).streams else 2) = 1 ∧
    bg specTapConfigEnable (tapE fastL) dev0 ∧ (port dev0 (portOf (tapPort fastL))).enabled = false ∧ 32000 < tapRate fastL 2 := by
  unfold bg Begins; decide +kernel
theorem test_tap_disable : bg specTapConfigDisable (tapE []) (tapD tap0) ∧ (tapOf (tapD tap0) 0 0).att = [] ∧
    applyCheck (tapD tap0) 0 0 0xFFFFFFFF = none ∧ bg specTapConfigDisable (tapE []) (tapD { tap0 with att := [(1, 2)] }) ∧
    applyCheck (tapD { tap0 with att := [(1, 2)] }) 0 0 0xFFFFFFFF = none := by unfold bg Begins; decide +kernel
theorem test_tap_ring : (tapOf (tapD tap0) 0 0).ring.isSome = true ∧ (tapOf (tapD tap0) 0 0).out.isSome = true ∧
    deliversFrom fin0.ep (tapD tap0) = true ∧ deliversFrom fin0.ep { tapD tap0 with pcie := { up := false } } = false ∧
    delivering (tapD tap0) = true ∧ (tapOf (tapD { tap0 with out := none }) 0 0).out = none := by decide +kernel
def katD : Dev :=
  { modCtx 0 0 (fun x => { x with katRun := true, run := some { num := 4, pipe := {}, taps := [] } }) isD with evt := { mask := 0x1FFE } }
theorem test_kat : (ctxOf isD 0 0).katRun = false ∧ (ctxOf katD 0 0).katRun = true ∧ (ctxOf katD 0 0).katWait = [] ∧
    (ctxOf katD 0 0).run.isSome = true ∧ Queues (at0 katD) 1 := by unfold Queues; decide +kernel

/-! 08: encode sessions on a COLOUR tap of 256 x 64 pixels, 4:2:0. -/

def tapX : List Byte := toLE 128 (at' 2 0x10 + at' 8 255 + at' 10 63 + at' 12 255 + at' 14 63 + at' 16 2 + at' 17 2 + at' 28 120)
def encL : List Byte := toLE 128 (at' 4 1 + at' 5 1 + at' 6 1 + at' 8 30 + at' 14 1 + at' 32 1048576 + at' 66 1)
def tfin (n : Nat) : TapFin := { fin := { fin0 with frm := { frm with num := n } }, snap := { cfg := tapX, tapOut := [], look := [] }, at' := 0 }
def encS (f : Option EncForce) (cfg : List Byte := encL) (cur : Option EncRow := none) (closing : List Nat := []) : EncSes :=
  { handle := 0x06000000, tap := 0x05000000, cfg, w := 256, h := 64, fmt := 0x10, rate := (120, 1), engines := [2]
    ladder := 0, skip := none, count := 3, last := some 3, sinceKey := 3, keyFrame := none, sweep := none, period := 0
    sweepFrame := none, restart := false, later := [], force := f, seq := 0, dropped := 0, cur, closing, now := false
    allow := [], au := none }
def encD (x : EncSes) (q : List (Nat × TapFin) := []) : Dev :=
  { modTap 0 0 (fun _ => { on := true, cfg := tapX, queue := q }) isD with enc := [(0, x)] }
def frc : EncForce := { cmd := 9, lead := true, actions := 1, apply := 5, minT := 0, deferred := false }
theorem test_enc_open : let d := modTap 0 0 (fun _ => { on := true, cfg := tapX }) isD
    bg specEncOpen (sqe 0x05000000 0 encL) d ∧ tapArg (sqe 0x05000000 0 encL) = (0, 0) ∧ encValid (fit 128 encL) = true ∧
    eoRing encL = false ∧ eoLadder encL = 0 ∧ isleAvail d 0 = true ∧ 128 ≤ outW tapX + 1 ∧ 64 ≤ outH tapX + 1 ∧ tapSource tapX = 0 ∧
    profileTakes (eoProfile encL) (tapFormat tapX) = true ∧ eoDirect encL = false ∧ joinsGroup encL = false ∧
    encN encL 256 (256 * 64) (tapFps tapX * decK tapX, decM tapX) = some 1 ∧ le encL 1 1 = 0 ∧
    capsOk encL (outW tapX + 1) (outH tapX + 1) 1 = true ∧ eoNeng encL = 1 ∧ columnsOk (eoAv1 encL) (outW tapX + 1) 1 = true ∧
    attCount d 0 0 < 8 ∧ placeEnc d false (encShare encL ((outW tapX + 1) * (outH tapX + 1)) (tapFps tapX * decK tapX, decM tapX) 1) 1
      (List.range 8) [] = some [0] ∧ freeSlot (run .encOpen (sqe 0x05000000 0 encL) d).dev 6 64 = some 0 ∧
    admitFails (openObj 6 0 1 1 (run .encOpen (sqe 0x05000000 0 encL) d).dev).2 (openObj 6 0 1 1 d).1 true
      (encWants encL (outW tapX + 1) (outH tapX + 1) (tapFormat tapX) (tapFps tapX * decK tapX, decM tapX) false [0]) = none := by
  unfold bg Begins; decide +kernel
def encE (b : Nat) : Sqe := sqe 0x06000000 b
theorem test_enc_reconfig : bg specEncReconfig (encE (fb 32 0x10 + fb 36 0xFFFFFFFF + fb 52 60)) (encD (encS none)) ∧
    encOf (encD (encS none)) 0x06000000 = some (0, encS none) ∧ tabGet (encD (encS none)).enc 0 = some (encS none) ∧
    tapByHandle (encS none).tap = some (0, 0) ∧ bitOf (le (bodyBytes (encE (fb 32 0x10))) 0 2) 9 = false ∧
    reconfigValid (encD (encS none)) (encS none) (bodyBytes (encE (fb 32 0x10 + fb 36 0xFFFFFFFF + fb 52 60))) = true ∧
    applyCheck (encD (encS none)) 0 (portOf (tapPort (tapOf (encD (encS none)) 0 0).cfg)) 0xFFFFFFFF = none ∧
    (∀ j, pendingShadow (isle (encD (encS none)) j) 10 0 0 = false) ∧
    admitFails (run .encReconfig (encE 0) (encD (encS none))).dev 0x06000000 true
      (encWants (encApply encL (bodyBytes (encE (fb 32 0x10 + fb 36 0xFFFFFFFF + fb 52 60)))) 256 64 0x10 (120, 1) false [2]) = none := by
  unfold bg Begins; decide +kernel
theorem test_enc_force : bg specEncForce (encE (fb 32 1 + fb 36 0xFFFFFFFF)) (encD (encS none)) ∧
    encSource (encD (encS none)) (encS none) = some (0, 0, 0) ∧ applyCheck (encD (encS none)) 0 0 0xFFFFFFFF = none ∧
    forceTargets (encD (encS none)) 0x06000000 = [0] ∧
    bg specEncForce (encE (fb 32 1 + fb 36 0xFFFFFFFF)) (encD (encS (some frc))) ∧
    encSource (encD (encS (some frc))) (encS (some frc)) = some (0, 0, 0) := by unfold bg Begins; decide +kernel
theorem test_enc_close : bg specEncClose (encE (fb 32 1)) (encD (encS none)) ∧ isTop (encD (encS none)) (encS none) = false ∧
    (let d := (run .encClose (encE 0) (encD (encS none encL none [0]))).dev
     (findOutst d 0).isSome = true ∧ encFrames d (encS none encL none [0]) = [] ∧ runningFrame d 0x05000000 = none ∧ d.pcie.short = false) ∧
    ({ encS none encL none [0] with eos := true }).eos = true ∧
    isTop { encD { encS none with ladder := 0x15000000 } with ladders := [(0, { handle := 0x15000000, top := 0x06000000, fields := [] })] }
      { encS none with ladder := 0x15000000 } = true := by unfold bg Begins; decide +kernel
/-- A key picture of frame 5, planned for one engine. -/
def plan0 : EncPlan :=
  { pic := { num := 5, key := true, inner := false, hidden := false, radl := false, isRef := true, layer := 0, ready := 0 }
    sweep := none, start := false, forced := none, head := [1], trail := [], target := 100000, limit := 200000
    shares := [(100000, 200000)], refs := [], ep := 0, ring := none }
def ctu0 : CtuCode := { bits := [true], floor := [true], qp := 0, preds := [] }
def row0 : RowCode := { header := [true], ctus := List.replicate 4 ctu0 }
def workS : EncSes := { encS none with work := some { plan := plan0, parts := [none], edges := [] } }
def workD : Dev := { encD workS [(0x06000000, tfin 5)] with tu := { ns := 50000000 } }
theorem test_enc_picture_at : pictureAt workD workS = some (workS, { plan := plan0, parts := [none], edges := [] }, tfin 5, workD) := rfl
theorem test_enc_picture : workS.engines.idxOf? 2 = some 0 ∧
    engineHead workD 2 = some 0 ∧ encHeld workD workS = false ∧ (codePart workD workS plan0 0 [row0]).isSome = true ∧
    (readSource workS (tfin 5) 0 1 workD).2 = false ∧ (readRefs workS plan0 0 1 workD).2 = [] := by decide +kernel
theorem test_enc_timeout : (nextPicture workD workS).map (·.2) = some 0 ∧ 0 + 50000000 ≤ workD.tu.ns ∧
    (frameFor workD workS 5).isSome = true ∧ (partReady workD workS 2).isSome = true ∧ eoDirect workS.cfg = false ∧
    tabGet workD.enc 0 = some workS ∧ isMember workD workS = false := by decide +kernel
def dirL : List Byte := encL.set 3 1
def rowX : EncRow := { num := 5, plan := plan0, rows := 0, run := { used := 0 }, bytes := [], segs := [], fault := 0, floorAll := false }
def dirS : EncSes := { encS none dirL (some rowX) with h := 128 }
def dirD : Dev := { encD dirS [(0x06000000, tfin 5)] with tu := { ns := 50000000 } }
theorem test_enc_row_at : rowAt dirD dirS = some (dirS, rowX, (tfin 5).fin.frm, dirD) := rfl
theorem test_enc_row : tabGet dirD.enc 0 = some dirS ∧ eoDirect dirS.cfg = true ∧ encHeld dirD dirS = false ∧
    rowOk dirD dirS plan0 0 (ctus 256) 0 row0 = true ∧
    rowPresented dirD dirS 5 0 = true ∧ rowX.rows + 1 < ctus dirS.h ∧ (readRefs dirS plan0 0 (ctus dirS.h) dirD).2 = [] ∧
    directFrame dirD dirS = some (tfin 5).fin.frm ∧ rowInstant dirD dirS (tfin 5).fin.frm 0 + 4096 ≤ dirD.tu.ns ∧ 2 ∈ dirS.engines := by
  decide +kernel
def topS : EncSes := { encS none with ladder := 0x15000000, last := some 5 }
def fv : FieldVec := { quarter := (-256, 128), half := (8, -8), full := (0, 4) }
theorem test_motion_field : isTop { encD topS with ladders := [(0, { handle := 0x15000000, top := 0x06000000, fields := [] })] } topS = true ∧
    topS.last = some 5 ∧ (List.replicate (fieldWidth 256 * divUp 64 16) fv).length = fieldWidth topS.w * divUp topS.h 16 ∧
    searchOk fv = true := by decide +kernel

/-! 09, 10: Holm Raw and decode sessions. -/

def holmL : List Byte := toLE 128 (at' 0 1 + at' 2 1 + at' 4 2 + at' 5 2 + at' 8 120 + at' 26 1)
theorem test_holm_open : bg specHolmOpen (sqe 0x02000000 0 holmL) isD ∧ holmValid (fit 128 holmL) = true ∧ hoRing holmL = false ∧
    bitOf (hoStreams holmL) 1 = false ∧ isleAvail isD 0 = true ∧ isleHolmRate isD 0 + holmRate holmL (geoOf pk) ≤ 32000000000 ∧
    freeSlot isD 9 8 = some 0 ∧ admitFails (openObj 9 0 1 1 (run .holmOpen (sqe 0x02000000 0 holmL) isD).dev).2
      (openObj 9 0 1 1 isD).1 true (holmWants 0 pk holmL) = none := by unfold bg Begins; decide +kernel
def wk (frm : Option Frm) (rows : Nat) : HolmWork :=
  { num := 4, t := 0, tm := pk.timing, frm, rows := List.replicate rows { at' := 0, choices := [] }, fault := 0, cut := false, due := [0, 0] }
def holmS (w : List HolmWork) (closing : List Nat := []) : HolmSes :=
  { handle := 0x09000000, port := 0, isle := 0, cfg := holmL, geo := geoOf pk, memory := false, lastT := none, last := none
    count := 0, skipped := 0, seq := 0, dropped := 0, work := w, closing, now := false, au := none }
def holmDev (x : HolmSes) : Dev := { isD with holm := [(0, x)] }
theorem test_holm_work : (wk none 1).rows.length < blockRows (geoOf pk) ∧ blockRows (geoOf pk) ≤ (wk (some frm) 2).rows.length ∧
    inProgress (holmDev (holmS [wk none 1])) (holmS [wk none 1]) = some (wk none 1) ∧
    ((holmDev (holmS [wk none 1])).holm.map (·.1)).Nodup := by decide +kernel
theorem test_holm_close : bg specHolmClose (sqe 0x09000000 (fb 32 1)) (holmDev (holmS [])) ∧
    holmOf (holmDev (holmS [])) 0x09000000 = some (0, holmS []) ∧
    (findOutst (run .holmClose (sqe 0x09000000 1) (holmDev (holmS [] [0]))).dev 0).isSome = true := by unfold bg Begins; decide +kernel
def decL : List Byte := toLE 128 (at' 1 1 + at' 3 2 + at' 4 1919 + at' 6 1087 + at' 8 60 + at' 10 3 + at' 11 2 + at' 12 0x10 + at' 16 8000 +
  at' 20 1048576 + at' 42 1)
theorem test_dec_open : bg specDecOpen (sqe 0 0 decL) ∧ decValid (fit 128 decL) = true ∧ doRing decL = false ∧ doIsle decL = false ∧
    doRt decL = true ∧ placeDec dev0 (divUp ((doMaxW decL + 1) * (doMaxH decL + 1) * doFps decL) 1000000) = some 0 ∧
    freeSlot dev0 8 16 = some 0 ∧ admitFails (openObj 8 0 1 1 (run .decOpen (sqe 0 0 decL)).dev).2 (openObj 8 0 1 1 dev0).1 true
      (decWants decL (some 0)) = none := by unfold bg Begins; decide +kernel
def decI (l : List Byte) : DecIn :=
  { seq := 1, tag := 0, pts := none, bytes := l, disc := false, eos := false, mute := false, auEnd := true, at' := 0 }
def decS (input : List DecIn) (outq : List DecOut := []) (cfg : List Byte := decL) : DecSes :=
  { handle := 0x08000000, cfg, engine := some 0, input, subs := 0, start := true, skipping := false, lastP := none, outq
    shown := [], count := 0, discards := 0, prev := none, fault := none, seq := 0, dropped := 0, dropSeen := 0, made := 0 }
def decD (x : DecSes) : Dev := { dev0 with dec := [(0, x)], evt := { mask := 0x1FFE }, tu := { ns := 90000000 } }
/-- A session whose input buffer has no room. -/
def fullS : DecSes := decS [decI [1]] [] (toLE 128 0)
theorem test_dec_submit : bg specDecSubmit (sqe 0x08000000 (fb 40 0xFFFFFFFFFFFFFFFF) [1, 2]) (decD (decS [])) ∧
    (decOf (decD (decS [])) 0x08000000 == some (0, decS [])) = true ∧
    readAhead (run .decSubmit (sqe 0x08000000 0 [1, 2]) (decD (decS []))).dev (cmd .decSubmit (sqe 0x08000000 0 [1, 2])) = false ∧
    2 ≤ inFree (decS []) ∧ bg specDecSubmit (sqe 0x08000000 0 [1, 2]) (decD fullS) ∧ inFree fullS < 2 := by unfold bg Begins; decide +kernel
/-- The access unit of a frame without lines, every block FLAT. -/
def holmIn : List Byte := (holmAu holmL (geoOf pk) frm [] false (wk (some frm) 0)).bytes
def holmDecL : List Byte := toLE 128 (at' 0 2 + at' 1 1 + at' 3 2 + at' 4 1919 + at' 6 1087 + at' 8 60 + at' 10 1 + at' 11 2 + at' 12 0x21 +
  at' 16 8000 + at' 20 1048576 + at' 42 1)
def holmX : DecSes := decS [decI holmIn] [] holmDecL
def readX (x : DecSes) : Option DecSes := tabGet (readInput 0 x 100000 (decD x)).dec 0
theorem test_dec_holm : engineTakes (decD holmX) 0 0 holmX = true ∧ decValid holmDecL = true ∧
    ((readX holmX).any fun y => doCodec y.cfg == 2 && y.pool.isEmpty && match nextAu y with
      | some (.holm b h n) => b == 0 && n == holmIn.length && decide (h.geo.samples ≤ doMaxW y.cfg) && decide (h.geo.height ≤ doMaxH y.cfg) &&
          ((beginsIn y (.holm b h n)).map (·.mute) == some false)
      | _ => false) = true := by decide +kernel
/-- An IDR slice behind its start code, its access unit ended by AU_END. -/
def idr : List Byte := [0, 0, 1, 0x26, 1, 0x80, 0x11]
def codedX : DecSes := decS [decI idr]
theorem test_dec_coded : engineTakes (decD codedX) 0 0 codedX = true ∧
    ((readX codedX).any fun y => doCodec y.cfg == 0 && match nextAu y with
      | some (.coded us _) => (match us.filter isSlice with
        | v :: _ => !leavesOut y (isIrap (nalKind v)) && nalKind v == 19
        | [] => false)
      | _ => false) = true ∧
    (∀ i ∈ [decI idr], i.eos = false ∧ i.disc = false) ∧ engineTakes (decD (decS [])) 0 0 (decS []) = false := by decide +kernel
def pic0 : DecPic :=
  { width := 1919, height := 1079, format := 0x10, picType := 0, crop := [], errMap := [], substRef := false, filmGrain := false
    memErr := false, fault := false }
def outq1 (p : Nat) (eos : Bool := false) : DecOut :=
  { id := 0, seq := 1, tag := 0, status := 0, p, doneNs := 0, pic := pic0, planes := [], axis := [], frm := none, geo := noGeo, eos }
theorem test_dec_present : nextOut (decS [] [outq1 90000000]) = some (outq1 90000000) ∧ (outq1 90000000).p ≤ (decD (decS [])).tu.ns ∧
    (decD (decS [])).tu.ns < (outq1 90000001).p ∧ nextOut (decS [] [outq1 90000001]) = some (outq1 90000001) ∧
    nextOut (decS [] [outq1 0 true]) = some (outq1 0 true) := by decide +kernel
theorem test_dec_close : bg specDecClose (sqe 0x08000000 0) (decD (decS [])) := by unfold bg Begins; decide +kernel
theorem test_dec_faults : engineSession (decD codedX) 0 = some 0 ∧ codedX.engine = some 0 ∧
    ((readyAt (decD codedX) codedX).any fun n => decide (n + 50000000 ≤ (decD codedX).tu.ns)) = true ∧ Queues (at0 (decD codedX)) 4 := by
  unfold Queues; decide +kernel

/-- A mark without data: END_OF_STREAM. -/
theorem test_dec_mark : bg specDecMark (sqe 0x08000000 (fb 32 2)) (decD (decS [])) := by unfold bg Begins; decide +kernel
/-! 12: the memory. -/

def hbD (f : Hbm → Hbm) : Dev := { dev0 with hbm := f {}, evt := { mask := 0x1FFE } }
def rd (n : Nat) (u : Bool) : EccRead := { corrected := n, uncorrectable := u }
/-- 12 R321. -/
theorem test_hbm_example : hbmPlace false 1 0x481234A00 = { sid := 1, pc := 0x22, bank := 4, row := 0x812, col := 256 } ∧
    (48 : Nat) * 2 ^ 30 - 1 < 48 * 2 ^ 30 ∧ (hbmPlace false 0 0).pc = (hbmPlace false 0 255).pc := by decide +kernel
theorem test_training : hbmRuns dev0 = true ∧ hbmPcs dev0 = 64 ∧ hbmPcs { dev0 with ident := { dev0.ident with b24 := true } } = 32 ∧
    (hbD id).hbm.margin.getD 63 none = none ∧
    (hbD fun h => { h with margin := h.margin.set 63 (some 5) }).hbm.margin.getD 63 none = some 5 ∧ Queues (at0 (hbD id)) 5 := by
  unfold Queues; decide +kernel
def lastSector : Nat := 48 * 2 ^ 30 / 32 - 1
theorem test_scrub : (hbD id).hbm.pos ∉ (hbD id).hbm.poison ∧ 32 * ((hbD id).hbm.pos + 1) < hbmBytes (hbD id) ∧
    (rd 0 true).uncorrectable = true ∧ (rd 1 false).corrected ≠ 0 ∧ (rd 0 false).corrected = 0 ∧ (rd 0 true).upsets = [] ∧
    queued (hbD id) (hbD id).hbm.pos = none ∧ tabGet (hbD id).hbm.upset (hbD id).hbm.pos = none ∧
    queued (hbD fun h => { h with poison := [0] }) 0 = none ∧ queued (hbD fun h => { h with pos := lastSector }) lastSector = none ∧
    tabGet (hbD fun h => { h with pos := lastSector }).hbm.upset lastSector = none ∧
    (hbD fun h => { h with poison := [0] }).hbm.pos ∈ (hbD fun h => { h with poison := [0] }).hbm.poison ∧
    hbmBytes (hbD fun h => { h with pos := lastSector }) ≤ 32 * (lastSector + 1) ∧
    32 * lastSector < hbmBytes (hbD id) := by decide +kernel
theorem test_lagoon : 8 * ((hbD id).hbm.lagPos + 1) < lagoonBytes ∧ lagoonBytes ≤ 8 * (201326591 / 8 + 1) ∧
    15 / 8 ∈ (hbD fun h => { h with lagPoison := [1] }).hbm.lagPoison ∧ cellsWf State.reset.mem.lagoon = true ∧
    16 / 8 ∉ (hbD fun h => { h with lagPoison := [1] }).hbm.lagPoison := by decide +kernel
def memE : Sqe := sqe 0 (fb 32 6 + fb 36 168 + fb 37 0xFF + fb 38 1)
theorem test_feature_memory : bg specFeatureSetMemory memE ∧ hbmRuns { dev0 with pwr := { dev0.pwr with state := 2 } } = false := by
  unfold bg Begins; decide +kernel

/-! 13: media ports, recording and reads. -/

def info0 : MediumInfo :=
  { linkRate := 4, linkWidth := 4, lbs := 512, mdSize := 8, pi64 := true, nsid := 1, nsze := 1000000, mdts := 65536, tempK := 300
    sn := [], mn := [], fr := [] }
def medD (m : Medium) (recs : List (Nat × RecSes) := []) : Dev :=
  { dev0 with media := dev0.media.set 0 m, recs, evt := { mask := 0x1FFE } }
def m2 : Medium := { state := 2, info := some info0 }
def m3 : Medium := { state := 3, info := some info0, nsid := 1 }
def medE (sub body : Nat) (data : List Byte := []) : Sqe := sqe 0x0A000000 (fb 32 sub + body) data
theorem test_medium_in : (medium (medD {}) 0).state = 0 ∧ mediaPowered (medD {}) = true ∧ Queues (at0 (medD {})) 6 := by
  unfold Queues; decide +kernel
theorem test_attach : (bg specMediaAttachAttach (medE 0 (fb 33 1 + fb 34 10 + fb 36 1)) (medD m2) ∧ nsOk info0 1 1 = true ∧ m2.attach = none) ∧
    bg specMediaAttachAttach (medE 0 (fb 34 1000 + fb 36 1)) (medD m3) ∧
    (findOutst (run .mediaAttachAttach (medE 0 0) (medD { m2 with attach := some (0, 1, true, 250) })).dev 0).isSome = true := by
  unfold bg Begins; decide +kernel
def strm : RecStream :=
  { exts := [(0, 1048576)], base := 0, extDone := 0, seq := 7, off := 4096, items := [], written := 4096, committed := 4096, flushing := []
    want := 4096, failed := false, low := false }
def recL : List Byte := toLE 128 (at' 1 1 + at' 4 10 + at' 8 5 + at' 16 0x09000000)
def recS (y : RecStream) (w : List RecWait := []) (closing : Bool := false) (ready : List (Nat × AuOut) := []) : RecSes :=
  { handle := 0x0B000000, cfg := recL, srcs := [{ handle := 0x09000000, kind := 2, seq := 0, gap := false }], ready, staging := 1048576
    s0 := some y, s1 := none, state := 0, waits := w, closing, gone := false, lastNs := 0 }
def recD (x : RecSes) : Dev := { medD m3 [(0x0B000000, x)] with tu := { ns := 100000000 } }
theorem test_detach : (bg specMediaAttachDetach (medE 1 0) (medD m3) ∧ mediumUsed (medD m3) 0 = false) ∧
    (bg specMediaAttachDetach (medE 1 0) (recD (recS strm)) ∧ mediumUsed (recD (recS strm)) 0 = true) ∧
    bg specMediaAttachInfo (medE 2 0 (buf 128)) (medD m3) ∧
    (findOutst (run .mediaAttachDetach (medE 0 0) (medD { m3 with detach := some 0 })).dev 0).isSome = true := by
  unfold bg Begins; decide +kernel
def opD : Dev := { medD m3 with holm := [(0, holmS [])], ports := isD.ports, grps := isD.grps }
theorem test_rec_open : bg specRecOpen (sqe 0 0 recL) opD ∧ recValid (fit 128 recL) = true ∧ roMode recL = 0 ∧
    (List.range (roCount recL)).map (roSource recL) = [0x09000000] ∧ feeds opD 0x09000000 < 4 ∧
    (((List.range (roCount recL)).map (roSource recL)).filterMap (srcRate opD)).length = roCount recL ∧
    mediaPorts (roMedia recL) = [0] ∧ attachedOk opD 0 = true ∧ freeSlot opD 0x0B 16 = some 0 ∧
    admitFails (openObj 0x0B 0 1 1 (run .recOpen (sqe 0 0 recL) opD).dev).2 (openObj 0x0B 0 1 1 opD).1 true
      (recWants recL (lbsOf opD 0) (((List.range (roCount recL)).map (roSource recL)).filterMap (srcRate opD))) = none := by
  unfold bg Begins; decide +kernel
def recE (b : Nat) (data : List Byte := []) : Sqe := sqe 0x0B000000 b data
def extData : List Byte := toLE 16 (at' 0 4096 + at' 8 2047)
def many : RecStream := { strm with exts := List.replicate 1024 (0, 512) }
theorem test_rec_extents : bg specRecExtents (recE 0 extData) (recD (recS strm)) ∧ recOf (recD (recS strm)) 0x0B000000 = some (recS strm) ∧
    (recS strm).on 0 = some strm ∧ badExtent 1000000 (extsOn (recD (recS strm)) 0) 0 (extEntries 16 extData) = none ∧
    strm.exts.length + (extEntries 16 extData).length ≤ 1024 ∧
    bg specRecExtents (recE 0 extData) (recD (recS many)) ∧ 1024 < many.exts.length + (extEntries 16 extData).length := by
  unfold bg Begins; decide +kernel
theorem test_rec_extents_full : recOf (recD (recS many)) 0x0B000000 = some (recS many) ∧
    badExtent 1000000 (extsOn (recD (recS many)) 0) 0 (extEntries 16 extData) = none := by decide +kernel
def unit0 : AuOut := { num := 4, status := 0, pts := 0, rap := true, damaged := false, bytes := [1, 2, 3], segs := [] }
theorem test_rec_item : let x := recS strm [] false [(0, unit0)]
    x.srcs[0]?.isSome = true ∧ roMode x.cfg = 0 ∧
    (itemBytes (lbsOf (recD x) 0) 2 0 1 (roSession x.cfg) 7 0 4096 unit0).length = 512 ∧ 512 ≤ extSpace strm ∧
    stagedBytes x + 512 ≤ x.staging := by decide +kernel
def item0 : RecItem := { off := 4096, len := 512, writes := [(8, [])], retried := false }
theorem test_rec_writes : ({ strm with items := [item0] } : RecStream).items = [item0] ∧ (recS { strm with items := [item0] }).waits = [] ∧
    tabGet (recD (recS { strm with flushing := [4096] })).recs 0x0B000000 = some (recS { strm with flushing := [4096] }) := by decide +kernel
theorem test_commit_timer : let y := { strm with committed := 0 }
    (recS y).s1 = none ∧ roCommitMs (recS y).cfg = 10 ∧ (recS y).lastNs + 10 * 1000000 ≤ (recD (recS y)).tu.ns ∧ y.want ≤ y.written ∧
    y.committed < y.written ∧ y.flushing = [] := by decide +kernel
def wait0 : RecWait := { tag := 0, qp := 1, close := false, to0 := some 4096, to1 := none, ns := 0, owed := false }
theorem test_rec_commit : (bg specRecCommit (recE 0) (recD (recS strm)) ∧ reached (recS strm).s0 (target 0 (recS strm).s0) = true ∧
      reached (recS strm).s1 (target 0 (recS strm).s1) = true) ∧
    (let y := { strm with committed := 0 }
     bg specRecCommit (recE 0) (recD (recS y)) ∧ recOf (recD (recS y)) 0x0B000000 = some (recS y) ∧ reached (recS y).s0 (target 0 (recS y).s0) = false) ∧
    (let d := (run .recCommit (recE 0) (recD (recS { strm with committed := 0 } [wait0]))).dev
     (findOutst d 0).isSome = true ∧ wait0.ns + 100000000 ≤ d.tu.ns) := by unfold bg Begins; decide +kernel
theorem test_rec_close : (let y := { strm with committed := 0 }
     bg specRecClose (recE (fb 32 1)) (recD (recS y)) ∧ (recS y).s0.any (fun y => !y.failed && decide (y.committed < y.off)) = true) ∧
    bg specRecClose (recE 0) (recD (recS strm [] true)) ∧ recOf (recD (recS strm [] true)) 0x0B000000 = some (recS strm [] true) := by
  unfold bg Begins; decide +kernel
def rdE (b n : Nat) : Sqe := { sqe 0x0A000000 b with dataLen := BitVec.ofNat 32 n, bdl := [(0, BitVec.ofNat 32 n, 0)] }
theorem test_media_read : (bg specMediaReadBlocks (rdE (fb 40 999999) 512) (medD m3) ∧ rangeOk (medD m3) (rdE (fb 40 999999) 512) = true ∧
      rangeOk (medD m3) (rdE (fb 40 1000000) 512) = false ∧ readBlocks (rdE 0 512) * lbsOf (medD m3) 0 = 512) ∧
    (let d := { medD m3 with dec := [(0, decS [])] }
     bg specMediaReadItems (medE 1 (fb 36 0x08000000)) d ∧ rangeOk d (medE 1 (fb 36 0x08000000)) = true ∧
     decOf d (fld (medE 1 (fb 36 0x08000000)) 36 4) = some (0, decS []) ∧
     decAhead (run .mediaReadItems (medE 1 (fb 36 0x08000000)) d).dev (cmd .mediaReadItems (medE 1 (fb 36 0x08000000))) = false) := by
  unfold bg Begins; decide +kernel
def read0 (items : Bool) : MediaRead :=
  { cmd := 0, port := 0, items, source := 0, dec := 0x08000000, slba := 0, blocks := 1, got := [], count := 0, lost := 0, expect := none
    moved := 0, failed := none }
def readD (items : Bool) : Dev :=
  (run (if items then .mediaReadItems else .mediaReadBlocks) (medE 0 0) { medD m3 with reads := [read0 items], dec := [(0, decS [])] }).dev
theorem test_read_done : ((readD false).reads.find? fun y => y.cmd == 0) = some (read0 false) ∧ (findOutst (readD false) 0).isSome = true ∧
    0 < lbsOf (readD false) 0 ∧ (read0 false).done + 1 = (read0 false).blocks ∧ decOf (readD true) (read0 true).dec = some (0, decS []) ∧
    readItemHead (fit (lbsOf (readD true) 0) [1]) = none ∧ ((readD true).reads.find? fun y => y.cmd == 0) = some (read0 true) := by
  decide +kernel

/-- The clauses that ask for a read that passes, for the limits of R352, and for what a REC_CLOSE and a read wait for. -/
theorem test_rec_item_read : let d := recD (recS strm [] false [(0, unit0)])
    (portRead 0x0B000000 0 unit0 d).most.isNone = true ∧ (unitBad unit0 unit0.bytes).1 = 0 ∧ afterClose d 0x0B000000 unit0 = false ∧
    itemStreams (recS strm) 0 = [0] := by decide +kernel
def lateY : RecStream := { strm with items := [{ item0 with sent := 0 }], off := 8192 }
theorem test_rec_limits : overLimit lateY 100000000 100000000 = true ∧ overLimit lateY 99999999 100000000 = false ∧
    overLimit { strm with flushing := [4096], flushNs := [5] } 100000005 100000000 = true ∧ overLimit strm 100000000 0 = false ∧
    ((recD (recS strm)).tu.ns < (recS strm).lastNs + 101 * 1000000) := by decide +kernel
theorem test_rec_close_waits : let y := { strm with committed := 0 }
    recOf (recD (recS y)) 0x0B000000 = some (recS y) ∧ (recS y).closing = false ∧ (recS y).state ≠ 2 ∧ (recS y).on 0 = some y ∧
    y.failed = false ∧ y.committed < y.off ∧ (∀ i ∈ y.items, i.sent ≤ (recD (recS y)).tu.ns) ∧ fld (recE (fb 32 1)) 32 1 = 1 ∧
    (∀ w ∈ (recS y).waits, w.tag ≠ 0 ∧ w.close = false) ∧
    (∀ r ∈ [((0 : Nat), { unit0 with at' := 1 })], (cmd .recClose (recE 0)).ns < r.2.at') := by decide +kernel
theorem test_rec_degraded : let x := { recS strm with state := 2 }
    bg specRecClose (recE 0) (recD x) ∧ recOf (recD x) 0x0B000000 = some x ∧ x.closing = false ∧ x.waits = [] ∧ x.flushes = [] ∧
    bg specRecCommit (recE 0) (recD x) := by unfold bg Begins; decide +kernel
theorem test_commit_timeout_close : let d := (run .recClose (recE 0) (recD (recS strm [{ wait0 with close := true }] true))).dev
    (d.recs.find? fun p => p.2.waits.any fun w => w.tag == 0 && !w.owed).isSome = true ∧ (findOutst d 0).isSome = true ∧
    wait0.ns + 100000000 ≤ d.tu.ns := by decide +kernel
def detD (reported : Bool) : Dev :=
  (run .mediaAttachDetach (medE 1 0) { medD { m3 with detach := some 0, detachNs := 5, limitMs := 2 } with
    tu := { ns := if reported then 2000005 else 2000004 } }).dev
theorem test_detach_limit : (medium (detD true) 0).detach = some 0 ∧ (medium (detD true) 0).state = 3 ∧ (findOutst (detD true) 0).isSome = true ∧
    (medium (detD true) 0).detachNs + (medium (detD true) 0).limitMs * 1000000 ≤ (detD true).tu.ns ∧
    (detD false).tu.ns < (medium (detD false) 0).detachNs + (medium (detD false) 0).limitMs * 1000000 := by decide +kernel
theorem test_read_stop : let r := { read0 false with blocks := 16, done := 1, moved := 512, stop := true }
    let n := (4096 - r.moved % 4096) / lbsOf (readD false) 0
    n = 7 ∧ (r.moved + n * lbsOf (readD false) 0) % 4096 = 0 ∧ r.done + n ≤ r.blocks ∧
    n ≤ (ReadResult.mk (List.replicate 8 []) none false).blocks.length := by decide +kernel
/-! 14: the servo, PTP, TIME_GET, GENLOCK_IN, time code. -/

def ptpL (role src : Nat) (two : Nat := 1) : List Byte :=
  toLE 64 (at' 0 1 + at' 1 role + at' 2 1 + at' 3 two + at' 11 3 + at' 13 src + at' 14 100 + at' 16 1000 + at' 20 100 + at' 32 120 + at' 36 1)
def msg0 : PtpMsg :=
  { port := 0, domain := 0, seqId := 5, twoStep := false, mac := { eighths := 9236, vary := 0 }, toUs := false, origin := 0, correction := 0, gmId := 1, parentId := 1
    stepsRemoved := 0, priority1 := 128, clockClass := 6, accuracy := 0x21, variance := 1, priority2 := 128 }
def netOn (mode : Nat) : NetPort := { on := true, up := true, cfg := toLE 32 (at' 0 1 + at' 2 mode) }
def ptpD (role src two mode : Nat) (pp : PtpPort) (f : Ptp → Ptp := id) : Dev :=
  { dev0 with nets := Vector.replicate 2 (netOn mode), evt := { mask := 0x1FFE }
              ptp := f { cfg := ptpL role src two, ports := Vector.replicate 2 {} |>.set 0 pp, seen := true, state := 1 } }
def mast : PtpPort := { master := some msg0 }
theorem test_servo : pcLock (ptpD 0 0 1 0 mast) = 100 ∧ pcStep (ptpD 0 0 1 0 mast) * 65536 < (65536001 : Int).natAbs ∧
    stepAllowed (ptpD 0 0 1 0 mast) = true ∧ pcSrc (ptpD 0 0 1 0 mast) ≠ 2 ∧
    (let d := ptpD 0 0 1 0 mast (fun p => { p with good := 15 })
     d.ptp.state = 1 ∧ (6553600 : Int).natAbs ≤ pcLock d * 65536 ∧ 15 ≤ d.ptp.good ∧ (6553600 : Int).natAbs ≤ pcStep d * 65536) := by
  decide +kernel
theorem test_ptp_slave : netUp (ptpD 0 0 1 0 mast) 0 = true ∧ fromMaster (ptpD 0 0 1 0 mast) msg0 = true ∧ msg0.twoStep = false ∧
    pcSrc (ptpD 0 0 1 0 mast) = 0 ∧ fromMaster (ptpD 0 0 1 0 mast) { msg0 with twoStep := true } = true ∧
    (ptpPort (ptpD 0 0 1 0 { mast with sync := some msg0 }) 0).sync = some msg0 ∧
    fromMaster (ptpD 0 0 1 0 { mast with sync := some msg0 }) msg0 = true ∧ slaveOn (ptpD 0 0 1 0 mast) 0 = true ∧
    (let d := ptpD 0 0 1 0 { mast with pair := some (0, 100), req := some (5, 200) }
     (ptpPort d 0).req = some (msg0.seqId, 200) ∧ fromMaster d msg0 = true) := by decide +kernel
theorem test_ptp_chain : fromMaster (ptpD 0 0 1 1 {}) msg0 = false ∧ chained (ptpD 0 0 1 1 {}) = true ∧
    netUp (ptpD 0 0 1 1 {}) (otherNet 0) = true ∧ msg0.toUs = false ∧ msg0.mac.ok = true ∧ chained (ptpD 0 0 1 0 {}) = false := by decide +kernel
theorem test_ptp_master : masterOn (ptpD 1 0 1 0 {}) 0 = true ∧ pcTwoStep (ptpD 1 0 1 0 {}) = true ∧ masterOn (ptpD 1 0 0 0 {}) 0 = true ∧
    pcTwoStep (ptpD 1 0 0 0 {}) = false ∧ msg0.domain = pcDomain (ptpD 1 0 1 0 {}) := by decide +kernel
theorem test_announce : ptpUses (ptpD 0 0 1 0 mast) 0 = true ∧ lexLess (masterRank { msg0 with priority1 := 127 }) (masterRank msg0) = true ∧
    lexLess (masterRank { msg0 with parentId := 2 }) (masterRank msg0) = false ∧ netUp dev0 0 = false := by decide +kernel
theorem test_ptp_config : bg specPtpConfig (sqe 0 0 (ptpL 0 1)) (ptpD 0 2 1 0 {}) ∧ ptpValid (fit 64 (ptpL 0 1)) = true ∧
    ∀ n : NetId, bitOf (le (ptpL 0 1) 2 1) n.val = true → ncOn (ptpD 0 2 1 0 {}) n = true := by unfold bg Begins; decide +kernel
theorem test_time_get : bg specTimeGetRead (sqe 0 0) ∧ bg specTimeGetSet (sqe 0 (fb 32 1 + fb 36 10 + fb 44 999999999)) (ptpD 0 2 1 0 {}) ∧
    stepAllowed (ptpD 0 2 1 0 {}) = true ∧ bg specTimeGetSet (sqe 0 (fb 32 1)) (ptpD 0 0 1 0 {}) ∧
    bg specTimeGetSet (sqe 0 (fb 32 1)) (capDev pk live) ∧ stepAllowed (capDev pk live) = false ∧
    bg specTimeGetStatus (sqe 0 (fb 32 2) (buf 96)) := by unfold bg Begins; decide +kernel
theorem test_genlock_in : pcSrc (ptpD 0 1 1 0 {}) = 1 ∧ true ≠ pcGlFalling (ptpD 0 1 1 0 {}) ∧ (ptpD 0 1 1 0 {}).ptp.state = 1 ∧
    masterOf (ptpD 0 0 1 0 mast) = some msg0 := by decide +kernel
theorem test_ltc : let d := ptpD 0 2 1 0 {} (fun p => { p with ltcGood := 3 })
    d.ptp.ltcLock = false ∧ pcSrc d ≠ 1 ∧ Queues (at0 d) 7 ∧
    Queues (at0 (ptpD 0 2 1 0 {} (fun p => { p with ltcLock := true }))) 7 ∧
    (let d := ptpD 0 2 1 0 {} (fun p => { p with cfg := p.cfg.set 50 1 })
     le d.ptp.cfg 50 1 = 1 ∧ tcInstant (pcTcRate d) (tcPoint (pcTcRate d) 1000000000) = 1000000000) := by unfold Queues; decide +kernel
/-- What the silences of 14 R373 and R388 wait for. -/
theorem test_silent : let d (src ns : Nat) := { ptpD 0 src 1 0 mast (fun p => { p with edgeNs := 5 }) with tu := { ns := ns } }
    refSilent (d 1 (5 + edgeLimit (d 1 0))) = true ∧ refSilent (d 1 (4 + edgeLimit (d 1 0))) = false ∧ (d 1 0).ptp.state = 1 ∧
    refSilent (d 0 (syncLimit (d 0 0))) = true ∧ refSilent (d 0 (syncLimit (d 0 0) - 1)) = false ∧ syncLimit (d 0 0) ≠ 0 ∧
    (let e := { ptpD 0 0 1 0 mast with tu := { ns := 2 ^ 40 } }
     masterOf e = some msg0 ∧ masterOf (dropSilent 1 (dropSilent 0 e)) = none ∧ pcSrc e = 0) := by decide +kernel
theorem test_ltc_silent : let d (ns : Nat) := { ptpD 0 2 1 0 {} (fun p => { p with ltcLock := true, ltc := [(1000000, 0)] }) with tu := { ns := ns } }
    ltcSilent (d 200000000) = true ∧ (d 200000000).ptp.ltcLock = true ∧ ltcSilent (d 1000001) = false ∧ Queues (at0 (d 200000000)) 7 ∧
    ltcFollows (pcTcRate (d 0)) 1000000 (1000000 + 1000000000 * (tcRate (pcTcRate (d 0))).2 / (tcRate (pcTcRate (d 0))).1) = true ∧
    ltcFollows (pcTcRate (d 0)) 1000000 1000001 = false := by unfold Queues; decide +kernel
/-- 14 R368: NS32 = 4,000,000,000 read against 10 s lies at 8.294967296 s. -/
theorem test_ns32_example : (8294967296 : Nat) % 2 ^ 32 = 4000000000 ∧ ns32 { dev0 with tu := { ns := 8294967296 } } = 4000000000 := by
  decide +kernel

/-! 14: network ports and flows. -/

def ncE (en : Nat) : Sqe := sqe 0x0C000000 (if en = 1 then fb 32 1 + fb 48 30 else 0)
def netD (f : Flow) (up : Bool := true) : Dev :=
  { dev0 with nets := dev0.nets.set 0 { netOn 0 with up }, flows := [(0, f)], evt := { mask := 0x1FFE } }
def flL (k : Nat) : List Byte := toLE 64 (at' 0 k + at' 1 1 + at' 6 1200 + at' 22 96 + at' 28 20000 + at' 32 120 + at' 36 1)
def flow0 (k : Nat) (ready : List (Nat × AuOut) := []) (busy : Nat := 0) (closing : List Nat := []) : Flow :=
  { handle := 0x0D000000, src := 0x0F000000, cfg := flL k, sent := 0, seq := 0, ready, tx := [], busy, closing
    rx := { next := some 65535, kept := [], parts := [], tail := 0, stamp := none, lost := 0 } }
def noFlow : Dev := { netD (flow0 2) with flows := [] }
theorem test_net_config : (bg specNetConfig (ncE 1) ∧ (net dev0 0).on = false ∧ le (toLE 32 (sqeBody (ncE 1))) 2 1 = 0) ∧
    (bg specNetConfig (ncE 0) noFlow ∧ netUsed noFlow 0 = false ∧ (net noFlow 0).on = true ∧ (net noFlow 0).fwd ≤ noFlow.tu.ns) ∧ (bg specNetConfig (ncE 0) (netD (flow0 2)) ∧ netUsed (netD (flow0 2)) 0 = true) := by
  unfold bg Begins; decide +kernel
theorem test_net_link : (net (netD (flow0 2) false) 0).up = false ∧ (net (netD (flow0 2)) 0).up = true ∧ Queues (at0 (netD (flow0 2))) 7 := by
  unfold Queues; decide +kernel
def eth (fcs : Bool) : EthFrame := { bytes := [1, 2, 3], fcsOk := fcs, toUs := false, multicast := false, ptpEvent := false, taken := false }
theorem test_net_frames : netUp (netD (flow0 2)) 0 = true ∧ (eth true).fcsOk = true ∧ (eth false).fcsOk = false ∧
    chained (ptpD 0 0 1 1 {}) = true ∧ netUp (ptpD 0 0 1 1 {}) (otherNet 0) = true ∧ 262141 + (eth true).bytes.length ≤ 262144 ∧
    262144 < 262142 + (eth true).bytes.length ∧ Queues (at0 (ptpD 0 0 1 1 {})) 7 := by unfold Queues; decide +kernel
def vidD : Dev := { modTap 0 0 (fun _ => { on := true, cfg := tapX.set 2 0x12 }) isD with nets := dev0.nets.set 0 (netOn 0) }
theorem test_flow_open : bg specFlowOpen (sqe 0x05000000 0 (flL 0)) vidD ∧ flowValid (fit 64 (flL 0)) = true ∧
    handleKnown vidD 0x05000000 = true ∧ (∃ src, flowSrc vidD 0 0x05000000 = some src ∧ flowSuits vidD (flL 0) src = true ∧
      flowSrcOn vidD src = true ∧ admitFails (openObj 0x0D 0 1 1 (run .flowOpen (sqe 0x05000000 0 (flL 0)) vidD).dev).2
        (openObj 0x0D 0 1 1 vidD).1 true (flowWants vidD (flL 0) src) = none) ∧
    flMtu (flL 0) + 8 + wireExtra (flL 0) ≤ 9216 ∧ flowCount vidD false < 64 ∧ attCount vidD 0 0 < 8 ∧
    freeSlot vidD 0x0D 80 = some 0 ∧ ∀ n : NetId, bitOf (flPorts (flL 0)) n.val = true → ncOn vidD n = true := by
  unfold bg Begins
  exact ⟨by decide +kernel, by decide +kernel, by decide +kernel, ⟨_, rfl, by decide +kernel, by decide +kernel, by decide +kernel⟩,
    by decide +kernel⟩
theorem test_flow_tx : flowSlotAfter (flL 4) 0 0 = 20000 ∧ (flow0 4 [(0, unit0)]).busy ≤ 20000 ∧ 20000 < (flow0 4 [(0, unit0)] 20001).busy ∧
    bitOf (flPorts (flL 4)) 0 = true ∧ (net (netD (flow0 4)) 0).up = true ∧ (flow0 4).closing = [] ∧
    flowSlotAfter (flL 0) (hcH (({} : Head)).cfg) 0 = flowSlotAfter (flL 0) 0 0 := by decide +kernel
def aud1 : AudSes :=
  { handle := 0x0F000000, port := 0, play := false, cfg := buf 64, mask := 3, seq := 0, next := 0, errs := 0, gap := false, split := false
    change := none, closing := [], stop := none, shed := false }
theorem test_audio_tx : let d := { netD (flow0 3) with auss := [(0, aud1)], auds := dev0.auds.set 0 { on := true, cfg := buf 32 } }
    audOf d 0x0F000000 = some (0, aud1) ∧ asRate d aud1 / asPps aud1 = 48 ∧ asChannels aud1 = 2 ∧ (List.replicate 48 [0, 0] : List (List Int)).length = 48 := by
  decide +kernel
def rtp0 (q : Nat) : RtpPkt := { port := 0, seq := q, stamp := 0, marker := false, payload := [] }
theorem test_rx_flow : flPorts (flL 2) ≠ 3 ∧ netUp (netD (flow0 2)) 0 = true ∧ (flow0 2).rx.next = some (rtp0 65535).seq ∧
    32768 ≤ seqAhead 65535 (rtp0 32767).seq ∧ seqAhead 65535 0 = 1 := by decide +kernel
theorem test_flow_close : bg specFlowClose (sqe 0x0D000000 (fb 32 1)) (netD (flow0 2)) ∧
    flowOf (netD (flow0 2)) 0x0D000000 = some (0, flow0 2) ∧
    (let d := (run .flowClose (sqe 0x0D000000 0) (netD (flow0 2 [] 0 [0]))).dev
     (findOutst d 0).isSome = true ∧ d.pcie.short = false) := by unfold bg Begins; decide +kernel
/-- 14 R380: 3,840 x 2,160 at 50 frames a second, YCC422_10, MTU_PAYLOAD 1,200. -/
theorem test_flow_example : let c := toLE 64 (at' 1 1 + at' 6 1200 + at' 32 50 + at' 36 1)
    flKind c = 0 ∧ flPorts c = 1 ∧ flMtu c = 1200 ∧ bitOf (flVlan c) 15 = false ∧ flNum c = 50 ∧ flDen c = 1 := by decide +kernel


/-- What a busy egress, and a FLOW_CLOSE that lets a frame finish, meet. -/
theorem test_net_busy : let d := { ptpD 0 0 1 1 {} with nets := Vector.replicate 2 { netOn 1 with txFree := 100, cnt := Vector.replicate 16 3 } }
    d.tu.ns < (net d 1).txFree ∧ fwdBytes d 1 + (eth true).bytes.length ≤ 262144 ∧
    (net (ptpD 0 0 1 1 {}) 1).txq = [] ∧ (net (ptpD 0 0 1 1 {}) 1).txFree ≤ (ptpD 0 0 1 1 {}).tu.ns ∧
    (let e := { ptpD 0 0 1 1 {} with nets := Vector.replicate 2 { netOn 1 with txq := [(2, List.replicate 262144 0)] } }
     262144 < fwdBytes e 1 + (eth true).bytes.length) := by decide +kernel
theorem test_flow_close_frame : let f := { flow0 4 [] 80000000 with tx := [(5, [1]), (70000000, [2])] }
    f.busy ≤ (cmd .flowClose (sqe 0 0)).ns + 80000000 ∧ (cmd .flowClose (sqe 0 0)).ns + 80000000 < { f with busy := 80000001 }.busy ∧
    (∀ x ∈ [((5 : Nat), ([1] : List Byte))], x.1 ≤ { dev0 with tu := { ns := 5 } }.tu.ns) := by decide +kernel
theorem test_rx_pair : let f := { flow0 2 with cfg := toLE 64 (at' 0 2 + at' 1 3) }
    flPorts f.cfg = 3 ∧ f.rx.kept = [] ∧ flKind f.cfg = 2 ∧ seqAhead (f.rx.next.getD 0) (rtp0 0).seq = 1 := by decide +kernel
/-! 15: display heads. -/

def hL (mode video : Nat) (target : Nat := 2) : List Byte :=
  toLE 128 (at' 0 target + at' 1 0x13 + at' 4 2 + at' 6 mode + at' 8 video + at' 12 1919 + at' 14 1079 + at' 32 50 + at' 36 1)
def hE (en : Nat) : Sqe := sqe 0x0E000000 en (if en = 1 then hL 0 0 else [])
def headD (x : Head) (more : Dev := dev0) : Dev := { more with heads := more.heads.set 0 x, evt := { mask := 0x1FFE } }
def onH (mode video : Nat) : Head := { on := true, cfg := hL mode video }
def nextH (en : Bool) : HeadNext := { tag := 0, cfg := if en then hL 0 0 else [], fetchNs := 0 }
theorem test_head_enable : bg specHeadConfigEnable (hE 1) ∧ headValid (fit 128 (hL 0 0)) = true ∧ headSource dev0 (hL 0 0) = true ∧
    headSuits dev0 (hL 0 0) = true ∧ outputTaken dev0 0 2 = false ∧ headTap (hL 0 0) = none ∧
    admitFails (run .headConfigEnable (hE 1)).dev (headHandle 0) false (headWants dev0 0 (hL 0 0)).1 = none ∧
    (headLink (hL 0 0)).1 ≤ (headLink (hL 0 0)).2 ∧
    admitFails (run .headConfigEnable (hE 1)).dev (headHandle 0) true ((headWants dev0 0 (hL 0 0)).1 ++ (headWants dev0 0 (hL 0 0)).2.drop 1) = none := by
  unfold bg Begins; decide +kernel
theorem test_head_disable : bg specHeadConfigDisable (hE 0) (headD (onH 0 0)) ∧ bg specHeadConfigDisable (hE 0) := by unfold bg Begins; decide +kernel
def comE : Sqe := sqe 0x0E000000 (fb 32 0x20 + fb 36 0xFFFFFFFF + fb 56 (2 ^ 30 - 1))
theorem test_head_commit : bg specHeadPlace comE (headD (onH 0 0)) ∧ fldBits comE 32 0 2 = 0 ∧
    (let c := commitCfg (hL 0 0) (bodyBytes comE)
     ovOk c (hcOv c 0) = true ∧ ovOk c (hcOv c 1) = true ∧ hcBg c < 2 ^ 30 ∧ videoSize (headD (onH 0 0)) c = none) := by
  unfold bg Begins; decide +kernel
theorem test_head_select : let d := headD (onH 3 0x08000000) (decD (decS [] [outq1 5]))
    (headAt d 0).on = true ∧ hcMode (headAt d 0).cfg = 3 ∧ decOf d (hcVideo (headAt d 0).cfg) = some (0, decS [] [outq1 5]) ∧
    headDec (headAt d 0) 0 = none ∧ outq1 5 ∈ (decS [] [outq1 5]).shown ++ (decS [] [outq1 5]).outq ∧ (outq1 5).p ≤ 5 := by decide +kernel
theorem test_head_frames : sdiTarget (hcTarget (hL 0 0)) = true ∧ hcMode (hL 1 0x05000000 0) = 1 ∧ Queues (at0 (headD (onH 0 0))) 8 ∧
    (findOutst (run .headConfigEnable (hE 1) (headD { next := some (nextH true) })).dev 0).isSome = true ∧
    (nextH true).cfg ≠ [] ∧ (nextH false).cfg = [] ∧
    (run .headConfigDisable (hE 0) (headD { on := true, cfg := hL 0 0, next := some (nextH false) })).dev.pcie.short = false := by
  unfold Queues; decide +kernel
theorem test_dp : let d := headD { on := true, cfg := hL 0 0 1, up := true, training := true }
    dpHead d 1 = some 0 ∧ (headAt d 0).up = true ∧ (headAt d 0).training = true ∧ Queues (at0 d) 8 := by unfold Queues; decide +kernel
/-- 15 R402: four lanes at 8.1 Gbit/s carry 25,920 Mbit/s at 8b/10b. -/
theorem test_dp_rate : dpMbps 4 4 = 25920 ∧ headPeriod (hL 0 0) = 20000000 := by decide +kernel

/-- A 16 x 2 overlay of two bytes per pixel at the origin, its data in a commit. -/
def ovH : Head := { on := true, cfg := toLE 128 (le (hL 0 0) 0 128 + at' 56 1 + at' 60 15 + at' 62 1) }
theorem test_commit_data : bg specHeadCommit (sqe 0x0E000000 (fb 32 1 + fb 36 0xFFFFFFFF) (buf 64)) (headD ovH) := by
  unfold bg Begins; decide +kernel

/-- The instants of R397, R403 and R405: the coming start, a silent source, a picture due, a ring's frame. -/
theorem test_head_instants : nextStart (headD (onH 0 0)) 0 ≤ 1000000000 ∧ comingStart (headD (onH 3 0)) 0 = some (nextStart (headD (onH 3 0)) 0) ∧
    comingStart (headD { next := some (nextH true) }) 0 = some (firstStart (nextH true)) ∧
    comingStart dev0 0 = none ∧ gapAt (onH 1 0x05000000) = 21000000 ∧ hcMode (onH 1 0x05000000).cfg = 1 ∧
    (let x := onH 3 0x08000000
     hcMode (cfgAt x 10) = 3 ∧ dueAt x 0 (decS [] [outq1 5]) 10 = [outq1 5] ∧ dueAt x 0 (decS [] [outq1 5]) 4 = []) := by decide +kernel
theorem getLast?_filter_one {α : Type} {p : α → Bool} {a : α} (h : p a = true) : ([a].filter p).getLast? = some a := by
  rw [List.filter_cons_of_pos h]; rfl
theorem test_head_ring (h : inRingAt (tfin 5) + 50000 ≤ 10 ^ 9) :
    hcMode (cfgAt (onH 2 0x05000000) (10 ^ 9)) = 2 ∧ headTap (cfgAt (onH 2 0x05000000) (10 ^ 9)) = some (0, 0) ∧
    ((tapOf (modTap 0 0 (fun _ => { on := true, cfg := tapX, queue := [(headHandle 0, tfin 5)] }) isD) 0 0).queue.filter
      fun q => q.1 == headHandle 0 && decide (inRingAt q.2 + 50000 ≤ 10 ^ 9)).getLast? = some (headHandle 0, tfin 5) := by
  refine ⟨by decide +kernel, by decide +kernel, ?_⟩
  rw [show (tapOf (modTap 0 0 (fun _ => { on := true, cfg := tapX, queue := [(headHandle 0, tfin 5)] }) isD) 0 0).queue =
    [(headHandle 0, tfin 5)] from rfl]
  exact getLast?_filter_one (by rw [beq_self_eq_true, Bool.true_and]; exact decide_eq_true h)
theorem test_head_direct : let d := modTap 0 0 (fun _ => { on := true, cfg := tapX, queue := [(headHandle 0, tfin 5)] }) (headD (onH 1 0x05000000) isD)
    tapFrameFor d (hcVideo (headAt d 0).cfg) (headHandle 0) = some (tfin 5) ∧ (headAt d 0).gap = false ∧ (headAt d 0).on = true ∧
    tapFrameFor (headD (onH 1 0x05000000)) 0x05000000 (headHandle 0) = none := by
  refine ⟨by decide +kernel, by decide +kernel, by decide +kernel, by decide +kernel⟩
theorem test_commit_target : let x := headD (onH 0 0)
    fnFrom (headAt x 0).hfc 2 = true ∧ (cmd .headCommit comE).ns + 500000 ≤ startOf x 0 2 ∧ startOf x 0 2 ≤ (cmd .headCommit comE).ns + 40000000 ∧
    (headAt x 0).next = none ∧ (headAt x 0).shed = false := by decide +kernel
/-! 16: audio. -/

/-- I2S, master, 48 kHz, one data line, a lead of 2. -/
def acE (slave : Nat) : Sqe := sqe 0x0F000000 (fb 32 1 + fb 34 slave + fb 39 1 + fb 40 2)
def acE' (slave : Nat) : Sqe := sqe 0x0F000000 (fb 32 1 + fb 33 1 + fb 34 slave + fb 36 7 + fb 37 32)
def acC (slave : Nat) : List Byte := bodyBytes (acE' slave)
def audD (x : AudPort) (a : List (Nat × AudSes) := []) : Dev :=
  { dev0 with auds := dev0.auds.set 0 x, auss := a, evt := { mask := 0x1FFE }, tu := { ns := 1000000000 } }
def onA (slave : Nat) : AudPort := { on := true, cfg := acC slave, clk := some 0 }
theorem test_aud_enable : bg specAudConfigEnable (acE 0) ∧ bg specAudConfigEnable (acE' 1) ∧
    admitFails (run .audConfigEnable (acE 0)).dev (audHandle 0) false [(0x0A, 0xFF, 16), (0x0F, 0xFF, 20)] = none ∧
    bg specAudConfigEnable (acE' 1) (audD (onA 1)) ∧ (aud (audD (onA 1)) 0).cfg = bodyBytes (acE' 1) ∧
    bg specAudConfigEnable (acE' 0) (audD (onA 1)) ∧ (aud (audD (onA 1)) 0).cfg ≠ bodyBytes (acE' 0) := by unfold bg Begins; decide +kernel
theorem test_aud_starts : (findOutst (run .audConfigEnable (acE' 1) (audD { onA 1 with on := false, cmd := some (0, 0) })).dev 0).isSome = true ∧
    (aud (audD { onA 1 with on := false, cmd := some (0, 0), clk := none }) 0).clk = none ∧ acSlave (acC 1) = true ∧
    Queues (at0 (audD (onA 1))) 8 ∧ Queues (at0 (audD { onA 1 with lost := true })) 8 := by unfold Queues; decide +kernel
def strE (play : Nat) (n : Nat) : Sqe :=
  { sqe 0x0F000000 (fb 33 play + fb 36 3 + fb 38 2 + fb 39 1 + fb 40 47) with dataLen := BitVec.ofNat 32 n, bdl := [(0, BitVec.ofNat 32 n, 0)] }
def ses (play : Nat) : AudSes := newStream 0x10000000 0 (bodyBytes (strE play 0)) 48000
theorem test_aud_disable : bg specAudConfigDisable (sqe 0x0F000000 0) (audD (onA 0)) ∧ bg specAudConfigDisable (sqe 0x0F000000 0) ∧
    bg specAudConfigDisable (sqe 0x0F000000 0) (audD (onA 0) [(0, ses 0)]) ∧ (ses 0).port = (audArg (sqe 0x0F000000 0)).val ∧
    (run .audConfigDisable (sqe 0x0F000000 0) (audD { onA 0 with cmd := some (0, 0), off := true })).dev.pcie.short = false := by
  unfold bg Begins; decide +kernel
theorem test_aud_open : bg specAudStreamOpen (strE 0 8192) (audD (onA 0)) ∧ (let c := bodyBytes (strE 0 8192)
    maskOk (acC 0) (aoMask c) (aoMaxCh c) = true ∧ aoHead c = 0 ∧ aoPlay c = false ∧ aoSlots c * asStride (newStream 0 0 c 0) = 8192 ∧
    freeSlot (audD (onA 0)) 0x10 12 = some 0 ∧
    admitFails (openObj 0x10 0 1 1 (run .audStreamOpen (strE 0 8192) (audD (onA 0))).dev).2 (openObj 0x10 0 1 1 (audD (onA 0))).1 true
      [(0x08, 0xFF, divUp (2 * asStride (newStream 0 0 c 0) * divUp 48000 48) 1000000),
       (0x09, 0xFF, divUp (4 * asStride (newStream 0 0 c 0)) (2 ^ 20)), (0x0A, 0xFF, 4),
       (0x0B, 0, divUp (asStride (newStream 0 0 c 0) * divUp 48000 48) 1000000)] = none) := by unfold bg Begins; decide +kernel
theorem test_aud_mask : bg specAudStreamMask (sqe 0x10000000 (fb 32 1 + fb 36 2)) (audD (onA 0) [(0, ses 0)]) ∧
    audOf (audD (onA 0) [(0, ses 0)]) 0x10000000 = some (0, ses 0) ∧ maskOk (acC 0) 2 (aoMaxCh (ses 0).cfg) = true ∧
    audAttached (audD (onA 0) [(0, ses 0)]) (ses 0) = false ∧
    bg specAudStreamStatus (sqe 0x10000000 (fb 32 2)) (audD (onA 0) [(0, ses 0)]) := by unfold bg Begins; decide +kernel
def play0 (n : Nat) : PlaySlot := { seq := 1, busy := false, frames := n, channels := 1, mask := 3, samples := [], at' := 0 }
theorem test_aud_periods : boundary (ses 0) - (ses 0).next = 48 ∧ popCount (ses 0).mask = 2 ∧ aoVector (ses 0).cfg = 0 ∧
    delivering (audD (onA 0)) = true ∧ playValid (ses 1) (onA 0) (play0 47) = true ∧ playValid (ses 1) (onA 0) (play0 48) = false ∧
    (ses 1).play = true ∧ (ses 0).play = false := by decide +kernel
theorem test_aud_close : (bg specAudStreamClose (sqe 0x10000000 (fb 32 3)) (audD (onA 0) [(0, ses 0 |> fun a => { a with next := 47999 })]) ∧
      (47999 : Nat) < audFrom (onA 0) 1000000000) ∧
    bg specAudStreamClose (sqe 0x10000000 (fb 32 3 + fb 35 1)) (audD (onA 0) [(0, ses 1)]) ∧
    audOf (audD (onA 0) [(0, ses 1)]) 0x10000000 = some (0, ses 1) := by unfold bg Begins; decide +kernel

/-- The instants of R418-R420, R426 and R427. -/
theorem test_aud_instants : (0 : Nat) + acLead (acC 0) * 1000000 ≤ (audD (onA 0)).tu.ns ∧
    (let x := { onA 0 with cmd := some (0, 0), off := true }
     tailEnd x 0 0 ≤ (audD x).tu.ns ∧ 2 * 10 ^ 12 < tailEnd x 0 (2 * 10 ^ 12 + 1)) ∧
    readAt (ses 1) (onA 0) = 999000000 ∧ readAt (ses 1) (onA 0) ≤ (audD (onA 0)).tu.ns ∧ (dev0.tu.ns < readAt (ses 1) (onA 0)) := by
  decide +kernel
theorem test_aud_period_end : periodEnd (ses 0) = 48048 ∧ (ses 0).next < periodEnd (ses 0) ∧
    audInstant (onA 0) 0 48048 ≤ ({ audD (onA 0) with tu := { ns := 1002000000 } } : Dev).tu.ns ∧
    deliversFrom (ses 0).ep (audD (onA 0)) = true ∧ deliversFrom (ses 0).ep { audD (onA 0) with pcie := { up := false } } = false ∧
    periodEnd { ses 0 with stop := some 48010 } = 48010 ∧ embedOk (audD (onA 0)) (onA 0) (ses 0).cfg = true ∧
    readUnit { handle := 0x10000000, cls := 0, frame := 1 } 0 (buf 2) dev0 = (dev0, buf 2, false) := by
  refine ⟨by decide +kernel, by decide +kernel, by decide +kernel, by decide +kernel, by decide +kernel, by decide +kernel,
    by decide +kernel, rfl⟩
theorem test_aud_drain : let a := { ses 1 with stop := some 7 }
    a.stop = some 7 ∧ (play0 47).at' ≤ 7 ∧ (7 : Nat) < { play0 47 with at' := 8 }.at' := by decide +kernel
/-! 17: axes, latches, drives, the barrier link. -/

def axL (mode : Nat) (more : Nat := 0) : List Byte :=
  toLE 64 (at' 0 mode + at' 28 0xFF + at' 36 100000 + at' 40 1000 + more)
def axD (x : Axis) (f : Safe → Safe := id) : Dev :=
  { dev0 with axes := dev0.axes.set 0 x, safe := f { pathA := true, held := false, present := [], por := false }, evt := { mask := 0x1FFE }
              tu := { ns := 2000000 } }
def axE (l : List Byte) : Sqe := sqe 0x11000000 (if l = [] then 0 else 1) l
def onX (mode : Nat) (more : Nat := 0) : Axis := { on := true, cfg := axL mode more }
theorem test_axis_config : (bg specAxisConfigEnable (axE (axL 1)) (axD {}) ∧ axValid (fit 64 (axL 1)) = true ∧ noPath (axD {}) = false ∧
      emuTaken (axD {}) 0 (axEmuOut (axL 1)) = false ∧ axInhibited (axD {}) 0 = false) ∧
    (bg specAxisConfigEnable (axE (axL 1 (at' 3 1))) (axD { onX 1 with valid := true }) ∧ axValid (axL 1 (at' 3 1)) = true ∧
      sameButPorts (axL 1) (axL 1 (at' 3 1)) = true ∧ sameButPorts (axL 1) (axL 2) = false) ∧
    bg specAxisConfigDisable (axE []) (axD (onX 1)) ∧
    (bg specAxisConfigDisable (axE []) (axD { onX 1 with arm := true }) ∧ axInhibited (axD { onX 1 with arm := true }) 0 = true) ∧
    (findOutst (run .axisConfigEnable (axE []) (axD { onX 1 with waits := [0] })).dev 0).isSome = true := by unfold bg Begins; decide +kernel
def samp0 (t : Nat) (p : Int) : Samp := { t, p, speed := 0, valid := true, rehome := false }
theorem test_axis_sample : axMode (axL 1) = 1 ∧ (samp0 1999500 0).t < (axD {}).tu.ns / 500 * 500 ∧
    2 ^ axSpdWin (axL 1) ≤ ({ onX 1 with fresh := 1, hist := [samp0 1999500 0] } : Axis).fresh ∧
    ({ onX 1 with hist := [samp0 1999500 0] } : Axis).hist[2 ^ axSpdWin (axL 1) - 1]?.isSome = true ∧ axSerial (axL 3) = true ∧
    axCounts (axL 1) = true := by decide +kernel
theorem test_axis_index : axIndexEn (axL 1 (at' 2 2 + at' 4 4000 + at' 8 3)) = true ∧ axCpr (axL 1 (at' 2 2 + at' 4 4000 + at' 8 3)) ≠ 0 ∧
    driftOf 0 4000 3997 = -3 ∧ (-3 : Int).natAbs ≤ axDriftTol (axL 1 (at' 2 2 + at' 4 4000 + at' 8 3)) ∧ driftOf 0 4000 4 = 4 ∧
    axDriftTol (axL 1 (at' 2 2 + at' 4 4000 + at' 8 3)) < (4 : Int).natAbs ∧ monitored (axD (onX 1)) 0 = false ∧
    monitored (axD (onX 1) (fun s => { s with cfg := s.cfg.set 1 1 })) 0 = true := by decide +kernel
theorem test_axis_fault : faultShown (onX 1) 1 = true ∧ faultShown { onX 1 with illegal := List.replicate 16 0 } 2 = true ∧
    faultShown (onX 1) 2 = false ∧ (onX 1).badNs + 1000000 ≤ (axD (onX 1)).tu.ns ∧ Queues (at0 (axD (onX 1))) 9 := by
  unfold Queues; decide +kernel
def lat (t : Nat) : LatchReq := { port := 0, frame := 4, which := 0, t }
theorem test_latches : (List.replicate 24 (lat 0)).length = 24 ∧ (axisOf (axD { onX 1 with lats := List.replicate 23 (lat 0) }) 0).lats.length < 24 ∧
    (1500500 : Nat) < (lat 1500500).t / 500 * 500 + 500 ∧ (lat 1500499).t / 500 * 500 + 500 ≤ 1500500 := by decide +kernel
/-- 17 R450: half way between two samples 3 counts apart lies 1.5 counts on. -/
theorem test_latch_value : (latchResult { hist := [samp0 1000 3, samp0 500 0, samp0 0 0] } 750).posQ = 3 * 32768 ∧
    (latchResult { hist := [samp0 1000 3, samp0 500 0, samp0 0 0] } 999).posQ = 196215 ∧
    (latchResult { hist := [samp0 1000 3, samp0 500 0] } 499).st = 2 := by decide +kernel
def coreD (x : Axis) (f : Safe → Safe := id) : Dev :=
  { axD x f with cores := { (axD x f).cores with c := Vector.replicate 2 { state := 1 } } }
theorem test_core_axis : coreRuns (coreD (onX 1)) 0 = true ∧ (axisOf (coreD { onX 1 with hist := [samp0 0 0] }) 0).hist.head? = some (samp0 0 0) ∧
    axisOwner (coreD (onX 1)) 0 = 0 ∧ axisOwner (coreD (onX 1)) 0 ≠ (1 : CoreId).val ∧ coreRuns (coreD (onX 1)) 1 = true := by decide +kernel
theorem test_drives : driving (axD { onX 1 (at' 2 0x10) with arm := true }) 0 = true ∧ driving (axD { onX 1 with arm := true }) 0 = false ∧
    ({ onX 1 with arm := true } : Axis).timer + axTimeoutUs (axL 1) * 1000 ≤ (axD {}).tu.ns := by decide +kernel
def lf (a p : Bool) (q : Nat) : LinkFrame := { goodA := a, goodB := false, seq := q, permit := p, cfgCrc := 0 }
theorem test_link : (axD {} (fun s => { s with seq := some 255 })).safe.seq = some 255 ∧ (lf true false 0).seq % 256 = (255 + 1) % 256 ∧
    (lf false true 0).goodA = false ∧ (axD {}).safe.pathA ≠ false ∧ (axD {}).safe.pathB ≠ true ∧ (axD {}).safe.por = false := by decide +kernel

/-- What an encoder read, a latch, a PWM period and a waiting configuration ask. -/
def rdx (c k : Nat) (st : Bool := true) : EncRead := { code := c, nE := true, nW := true, chk := k, started := st, stampNs := 1000000 }
theorem test_encoder : (let x := axL 4 (at' 12 13 + at' 24 100)
     axSerial x = true ∧ readOk x (rdx 5 0) = true ∧ (rdx 5 0).started = true ∧ (rdx 5 0 false).started = false) ∧
    (let x := axL 4 (at' 12 13 + at' 24 100 + at' 20 1)
     axParity x = false ∨ readOk x (rdx 4 0) = false) ∧
    (let x := axL 3 (at' 12 13 + at' 24 100)
     readOk x (rdx 5 0) = false ∨ readOk x (rdx 5 1) = false) := by decide +kernel
theorem test_latch_ask : let e : AxEnt := { axis := 0, mode := 1, flags := 0, tag := 0, latches := [{ st := 0, posQ := 0, speed := 0, t := 1990000 }] }
    let d := { axD (onX 1) with axrec := [{ (default : AxRec) with port := 0, num := 4, ents := [e] }] }
    latchAsked d 0 (lat 1990000) = true ∧ latchAsked d 0 (lat 5) = false ∧ latchCrosses d (lat 1990000) = true ∧ latchCrosses d (lat 1899999) = false := by
  decide +kernel
theorem test_period : periodOver (axD (onX 1)) 0 = true ∧ timedOut (axD (onX 1)) 0 = false ∧ timedOut (axD { onX 1 with arm := true }) 0 = true ∧
    periodOver (axD { onX 1 with perNs := some 1999999 }) 0 = false ∧
    timedOut (axD { onX 1 with arm := true, timer := 1999999 }) 0 = false := by decide +kernel
theorem test_config_wait : configLate (run .axisConfigEnable (axE []) (axD { onX 1 with waits := [0] })).dev 0 = false ∧
    (let d := { (run .axisConfigEnable (axE []) (axD { onX 1 with waits := [0] })).dev with tu := { ns := 10000000 } }
     configLate d 0 = true ∧ (findOutst d 0).isSome = true ∧ (axisOf d 0).waits = [] ++ (0 : Nat) :: []) := by decide +kernel
/-! 18: the safe state. -/

def safeL : List Byte := let l := (safeCfgDefault.set 1 1).take 220 |>.set 24 1 |>.set 32 2 |>.set 36 1; l ++ toLE 4 (crc32c l).toNat
def secD (f : Safe → Safe) : Dev :=
  { axD (onX 1) f with sec := { dev0.sec with life := 1, level := 0 }, evt := { mask := 0x1FFE }, tu := { ns := 10000000 } }
def heldS : Safe → Safe := fun s => { s with held := true, good := some 0, goodUp := some 0 }
def sfE (sub : Nat) (l : List Byte := []) : Sqe := sqe 0 (fb 32 sub) l
theorem test_causes : (at0 (secD heldS)).dev.safe.held = true ∧ (at0 (secD id)).dev.safe.held = false ∧
    (∀ k ∈ (at0 (secD id)).dev.safe.present, k.code ≠ 0x20 ∨ k.axis ≠ 0xFF) ∧ Queues (at0 (secD id)) 9 := by unfold Queues; decide +kernel
theorem test_safety_load : (bg specSafetyConfigLoad (sfE 0 safeL) (secD heldS) ∧ fit 224 safeL = safeL ∧
      (crc32c (safeL.take 220)).toNat = le safeL 220 4 ∧ safeCfgValid safeL = true ∧ noPath (secD heldS) = false ∧
      ∀ a : AxisId, bitOf (le safeL 1 1) a.val = true → (axisOf (secD heldS) a).on = true) ∧
    bg specSafetyConfigLoad (sfE 0 safeL) (secD id) ∧
    (bg specSafetyConfigLoad (sfE 0 (safeL.set 220 0)) (secD heldS) ∧ (crc32c (safeL.take 220)).toNat ≠ le (safeL.set 220 0) 220 4) := by
  unfold bg Begins; decide +kernel
theorem test_safety_reset : (bg specSafetyConfigReset (sfE 1) (secD heldS) ∧ (secD heldS).sec.life < 2 ∧ (secD heldS).sec.level ≠ 2 ∧
      (secD heldS).safe.present = [] ∧ (secD heldS).safe.safeIn = true ∧ framesGood (secD heldS) = true ∧
      (secD heldS).safe.entry + le (secD heldS).safe.cfg 8 1 * 1000000 ≤ (secD heldS).tu.ns) ∧ bg specSafetyConfigReset (sfE 1) (secD id) ∧
    (let d := secD fun s => { heldS s with present := [{ code := 1, axis := 0xFF, ns := 0 }], safeIn := false }
     bg specSafetyConfigReset (sfE 1) d ∧ d.safe.present ≠ []) ∧
    (let d := secD fun s => { heldS s with entry := 1 }
     bg specSafetyConfigReset (sfE 1) d ∧ d.tu.ns < d.safe.entry + le d.safe.cfg 8 1 * 1000000) := by unfold bg Begins; decide +kernel
theorem test_safety_others : bg specSafetyConfigForce (sfE 2) (secD id) ∧ bg specSafetyConfigProofTest (sfE 3) (secD id) ∧
    bg specSafetyStatus (sqe 0 0 (buf 256)) (secD id) ∧
    (let d := (run .safetyConfigProofTest (sfE 3) (secD fun s => { s with proofCmds := [0] })).dev
     d.safe.proofCmds = [0] ∧ (findOutst d 0).isSome = true) ∧ 126 % 8 ≠ 7 ∧ 119 / 8 ≠ 15 := by unfold bg Begins; decide +kernel

/-- 18 R465: both limits of the heartbeat, and the frames' CRC. -/
theorem test_cause_limits : (let d := secD fun s => { s with missed := 99 }
     99 ≤ d.safe.missed) ∧ (secD id).safe.goodNs + 99000 ≤ (secD id).tu.ns ∧
    (let d := secD fun s => { s with missed := 98, goodNs := 9999999 }
     d.safe.missed < 99 ∧ d.tu.ns < d.safe.goodNs + 99000) ∧
    crcDiffers (secD fun s => { s with frameCrc := some 0 }) = true ∧ crcDiffers (secD id) = false := by decide +kernel
/-! 19: the customer cores, CORE_LINK, REGISTER_WRITE. -/

def coD (k : Core) (f : Dev → Dev := id) : Dev :=
  f { dev0 with cores := { c := Vector.replicate 2 { k with state := 1 } }, sec := { dev0.sec with life := 1, level := 0 } }
def irqK : Core := { pend := 2 ^ 24 + 2 ^ 25, enable := 2 ^ 24 + 2 ^ 25, prio := (Vector.replicate 32 0x80).set 25 0x40 }
theorem test_claim : coreRuns (coD irqK) 0 = true ∧ irqNext (coD irqK) 0 = 25 ∧ claimable (coD irqK) 0 25 = true ∧ isLevel 25 = false ∧
    irqNext (coD {}) 0 = 0 ∧ irqNext (coD { irqK with prio := Vector.replicate 32 0x80 }) 0 = 24 ∧
    (core (coD { active := [25] }) 0).active.contains 25 = true ∧ (core (coD {}) 0).active.contains 511 = false := by decide +kernel
def tmr0 (dl : Nat) : Tmr := { en := true, deadline := dl }
theorem test_timers : tmrDue (coD {} fun d => { d with tu := { ns := 5 } }) (tmr0 5) = true ∧
    tmrDue (coD {} fun d => { d with tu := { ns := 5 } }) (tmr0 6) = false ∧ tmrDue dev0 { tmr0 0 with en := false } = false := by decide +kernel
def msgs (n : Nat) : List (Nat × Msg) := List.replicate n (0, { w0 := 1, w1 := 5 })
theorem test_mailbox : (core (coD { outq := msgs 15 }) 0).outq.length < 16 ∧ 16 ≤ (core (coD { outq := msgs 16 }) 0).outq.length ∧
    coreRuns (coD { outq := msgs 16 }) 0 = true ∧ (core (coD { inq := List.replicate 16 { w0 := 0, w1 := 5 } }) 0).inq.length = 16 ∧
    (coD {}).cores.paused = false ∧ bitsOf (1 : Dword).toNat 0 8 = 1 := by decide +kernel
def clE (sub : Nat) (more : Nat := 0) : Sqe := sqe 0 (fb 32 sub + fb 36 1 + more)
theorem test_core_link : bg specCoreLinkVector (clE 3 (fb 40 0x7FF)) (coD {}) ∧ bg specCoreLinkPost (clE 0 (fb 38 5)) (coD {}) ∧
    (core (coD {}) (coreArg (clE 0))).state = 1 ∧ bg specCoreLinkPost (clE 0) dev0 ∧ (core dev0 (coreArg (clE 0))).state ≠ 1 ∧
    bg specCoreLinkStop (clE 2) (coD {}) := by unfold bg Begins; decide +kernel
/-- A restart rests on the customer image's signature, which the model leaves open. -/
theorem test_core_restart (h : verifyStored (run .coreLinkRestart (clE 1) (coD {})).dev 2 = none) :
    bg specCoreLinkRestart (clE 1) (coD {}) ∧ custDenied (run .coreLinkRestart (clE 1) (coD {})).dev = false ∧
    verifyStored (run .coreLinkRestart (clE 1) (coD {})).dev 2 = none := by
  unfold bg Begins; exact ⟨by decide +kernel, by decide +kernel, h⟩
theorem test_register_write : bar0Live (hostOff 0 0) = true ∧ (hostOff 0 0).host.enable = false ∧ bar0Live dev0 = true ∧ dev0.host.enable = true ∧
    coreRuns (coD {}) 0 = true ∧ coreRuns (coD {}) 1 = true ∧ 0x7FFF8 + 8 ≤ 0x80000 ∧ axisOwner (coD {}) 0 = 0 ∧ coreRuns dev0 0 = false ∧
    cellsWf [(0, (1 : Byte)), (5, 2)] = true := by decide +kernel

theorem test_core_more : functionOn dev0 = true ∧ dev0.pcie.up = true ∧ functionOn { dev0 with pwr := { dev0.pwr with state := 3 } } = false ∧
    (coD {} fun d => { d with cores := { d.cores with paused := true } }).cores.paused = true ∧
    (core (coD {}) 0).inq = [] ∧ (coD {}).cores.paused = false := by decide +kernel
/-! 20: firmware, attestation, tokens. Where a signature decides, the model leaves it open: the witness takes it as its one premise. -/

def scD (f : Sec → Sec := id) : Dev :=
  { dev0 with sec := f { life := 0, lifeNext := 0, slots := Vector.replicate 4 [], revoked := 0, floorFw := 0, floorCust := 0, bankA := []
                         bankB := [], cust := [], sel := 0, selSeq := 0, bank := 0 }
              boot := { stage := 8, log := [], seq := 0, boots := 0, trip := false }, evt := { mask := 0x1FFE }, thm := { trips := 0 } }
def dlE (target off n : Nat) : Sqe := sqe 0 (fb 32 off + fb 36 target) (buf n)
theorem test_download : bg specFwDownload (dlE 2 0 64) (scD) ∧ (fit 64 (dlE 2 0 64).data).length ≤ 64 ∧
    bg specFwDownload (dlE 0 8192 64) (scD fun s => { s with stFw := some { total := 8256, bytes := buf 8192 } }) := by
  unfold bg Begins; exact ⟨by decide +kernel, by decide +kernel, by decide +kernel⟩
def stg (n : Nat) (f : Sec → Sec := id) : Dev :=
  scD fun s => f { s with stFw := some { total := n, bytes := buf n }, stCust := some { total := n, bytes := buf n } }
theorem test_commit : bg specFwCommitWrite (sqe 0 0) (stg 1) ∧ bg specFwCommitWriteAndSelect (sqe 0 (fb 33 1 + fb 34 1)) (stg 1) ∧
    bg specFwCommitCustomer (sqe 0 (fb 32 1)) (stg 1) ∧ bg specFwCommitSelectOnly (sqe 0 (fb 33 2)) (stg 1) ∧
    stagedWhole (stg 1) 0 = some (buf 1) ∧ stagedWhole (stg 1) 1 = some (buf 1) ∧ (stg 1).sec.commit = none ∧
    othersOut (run .fwCommitWrite (sqe 0 0) (stg 1)).dev 0 isCommit = false ∧ verifyImage (stg 1) 1 (buf 1) = some 1 ∧
    verifyImage (stg 1) 2 (buf 1) = some 1 ∧ otherBank (stg 1) = 1 := by unfold bg Begins; decide +kernel
def keyL : List Byte := toLE 64 (at' 0 3 + at' 32 1)
theorem test_keys : let d := scD fun s => { s with stKeys := some { total := 64, bytes := keyL } }
    bg specFwCommitKeys (sqe 0 (fb 32 2)) d ∧ stagedWhole d 2 = some keyL ∧ le keyL 0 1 = 3 ∧ slotEmpty d 3 = true := by
  unfold bg Begins; decide +kernel
def com0 (t a : Nat) : Commit := { cmd := 0, target := t, action := a, bank := 1, raiseSvn := true, image := buf 1 }
theorem test_flash : let d := (run .fwCommitWriteAndSelect (sqe 0 0) (scD fun s => { s with commit := some (com0 0 1) })).dev
    d.sec.commit = some (com0 0 1) ∧ (findOutst d 0).isSome = true ∧ commitDest (com0 0 1) = some 1 ∧ commitDest (com0 1 0) = some 2 ∧
    commitDest (com0 0 2) = none := by decide +kernel
def atE (n : Nat) : Sqe := { sqe 0 0 with flags := 2, dataLen := BitVec.ofNat 32 n, bdl := [(0, BitVec.ofNat 32 n, 0)] }
theorem test_attest : bg specAttestEvidence (atE 2612) scD ∧ bg specAttestCerts { atE 16 with flags := 0 } scD ∧
    bg specAttestEvidence (atE 2612) (scD fun s => { s with life := 3 }) ∧
    bg specAttestCerts { atE 16 with flags := 0 } (scD fun s => { s with life := 3 }) ∧
    bg specDebugTokenChallenge { atE 64 with flags := 0 } scD ∧ bg specDebugTokenRelock (sqe 0 (fb 32 2)) scD ∧ (scD).pwr.waits = [] := by
  unfold bg Begins; decide +kernel
def tokE : Sqe := { sqe 0 0 with dataLen := 3796, bdl := [(0, 3796, 0)] }
theorem test_unlock : bg (specTokenRow .debugTokenUnlock true 33 1 2) (sqe 0 (fb 32 1 + fb 33 2)) scD ∧
    noToken (run .debugTokenUnlock (sqe 0 0) scD).dev 0 = true ∧
    bg (specTokenRow .debugTokenUnlock true 33 1 2) (sqe 0 (fb 32 1 + fb 33 1)) (scD fun s => { s with life := 1 }) ∧
    bg (specTokenRow .debugTokenUnlock false 33 1 2) tokE scD ∧ noToken (run .debugTokenUnlock tokE scD).dev 0 = false := by
  unfold bg Begins; decide +kernel
theorem test_token_refused : verifyToken scD [1, 2] (fit 3796 tokE.data) = some 1 := by
  have h : (fit 3796 tokE.data).take 4 = [0, 0, 0, 0] := rfl
  simp [verifyToken, firstReason, h]
theorem test_transition : bg (specTokenRow .debugTokenTransition true 34 1 1) (sqe 0 (fb 32 3 + fb 34 1)) scD ∧
    noToken (run .debugTokenTransition (sqe 0 0) scD).dev 0 = true ∧
    bg (specTokenRow .debugTokenTransition false 34 1 1) tokE (scD fun s => { s with life := 1 }) := by unfold bg Begins; decide +kernel
theorem test_debug_port : (scD fun s => { s with level := 1 }).boot.stage ≠ 11 ∧ (scD fun s => { s with level := 2 }).sec.level = 2 ∧
    (scD).sec.level = 0 := by decide +kernel

theorem test_staging : stagingOf (stg 1) 0 = some { total := 1, bytes := buf 1 } ∧ stagingOf (stg 1) 2 = none ∧
    (scD fun s => { s with stFw := some { total := 8256, bytes := buf 8192 } }).sec.life ≠ 3 ∧
    (scD fun s => { s with life := 3 }).sec.life = 3 ∧ (scD fun s => { s with life := 2 }).sec.life = 2 ∧
    (scD fun s => { s with level := 1 }).sec.level ≠ 2 := by decide +kernel
/-! 20, 21: power, temperatures, telemetry. -/

def pwD (f : Pwr → Pwr := id) (g : Sec → Sec := id) : Dev := { scD g with pwr := f {} }
theorem test_power_states : bg specPowerStateRun (sqe 0 0) pwD ∧ bg specPowerStateReduced (sqe 0 (fb 32 1 + fb 36 0x3FFF)) pwD ∧
    bg specPowerStateShoal (sqe 0 (fb 32 2)) pwD ∧ powerConflict 1 0x3FFF 0 pwD = false ∧ powerConflict 2 0 0 (run .powerStateShoal (sqe 0 2) pwD).dev = false ∧
    fHalted pwD = false ∧ fHalted (pwD id fun s => { s with halted := 8 }) = true ∧
    (let d := capDev pk live
     bg specPowerStateShoal (sqe 0 (fb 32 2)) d ∧ powerConflict 2 0 0 (run .powerStateShoal (sqe 0 2) d).dev = true) := by
  unfold bg Begins; decide +kernel
def reefS : State := { dev := { pwD with host := { dev0.host with outst := [cmd .powerStateReef (sqe 0 3), { cmd .flush (sqe 0 0) with tag := 1 }] } } }
theorem test_reef : Begins specPowerStateReef 0 reefS (cmd .powerStateReef (sqe 0 3)) ∧ powerConflict 3 0 0 reefS.dev = false ∧
    reefDrained reefS.dev 0 = false ∧ (let d := pwD fun p => { p with reef := some (0, 3) }
     startable .powerStateReef 0 d = none ∧ d.pwr.reef = some (0, 3) ∧ reefDrained d 0 = true) := by unfold Begins; decide +kernel
theorem test_wake : (pwD fun p => { p with state := 3 }).pwr.state = 3 ∧ dieRuns (pwD fun p => { p with state := 3 }) = true ∧ (pwD).pwr.state ≠ 3 ∧
    bitOf (pwD fun p => { p with state := 3, wake := 3 }).pwr.wake 1 = true ∧ (pwD).safe.held = true ∧ (pwD).safe.safeIn = true ∧
    (pwD).pwr.wakePin = false := by decide +kernel
def thD (f : Thm → Thm) : Dev := { scD with thm := f { trips := 0 } }
def hot (n : Nat) (t : Int) : List Int := List.replicate n t ++ List.replicate (24 - n) 9999
/-- 21 R520: at 113.25 degrees with THROTTLE 110 and SLOPE 8 the share is 74 percent. -/
theorem test_share_example : ((sensorSample (hot 24 1812) (thD id)).thm.tj, (sensorSample (hot 24 1812) (thD id)).thm.share,
    (sensorSample (hot 24 1812) (thD id)).thm.state) = (1812, 74, 1) := by decide +kernel
theorem test_sample : (hot 11 640).length = 24 ∧ ((List.finRange 24).filter (sensorOk (sensorSample (hot 12 640) (thD id)).thm)).length = 12 ∧
    ((List.finRange 24).filter (sensorOk (sensorSample (hot 11 640) (thD id)).thm)).length < 12 ∧ (thD id).thm.tripped = false := by decide +kernel
def badT : Dev := thD fun m => { m with sampled := true, ts := m.ts.set 5 2801 }
theorem test_sensor_fault : outOfRange badT.thm.ts[(5 : TsId)] = true ∧ bitOf badT.thm.invalid 5 = false ∧ Queues (at0 badT) 10 := by
  unfold Queues; decide +kernel
def shD : Dev := modCtx 0 0 (fun c => { c with sub := some sub0 }) (thD fun m => { m with shedArm := true, tj := 2208 })
theorem test_shed : shD.thm.shedArm = true ∧ shD.thm.shedNs = none ∧ 2208 ≤ shD.thm.tj ∧ (ctxOf shD 0 0).sub = some sub0 ∧
    (∀ y ∈ shedList shD, sub0.prio ≤ y.1) ∧ shedList (thD fun m => { m with shedArm := true, tj := 2208 }) = [] ∧
    (thD fun m => { m with shedArm := true, tj := 2207 }).thm.tj < 2208 ∧ shD.host.activating = false := by decide +kernel
def telE (sub : Nat) : Sqe := { sqe 0 (fb 32 sub + if sub = 1 then fb 34 10 + fb 36 1 else 0) with
  dataLen := if sub = 2 then 0 else 512, bdl := if sub = 2 then [] else [(0, 512, 0)] }
def tel0 : TelSub := { period := 10, slots := 1, vector := 0, seq := 7, ring := 0, last := 0 }
theorem test_telemetry : bg specThermalConfig (sqe 0 (fb 32 135 + fb 33 50 + fb 34 100 + fb 36 10 + fb 40 105000)) (thD id) ∧
    bg specTelemetrySnapshot (telE 0) (thD id) ∧ bg specTelemetrySubscribe (telE 1) (thD id) ∧ bg specTelemetryUnsubscribe (telE 2) (thD id) ∧
    bg specTelemetryUnsubscribe (telE 2) (thD fun m => { m with sub := some tel0 }) ∧
    bg specTelemetrySubscribe (telE 1) (thD fun m => { m with sub := some tel0 }) := by unfold bg Begins; decide +kernel
theorem test_telemetry_record : let d := { thD fun m => { m with sub := some tel0 } with tu := { ns := 10000000 } }
    d.thm.sub = some tel0 ∧ tel0.last + tel0.period * 1000000 ≤ d.tu.ns ∧ delivering d = true ∧ tel0.vector = 0 := by decide +kernel
theorem test_telemetry_waits : let d := thD fun m => { m with sub := some { tel0 with last := 1 } }
    d.thm.telNow = false ∧ d.tu.ns < 1 + tel0.period * 1000000 ∧
    (thD fun m => { m with sub := some tel0, telNow := true }).thm.telNow = true ∧ sampleDue (thD id) = true ∧
    sampleDue (thD fun m => { m with sampled := true, sampNs := 1 }) = false ∧
    (thD fun m => { m with owed := [(5, false)] }).thm.owed.contains (5, false) = true := by decide +kernel
theorem test_reef_drained : let d := (run .powerStateReef (sqe 0 3) pwD).dev
    Begins specPowerStateReef 0 { dev := d } (cmd .powerStateReef (sqe 0 3)) ∧ powerConflict 3 0 0 d = false ∧ fHalted d = false ∧
    reefDrained d 0 = true ∧ d.pwr.reef = none ∧ powerConflict 3 0 0 { d with pwr := { d.pwr with state := 2 } } = false := by
  unfold Begins; decide +kernel
/-! 22: boot, watchdog, trip, activation. -/

def btD (n : Nat) (f : Sec → Sec := id) : Dev := { scD f with boot := { stage := n, log := [], seq := 0, boots := 0, trip := false } }
theorem test_boot : (btD 0).boot.stage = 0 ∧ (btD 6).boot.stage = 6 ∧ verifyStored (romErasures (btD 3)) (btD 3).sec.sel = some 1 ∧
    (verifyStored (romErasures (btD 3)) (1 - (btD 3).sec.sel % 2)).isSome = true ∧ (verifyStored (btD 7) 2).isSome = true ∧
    custDenied (btD 7) = false ∧ (btD 8).host.fatal = false := by decide +kernel
/-- The banks that verify rest on signatures, which the model leaves open. -/
theorem test_bank (h : verifyStored (romErasures (btD 3)) 1 = none) :
    verifyStored (romErasures (btD 3)) (btD 3).sec.sel = some 1 ∧ verifyStored (romErasures (btD 3)) (1 - (btD 3).sec.sel % 2) = none :=
  ⟨by decide +kernel, h⟩
def trD : Dev := { btD 8 with thm := { trips := 254, sampled := true, ts := Vector.replicate 24 2368, prev := some (Vector.replicate 24 2368) } }
theorem test_trip : dieRuns trD = true ∧ trD.thm.ts[(3 : TsId)] = 2368 ∧ (Vector.replicate 24 (2368 : Int))[(3 : TsId)] = 2368 ∧ (2367 : Int) < 2368 := by
  decide +kernel
def actS (st : Nat) (op : HostOp := .fwActivate) : State :=
  { dev := { btD 8 with boot := { stage := 8, log := [], seq := 0, boots := 0, trip := false, act := some { cmd := 0, bank := 1, step := st, ns := 0 } }
                        host := { dev0.host with outst := [{ cmd .fwActivate (sqe 0 1) with phase := .stepped }, { cmd op (sqe 0 0) with tag := 1 }] } } }
theorem test_activate : bg specFwActivate (sqe 0 0) (btD 8) ∧ bg specFwActivate (sqe 0 1) (btD 8) ∧ fld (sqe 0 1) 32 1 ≠ (btD 8).sec.bank ∧
    sleepPending (btD 8) = false ∧ othersOut (run .fwActivate (sqe 0 1) (btD 8)).dev 0 (fun o => isFwLoad o || o == .fwActivate || isSleep o) = false := by
  unfold bg Begins; decide +kernel
theorem test_activation : activationReason (actS 0).dev { cmd := 0, bank := 1, step := 0, ns := 0 } = some 1 ∧ (findOutst (actS 0).dev 0).isSome = true ∧
    longOut (actS 1 .flush).dev = true ∧ longOut (actS 1 .identify).dev = false ∧ (actS 1).dev.boot.act = some { cmd := 0, bank := 1, step := 1, ns := 0 } := by
  decide +kernel
theorem test_switch : let s : State := { dev := { (actS 2).dev with host := { dev0.host with outst := [{ cmd .fwActivate (sqe 0 1) with phase := .stepped }] } } }
    s.dev.boot.act = some { cmd := 0, bank := 1, step := 2, ns := 0 } ∧ s.dev.host.outst = [{ cmd .fwActivate (sqe 0 1) with phase := .stepped }] ∧
    Queues s 11 := by unfold Queues; decide +kernel
/-- The stages that may fail, and the instants of R541. -/
theorem test_boot_fails : (btD 2).boot.stage = 2 ∧ (btD 3).boot.stage = 3 ∧ custDenied (btD 7 fun s => { s with life := 2 }) = true ∧
    (let s : State := { dev := { (actS 1).dev with tu := { ns := 2000000001 } } }
     s.dev.boot.act = some { cmd := 0, bank := 1, step := 1, ns := 0 } ∧ (0 : Nat) + 2000000000 < s.dev.tu.ns) ∧
    (actS 2).dev.host.outst.any (fun k => k.tag != 0) = true ∧ (actS 2).dev.reads = [] := by decide +kernel
/-! The invariants and the whole machine. -/

theorem test_invariant : State.reset.Inv := by
  unfold State.Inv; exact ⟨by decide +kernel, by decide +kernel⟩
/-- The one way out of the safe state, on a small state. -/
theorem test_reset_leaves : (match exec (.safetyConfigReset 0) (run .safetyConfigReset (sfE 1) (secD heldS)) with
    | .next t => t.dev.safe.held
    | _ => true) = false := by decide +kernel
def full1024 : State :=
  { dev := { dev0 with host := { dev0.host with outst := List.replicate 1024 (cmd .flush (sqe 0 0)), nextTag := 1 } } }
theorem test_1024 : (full1024.dev.host.outst.filter fun c => c.op != .eventArm).length = 1024 ∧
    ∀ c ∈ full1024.dev.host.outst, c.tag < full1024.dev.host.nextTag := by
  refine ⟨?_, ?_⟩
  · show ((List.replicate 1024 (cmd .flush (sqe 0 0))).filter fun c => c.op != .eventArm).length = 1024
    rw [List.filter_replicate_of_pos (by decide), List.length_replicate]
  · intro c h
    rw [List.eq_of_mem_replicate h]; decide
theorem test_frames : familyOf (.flush 0) = .control ∧ familyOf (.isleConfig 0) = .pictures ∧ familyOf (.recOpen 0) = .surroundings := by decide

/-! WellFormed: for each check a term it refuses, beside one at the edge of what it takes. -/

theorem test_wf_link : wellFormed (.hostLinkL0Entry 0 16) = false ∧ wellFormed (.hostLinkL0Entry 8 16) = false ∧
    wellFormed (.hostLinkL0Entry 6 3) = false ∧ wellFormed (.hostLinkL0Entry 7 16) = true ∧ wellFormed (.l0pWidthChange 0) = false ∧
    wellFormed (.l0pWidthChange 1) = true := by decide
theorem test_wf_queue_pairs : wellFormed (.sqTailDoorbell 4096 0) = false ∧ wellFormed (.cqHeadDoorbell 4096 0) = false ∧
    wellFormed (.intCoalesceTimeout 4096) = false ∧ wellFormed (.sqTailDoorbell 4095 0) = true := by decide
theorem test_wf_vectors : wellFormed (.msixVectorUnmask 2048) = false ∧ wellFormed (.msixVectorUnmask 2047) = true := by decide
theorem test_wf_register : wellFormed (.registerWrite ⟨4, 0, 4, 0⟩) = false ∧ wellFormed (.registerWrite ⟨0, 0, 3, 0⟩) = false ∧
    wellFormed (.registerWrite ⟨2, 0, 8, 0⟩) = true ∧ wellFormed (.registerWrite ⟨3, 2, 2, 0⟩) = true := by decide
/-- A block of NRZ symbols, and one of PAM4 symbols. -/
def nrz : Blk := List.replicate 132 1
def pam4 : Blk := List.replicate 66 3
theorem test_wf_lanes : wellFormed (.trainBlockRx 0 (List.replicate 9 [])) = false ∧ wellFormed (.trainBlockRx 0 [[nrz.set 0 2]]) = false ∧
    wellFormed (.trainBlockRx 0 [[nrz], [], [pam4, pam4]]) = true ∧
    wellFormed (.commaBlockRx 0 (List.replicate 9 ⟨nrz, 0⟩)) = false ∧ wellFormed (.commaBlockRx 0 [⟨pam4.set 65 4, 0⟩]) = false ∧
    wellFormed (.commaBlockRx 0 [⟨pam4, 0⟩]) = true ∧ wellFormed (.laneLockLoss 0 8 0) = false ∧ wellFormed (.laneLockLoss 0 7 0) = true := by
  decide +kernel
theorem test_wf_merit : wellFormed (.adaptationDone 0 [256]) = false ∧ wellFormed (.presetAck 0 [] (List.replicate 9 0)) = false ∧
    wellFormed (.presetAck 0 [[]] []) = false ∧ wellFormed (.fomMeasure 0 256) = false ∧
    wellFormed (.presetAck 0 [nrz] (List.replicate 8 255)) = true := by decide +kernel
theorem test_wf_times : wellFormed (.smiwaldHunt 0 [List.replicate 9 nrz]) = false ∧ wellFormed (.sleepBlockRx 0 [[nrz, []]]) = false ∧
    wellFormed (.fsPacket 0 [[[]]]) = false ∧ wellFormed (.fePacket 0 [[[]]]) = false ∧ wellFormed (.linePacket 0 [[[]]]) = false ∧
    wellFormed (.embeddedPacket 0 [[[]]]) = false ∧ wellFormed (.ctrlRespPacket 0 [[[]]]) = false ∧
    wellFormed (.unknownTypePacket 0 [[[]]]) = false ∧ wellFormed (.linePacket 0 [List.replicate 8 pam4, [nrz]]) = true := by decide +kernel
theorem test_wf_memory : wellFormed (.hbmRefresh 64 0) = false ∧ wellFormed (.hbmRefresh 0 48) = false ∧
    wellFormed (.hbmTraining 64 0) = false ∧ wellFormed (.lagoonRepair 201326592 0) = false ∧
    wellFormed (.hbmRefresh 63 47) = true ∧ wellFormed (.lagoonRepair 201326591 0) = true := by decide
theorem test_wf_pressure : wellFormed (.bankPressureInterval (List.replicate 65 0) []) = false ∧
    wellFormed (.bankPressureInterval [] (List.replicate 65 0)) = false ∧ wellFormed (.bankPressureInterval [] []) = true := by decide
theorem test_wf_output : wellFormed (.dpLinkTrained 0 4 3) = false ∧ wellFormed (.dpLinkTrained 0 4 4) = true := by decide
theorem test_wf_motion : wellFormed (.axisFault 0 0) = false ∧ wellFormed (.axisFault 0 8) = false ∧ wellFormed (.axisFault 0 7) = true ∧
    wellFormed (.proofTestDone 128) = false ∧ wellFormed (.proofTestDone 127) = true := by decide
theorem test_wf_cores : wellFormed (.irqTargetWrite 0 0 0) = false ∧ wellFormed (.irqTargetWrite 0 64 0) = false ∧
    wellFormed (.irqTargetWrite 0 63 0) = true ∧ wellFormed (.debugPortHalt 8) = false ∧ wellFormed (.debugPortResume 8) = false ∧
    wellFormed (.debugPortHalt 7) = true := by decide
theorem test_wf_sensors : wellFormed (.sensorSample (List.replicate 23 0)) = false ∧
    wellFormed (.sensorSample (List.replicate 24 0)) = true := by decide
theorem test_wf_stamps : wellFormed (.ptpSyncTx 0 ⟨0, 3355444⟩) = false ∧ wellFormed (.ptpDelayReqTx 0 ⟨0, 3355444⟩) = false ∧
    wellFormed (.ptpSyncTx 0 ⟨0, 3355443⟩) = true ∧ wellFormed (.ptpSyncRx default ⟨0, 3355444⟩) = false ∧
    wellFormed (.ptpDelayReqRx { (default : PtpMsg) with mac := ⟨0, 3355444⟩ } ⟨0, 0⟩) = false := by decide

end Sys2Proof.Machine.Tests
end

section
/-!
What an idle period keeps (01 R10): the drains of the write queues, of the flows and of the network ports leave the time unit
alone, and each does nothing where nothing waits for it.
-/
namespace Sys2Proof.Machine

/-- A fold of updates keeps what each of them keeps. -/
theorem foldl_keeps {α β : Type} (p : Dev → β) (f : Dev → α → Dev) (h : ∀ d x, p (f d x) = p d) (l : List α) (d : Dev) :
    p (l.foldl f d) = p d := by
  induction l generalizing d with
  | nil => rfl
  | cons x l ih => exact (ih (f d x)).trans (h d x)

/-! The time unit under the drains of HBM (12 R324). -/

@[simp] theorem logMem_tu (u : MemUser) (source kind stack unit addr detail : Nat) (d : Dev) :
    (logMem u source kind stack unit addr detail d).tu = d.tu := by
  rw [logMem, modHbm_eq]

@[simp] theorem memUe_tu (u : MemUser) (source stack unit : Nat) (d : Dev) : (memUe u source stack unit d).tu = d.tu := by
  unfold memUe
  split
  · rfl
  · split <;> simp

@[simp] theorem memLost_tu (u : MemUser) (source kind sec : Nat) (d : Dev) : (memLost u source kind sec d).tu = d.tu := by
  simp [memLost]

@[simp] theorem checkEntry_tu (q : QEnt) (d : Dev) : (checkEntry q d).tu = d.tu := by
  unfold checkEntry
  split
  · simp
  · rfl

@[simp] theorem drainEntry_tu (q : QEnt) (d : Dev) : (drainEntry q d).tu = d.tu := checkEntry_tu q d

@[simp] theorem drainOldest_tu (pc : Nat) (d : Dev) : (drainOldest pc d).tu = d.tu := by
  unfold drainOldest
  split
  · exact drainEntry_tu _ d
  · rfl

@[simp] theorem drainIdle_tu (d : Dev) : (drainIdle d).tu = d.tu := by
  unfold drainIdle
  split
  · rfl
  · exact foldl_keeps Dev.tu _ (fun d pc => drainOldest_tu pc d) _ d

theorem drainIdle_of_none (d : Dev) (h : d.hbm.queue = [] ∨ hbmRuns d = false) : drainIdle d = d := by
  rcases h with h | h <;> simp [drainIdle, h]

/-! The time unit under the flows and the egress of the network ports (14 R366, R382). -/

@[simp] theorem netOut_tu (n : NetId) (kind : Nat) (bytes : List Byte) (d : Dev) : (netOut n kind bytes d).tu = d.tu := rfl

@[simp] theorem flowPump_tu (slot : Nat) (d : Dev) : (flowPump slot d).tu = d.tu := by
  unfold flowPump
  split
  · rfl
  · exact foldl_keeps Dev.tu _ (fun d _ => foldl_keeps Dev.tu _ (fun d n => netOut_tu n 3 _ d) _ d) _ d

@[simp] theorem pumpFlows_tu (d : Dev) : (pumpFlows d).tu = d.tu :=
  foldl_keeps Dev.tu _ (fun d _ => flowPump_tu _ d) _ d

theorem pumpFlows_of_none (d : Dev) (h : d.flows = []) : pumpFlows d = d := by
  rw [pumpFlows, h, List.foldl_nil]

@[simp] theorem drainPort_tu (n : NetId) (d : Dev) : (drainPort n d).tu = d.tu := by
  unfold drainPort
  split
  · rfl
  · split
    · rfl
    · simp only [netOut_tu]
      split <;> rfl

theorem drainPort_of_none (n : NetId) (d : Dev) (h : (net d n).txq = []) : drainPort n d = d := by
  simp [drainPort, nextTx, h]

/-! The idle step (01 R10, 14 R367). -/

theorem tuAdvance_held (n : Nat) (u : Tu) (h : u.held = true) : tuAdvance n u = u := if_pos h

@[simp] theorem idleTick_tu (d : Dev) : (idleTick d).tu = tuAdvance 5 d.tu := by simp [idleTick]

/-- Where nothing waits that can drain, an idle period only advances the time unit. -/
theorem idleTick_of_none (d : Dev) (hq : d.hbm.queue = [] ∨ hbmRuns d = false) (hf : d.flows = [])
    (hn : ∀ n, (net d n).txq = []) : idleTick d = { d with tu := tuAdvance 5 d.tu } := by
  have hd : drainIdle { d with tu := tuAdvance 5 d.tu } = { d with tu := tuAdvance 5 d.tu } := drainIdle_of_none _ hq
  have hp : pumpFlows { d with tu := tuAdvance 5 d.tu } = { d with tu := tuAdvance 5 d.tu } := pumpFlows_of_none _ hf
  have hx (n : NetId) : drainPort n { d with tu := tuAdvance 5 d.tu } = { d with tu := tuAdvance 5 d.tu } :=
    drainPort_of_none n _ (hn n)
  rw [idleTick, hd, hp, hx, hx]

theorem step_of_empty (s : State) (h : s.pending = []) : step s = .next (s.mapDev idleTick) := by rw [step, h]

/-- Settles O2: the drains keep the time unit, and do nothing where nothing waits. -/
theorem emptyQueuePassesAPeriod : Obligations.EmptyQueuePassesAPeriod := by
  refine ⟨fun s hs => ⟨_, step_of_empty s hs, hs, idleTick_tu s.dev, fun hh => ?_⟩, fun s hs hq hf hn => ?_⟩
  · rw [mapDev_dev, idleTick_tu, tuAdvance_held _ _ hh]
  · have hstep : step s = .next { s with dev := { s.dev with tu := tuAdvance 5 s.dev.tu } } := by
      rw [step_of_empty s hs, State.mapDev, idleTick_of_none s.dev hq hf hn]
    exact ⟨hstep, fun hh => by rw [hstep, tuAdvance_held _ _ hh]⟩

end Sys2Proof.Machine
end

section
/-!
Bits of a pending word, and what the updates of one customer core leave as they were (19 R484).
-/
namespace Sys2Proof.Machine

/-! Setting and clearing one bit. -/

theorem bitOf_eq_testBit (x i : Nat) : bitOf x i = x.testBit i := by
  rw [bitOf, Nat.testBit_eq_decide_div_mod_eq]
  rfl

/-- Adding a power of two whose bit is clear changes no other bit. -/
theorem testBit_add_two_pow_ne {x i j : Nat} (hx : x.testBit i = false) (h : i ≠ j) : (x + 2 ^ i).testBit j = x.testBit j := by
  rcases Nat.lt_or_gt_of_ne h with hij | hji
  · have half : (x / 2 ^ i + 1) / 2 = x / 2 ^ i / 2 := by
      simp only [Nat.testBit_eq_decide_div_mod_eq, decide_eq_false_iff_not] at hx
      omega
    have high (y : Nat) : y.testBit j = (y / 2 ^ i / 2).testBit (j - i - 1) := by
      rw [Nat.div_div_eq_div_mul, ← Nat.pow_succ, Nat.testBit_div_two_pow]
      congr 1
      omega
    rw [high, Nat.add_div_right x (Nat.two_pow_pos i), half, ← high]
  · rw [Nat.add_comm, Nat.testBit_two_pow_add_gt hji]

@[simp] theorem bitOf_setBit_self (x i : Nat) : bitOf (setBit x i) i = true := by
  unfold setBit
  split
  · assumption
  · rename_i h
    rw [bitOf_eq_testBit] at h ⊢
    rw [Nat.add_comm, Nat.testBit_two_pow_add_eq]
    simpa using h

theorem bitOf_setBit_ne {x i j : Nat} (h : i ≠ j) : bitOf (setBit x i) j = bitOf x j := by
  unfold setBit
  split
  · rfl
  · rename_i hx
    simp only [bitOf_eq_testBit] at hx ⊢
    exact testBit_add_two_pow_ne (by simpa using hx) h

@[simp] theorem bitOf_clearBit_self (x i : Nat) : bitOf (clearBit x i) i = false := by
  unfold clearBit
  split
  · rename_i h
    have below : (x - 2 ^ i) / 2 ^ i = x / 2 ^ i - 1 := by simpa using Nat.sub_mul_div x (2 ^ i) 1
    simp only [bitOf, beq_iff_eq, beq_eq_false_iff_ne, ne_eq, below] at h ⊢
    omega
  · simpa using ‹¬bitOf x i = true›

/-! A customer core after updates of other state. -/

theorem core_congr {d d' : Dev} (h : d'.cores = d.cores) (c : CoreId) : core d' c = core d c := by rw [core, h, core]

/-- An update of what the cores share leaves each core as it was. -/
theorem core_modCores_shared {f : Cores → Cores} {d : Dev} (c : CoreId) (h : (f d.cores).c = d.cores.c) :
    core (modCores f d) c = core d c := by
  rw [core, modCores_eq, h, core]

@[simp] theorem core_emit (o : Out) (d : Dev) (c : CoreId) : core (emit o d) c = core d c := core_congr (emit_cores o d) c
@[simp] theorem core_coreLoad (k : CoreId) (a v : Nat) (d : Dev) (c : CoreId) : core (coreLoad k a v d) c = core d c :=
  core_emit _ d c
@[simp] theorem core_notify (v : Nat) (d : Dev) (c : CoreId) : core (notify v d) c = core d c :=
  core_congr (notify_cores v d) c
@[simp] theorem coreLoad_out (c : CoreId) (a v : Nat) (d : Dev) : (coreLoad c a v d).out = .load (c.val + 1) a v :: d.out := rfl
@[simp] theorem coreLoad_cores (c : CoreId) (a v : Nat) (d : Dev) : (coreLoad c a v d).cores = d.cores := rfl
@[simp] theorem modCore_out (c : CoreId) (f : Core → Core) (d : Dev) : (modCore c f d).out = d.out := rfl

@[simp] theorem core_irqEdgeOn (c : CoreId) (id : Nat) (d : Dev) :
    core (irqEdgeOn c id d) c = { core d c with pend := setBit (core d c).pend id } := core_modCore c _ d

theorem mapDev_of_eq (s : State) (f : Dev → Dev) (h : f s.dev = s.dev) : s.mapDev f = s := by rw [State.mapDev, h]

end Sys2Proof.Machine
end

section
/-!
The interrupt distributor (19 R483-R488).
-/
namespace Sys2Proof.Machine

/-! The source that a claim takes (19 R485). -/

/-- The better of the best source so far, 0 for none, and a claimable one. -/
def irqPick (d : Dev) (c : CoreId) (best id : Nat) : Nat :=
  if best = 0 || irqPrio d c id < irqPrio d c best then id else best

/-- The claimable source of the lowest PRIORITY, and the lowest ID on a tie, of those below a bound; 0 for none. -/
def irqNextBelow (d : Dev) (c : CoreId) (k : Nat) : Nat := ((List.range k).filter (claimable d c)).foldl (irqPick d c) 0

/-- `r` is what a claim among the sources below `k` takes: no source where it is 0, else the best of them. -/
def ClaimBelow (d : Dev) (c : CoreId) (k r : Nat) : Prop :=
  (r = 0 → ∀ n, 1 ≤ n → n < k → claimable d c n = false) ∧
  (r ≠ 0 → r < k ∧ claimable d c r = true ∧ ∀ n, 1 ≤ n → n < k → claimable d c n = true →
    irqPrio d c r < irqPrio d c n ∨ irqPrio d c r = irqPrio d c n ∧ r ≤ n)

theorem claimBelow_skip {d : Dev} {c : CoreId} {k r : Nat} (h : ClaimBelow d c k r) (hk : claimable d c k = false) :
    ClaimBelow d c (k + 1) r := by
  obtain ⟨none, best⟩ := h
  refine ⟨fun hr n h1 hn => ?_, fun hr => ?_⟩
  · rcases Nat.lt_succ_iff_lt_or_eq.mp hn with hn | rfl
    · exact none hr n h1 hn
    · exact hk
  · obtain ⟨hlt, hc, hmin⟩ := best hr
    refine ⟨Nat.lt_succ_of_lt hlt, hc, fun n h1 hn hcn => ?_⟩
    rcases Nat.lt_succ_iff_lt_or_eq.mp hn with hn | rfl
    · exact hmin n h1 hn hcn
    · rw [hk] at hcn; cases hcn

theorem claimBelow_pick {d : Dev} {c : CoreId} {k r : Nat} (h : ClaimBelow d c k r) (hk : claimable d c k = true) :
    ClaimBelow d c (k + 1) (irqPick d c r k) := by
  obtain ⟨none, best⟩ := h
  by_cases hr : r = 0
  · rw [show irqPick d c r k = k by simp [irqPick, hr]]
    refine ⟨fun hk0 n h1 hn => by omega, fun _ => ⟨Nat.lt_succ_self k, hk, fun n h1 hn hcn => ?_⟩⟩
    rcases Nat.lt_succ_iff_lt_or_eq.mp hn with hn | rfl
    · rw [none hr n h1 hn] at hcn; cases hcn
    · exact .inr ⟨rfl, Nat.le_refl _⟩
  · obtain ⟨hlt, hc, hmin⟩ := best hr
    have bound (n : Nat) (h1 : 1 ≤ n) (hn : n < k + 1) (hcn : claimable d c n = true) :
        n = k ∨ irqPrio d c r < irqPrio d c n ∨ irqPrio d c r = irqPrio d c n ∧ r ≤ n := by
      rcases Nat.lt_succ_iff_lt_or_eq.mp hn with hn | rfl
      · exact .inr (hmin n h1 hn hcn)
      · exact .inl rfl
    by_cases hp : irqPrio d c k < irqPrio d c r
    · rw [show irqPick d c r k = k by simp [irqPick, hp]]
      refine ⟨fun hk0 => by omega, fun _ => ⟨Nat.lt_succ_self k, hk, fun n h1 hn hcn => ?_⟩⟩
      rcases bound n h1 hn hcn with rfl | hb <;> omega
    · rw [show irqPick d c r k = r by simp [irqPick, hp, hr]]
      refine ⟨fun h0 => absurd h0 hr, fun _ => ⟨Nat.lt_succ_of_lt hlt, hc, fun n h1 hn hcn => ?_⟩⟩
      rcases bound n h1 hn hcn with rfl | hb <;> omega

theorem irqNextBelow_claims (d : Dev) (c : CoreId) (k : Nat) : ClaimBelow d c k (irqNextBelow d c k) := by
  induction k with
  | zero => exact ⟨fun _ n _ hn => absurd hn (Nat.not_lt_zero n), fun h => absurd rfl h⟩
  | succ k ih =>
    unfold irqNextBelow at ih ⊢
    rw [List.range_succ, List.filter_append, List.foldl_append]
    cases hk : claimable d c k with
    | false => simpa [hk] using claimBelow_skip ih hk
    | true => simpa [hk] using claimBelow_pick ih hk

theorem irqNext_claims (d : Dev) (c : CoreId) : ClaimBelow d c 64 (irqNext d c) := irqNextBelow_claims d c 64

/-! The rows of the distributor (19 R485, R486, R488). -/

theorem exec_irqClaim (c : CoreId) (s : State) : exec (.irqClaim c) s = .next (s.mapDev (irqClaim c)) := rfl
theorem exec_irqComplete (c : CoreId) (v : Word) (s : State) :
    exec (.irqComplete c v) s = .next (s.mapDev (irqComplete c v)) := rfl
theorem exec_irqSpuriousRead (c : CoreId) (s : State) :
    exec (.irqSpuriousRead c) s = .next (s.mapDev (irqSpuriousRead c)) := rfl
theorem exec_sgiWrite (c : CoreId) (v : Word) (s : State) : exec (.sgiWrite c v) s = .next (s.mapDev (sgiWrite c v)) := rfl
theorem exec_irqTargetWrite (c : CoreId) (id : Nat) (v : Word) (s : State) :
    exec (.irqTargetWrite c id v) s = .next (s.mapDev (irqTargetWrite c id v)) := rfl

section Running
variable {d : Dev} {c : CoreId} (h : coreRuns d c = true)
include h

theorem irqClaim_out : (irqClaim c d).out = .load (c.val + 1) 0x40000000 (irqNext d c) :: d.out := by
  simp only [irqClaim, h, Bool.not_true, Bool.false_eq_true, if_false]
  split
  · rfl
  · split
    · rfl
    · split <;> rfl

theorem irqClaim_cores_of_none (h0 : irqNext d c = 0) : (irqClaim c d).cores = d.cores := by
  simp [irqClaim, h, h0]

theorem irqClaim_active (h0 : irqNext d c ≠ 0) :
    (core (irqClaim c d) c).active = (core d c).active ++ [irqNext d c] := by
  simp only [irqClaim, h, h0, Bool.not_true, Bool.false_eq_true, if_false]
  split
  · simp
  · split
    · simp
    · rw [core_modCores_shared]
      · simp
      · rfl

/-- A claimed edge source of the core's own no longer pends. -/
theorem irqClaim_clears_own (h0 : irqNext d c ≠ 0) (hl : isLevel (irqNext d c) = false) (hn : irqNext d c < 32) :
    bitOf (core (irqClaim c d) c).pend (irqNext d c) = false := by
  simp [irqClaim, h, h0, hl, hn]

/-- A claimed shared edge source no longer pends. -/
theorem irqClaim_clears_shared (h0 : irqNext d c ≠ 0) (hl : isLevel (irqNext d c) = false) (hn : 32 ≤ irqNext d c) :
    bitOf (irqClaim c d).cores.pend (irqNext d c - 32) = false := by
  simp [irqClaim, h, h0, hl, Nat.not_lt.mpr hn]

theorem irqComplete_of_active (v : Word) (ha : (core d c).active.contains (v.toNat % 512) = true) :
    irqComplete c v d = modCore c (fun k => { k with active := k.active.filter (· != v.toNat % 512) }) d := by
  simp only [irqComplete, h, ha, Bool.not_true, Bool.false_eq_true, if_false, if_true]

theorem irqComplete_of_inactive (v : Word) (ha : (core d c).active.contains (v.toNat % 512) = false) :
    irqComplete c v d = modCore c (fun k => { k with spurious := min (k.spurious + 1) 0xFFFF }) d := by
  simp only [irqComplete, h, ha, Bool.not_true, Bool.false_eq_true, if_false]

theorem irqSpuriousRead_of_runs :
    irqSpuriousRead c d = modCore c (fun k => { k with spurious := 0 }) (coreLoad c 0x40000014 (core d c).spurious d) := by
  simp [irqSpuriousRead, h]

theorem sgiWrite_of_runs (v : Word) :
    sgiWrite c v d = irqEdgeOn (if v.getLsbD 8 then otherCore c else c) (24 + v.toNat % 8) d := by
  simp [sgiWrite, h]

theorem irqTargetWrite_own (v : Word) {n : Nat} (h1 : 1 ≤ n) (hn : n < 32) :
    irqTargetWrite c n v d = modCore c (fun k => { k with prio := k.prio.setIfInBounds n (v.toNat % 256) }) d := by
  have h0 : n ≠ 0 := by omega
  have h64 : ¬64 ≤ n := by omega
  simp [irqTargetWrite, h, h0, h64, hn]

/-- PRIORITY of a shared ID is written, and its TARGET where it has one. -/
theorem irqTargetWrite_shared (v : Word) {n : Nat} (hn : 32 ≤ n) (h64 : n < 64) :
    (irqTargetWrite c n v d).cores = { d.cores with
      prio := d.cores.prio.setIfInBounds (n - 32) (v.toNat % 256)
      target := if 40 ≤ n ∧ n ≤ 53 then d.cores.target.setIfInBounds (n - 32) (b2n (v.getLsbD 9)) else d.cores.target } := by
  have h0 : n ≠ 0 := by omega
  have h32 : ¬n < 32 := by omega
  by_cases ht : 40 ≤ n ∧ n ≤ 53
  · simp [irqTargetWrite, h, h0, h32, Nat.not_le.mpr h64, ht]
  · simp only [irqTargetWrite, h, h0, h32, Nat.not_le.mpr h64, ht]
    simp [ht]

theorem irqPrio_irqTargetWrite (v : Word) {n : Nat} (h1 : 1 ≤ n) (h64 : n < 64) :
    irqPrio (irqTargetWrite c n v d) c n = v.toNat % 256 := by
  by_cases hn : n < 32
  · rw [irqTargetWrite_own h v h1 hn]
    simp [irqPrio, hn, Vector.getD]
  · have hk : n - 32 < 32 := by omega
    rw [irqPrio, if_neg hn, irqTargetWrite_shared h v (Nat.not_lt.mp hn) h64]
    simp [hk, Vector.getD]

theorem irqTargetWrite_target {n : Nat} (v : Word) (hlo : 40 ≤ n) (hhi : n ≤ 53) :
    (irqTargetWrite c n v d).cores.target.getD (n - 32) 0 = b2n (v.getLsbD 9) := by
  have hk : n - 32 < 32 := by omega
  rw [irqTargetWrite_shared h v (by omega) (by omega)]
  simp [hlo, hhi, hk, Vector.getD]

theorem irqTargetWrite_target_kept {n : Nat} (v : Word) (h1 : 1 ≤ n) (h64 : n < 64) (hn : n < 40 ∨ 53 < n) :
    (irqTargetWrite c n v d).cores.target = d.cores.target := by
  by_cases h32 : n < 32
  · rw [irqTargetWrite_own h v h1 h32]
    rfl
  · rw [irqTargetWrite_shared h v (Nat.not_lt.mp h32) h64]
    exact if_neg (by omega)

theorem irqTargetWrite_cores_kept {n : Nat} (v : Word) (hn : 32 ≤ n) (h64 : n < 64) :
    (irqTargetWrite c n v d).cores.c = d.cores.c := by
  rw [irqTargetWrite_shared h v hn h64]

end Running

end Sys2Proof.Machine
end

section
/-!
The timers, the time readout and an access that is not performed (19 R489; 14 R369; 01 R20).
-/
namespace Sys2Proof.Machine

theorem exec_tmrExpiry (c : CoreId) (n : Fin 4) (s : State) : exec (.tmrExpiry c n) s = .next (s.mapDev (tmrExpiry c n)) := rfl
theorem exec_tmrCountRead (c : CoreId) (n : Fin 4) (s : State) :
    exec (.tmrCountRead c n) s = .next (s.mapDev (tmrCountRead c n)) := rfl
theorem exec_timeSnapshotLoad (c : CoreId) (s : State) :
    exec (.timeSnapshotLoad c) s = .next (s.mapDev (timeSnapshotLoad c)) := rfl
theorem exec_customerAccessFault (c : CoreId) (st : Bool) (a : Nat) (s : State) :
    exec (.customerAccessFault c st a) s = .next (s.mapDev fun d => if coreRuns d c then accessFault c st a d else d) := rfl

@[simp] theorem expireOn_tmr (c : CoreId) (n : Fin 4) (byStep : Bool) (d : Dev) :
    (core (expireOn c n byStep d) c).tmr[n] = tmrExpire (ns32 d) byStep (core d c).tmr[n] := by
  simp [expireOn]

/-- An expiry pends the timer's source. -/
theorem expireOn_pends (c : CoreId) (n : Fin 4) (byStep : Bool) (d : Dev) :
    bitOf (core (expireOn c n byStep d) c).pend (1 + n.val) = true := by
  simp [expireOn]

theorem tmrExpiry_of_due {c : CoreId} {n : Fin 4} {d : Dev} (h : tmrDue d (core d c).tmr[n] = true) :
    tmrExpiry c n d = expireOn c n false d := if_pos h

theorem tmrExpiry_of_not_due {c : CoreId} {n : Fin 4} {d : Dev} (h : tmrDue d (core d c).tmr[n] = false) :
    tmrExpiry c n d = d := by
  simp only [tmrExpiry, h, Bool.false_eq_true, if_false]

section Running
variable {d : Dev} {c : CoreId} (h : coreRuns d c = true)
include h

theorem tmrCountRead_of_runs (n : Fin 4) :
    tmrCountRead c n d = modCore c (fun k => { k with tmr := k.tmr.set n { k.tmr[n] with count := 0 } })
      (coreLoad c (0x4005000C + 0x20 * n.val) (core d c).tmr[n].count d) := by
  simp only [tmrCountRead, h, Bool.not_true, Bool.false_eq_true, if_false]

theorem timeSnapshotLoad_of_runs :
    timeSnapshotLoad c d = coreLoad c 0x40030000 (d.tu.ns % 1000000000) (modCore c (fun k =>
      { k with tsnap := (d.tu.ns / 1000000000 % 2 ^ 48, d.tu.ns % 1000000000, ns32 d) }) d) := by
  simp only [timeSnapshotLoad, h, Bool.not_true, Bool.false_eq_true, if_false]

end Running

theorem accessFault_faults (c : CoreId) (st : Bool) (a : Nat) (d : Dev) :
    (core (accessFault c st a d) c).faults = min ((core d c).faults + 1) 0xFFFF := by
  cases st <;> simp [accessFault]

theorem accessFault_out (c : CoreId) (st : Bool) (a : Nat) (d : Dev) :
    (accessFault c st a d).out = .accessFault c.val st a :: (if st then d.out else .load (c.val + 1) a 0 :: d.out) := by
  cases st <;> rfl

end Sys2Proof.Machine
end

section
/-!
The firmware mailbox (19 R490-R492).
-/
namespace Sys2Proof.Machine

theorem exec_mbxOutPush (c : CoreId) (v : Dword) (s : State) : exec (.mbxOutPush c v) s = .next (s.mapDev (mbxOutPush c v)) := rfl
theorem exec_mbxInPop (c : CoreId) (s : State) : exec (.mbxInPop c) s = .next (s.mapDev (mbxInPop c)) := rfl
theorem exec_mbxOutTake (c : CoreId) (s : State) : exec (.mbxOutTake c) s = .next (s.mapDev (mbxOutTake c)) := rfl

/-! A message toward a core. -/

theorem mbxIn_of_room {c : CoreId} {d : Dev} (m : Msg) (h : (core d c).inq.length < 16) :
    mbxIn c m d = modCore c (fun k => { k with inq := k.inq ++ [m] }) d := if_pos h

@[simp] theorem mbxIn_outq (c : CoreId) (m : Msg) (d : Dev) : (core (mbxIn c m d) c).outq = (core d c).outq := by
  unfold mbxIn
  split <;> simp

theorem reportLost_inq {c : CoreId} {d : Dev} (h : (core d c).inq.length < 16) :
    (core (reportLost c d) c).inq =
      (core d c).inq ++ (if (core d c).lost = 0 then [] else [plainMsg 0x85 (core d c).lost 0]) := by
  by_cases h0 : (core d c).lost = 0 <;> simp [reportLost, h0, Nat.not_le.mpr h]

theorem reportLost_lost {c : CoreId} {d : Dev} (h : (core d c).inq.length < 16) : (core (reportLost c d) c).lost = 0 := by
  by_cases h0 : (core d c).lost = 0 <;> simp [reportLost, h0, Nat.not_le.mpr h]

@[simp] theorem reportLost_out (c : CoreId) (d : Dev) : (reportLost c d).out = d.out := by
  simp only [reportLost]
  split <;> rfl

/-! The stores and loads of a core. -/

section Running
variable {d : Dev} {c : CoreId} (h : coreRuns d c = true)
include h

theorem mbxOutPush_of_room (v : Dword) (hq : (core d c).outq.length < 16) :
    mbxOutPush c v d = modCore c (fun k => { k with outq := k.outq ++ [(ns32 d, { w0 := k.outW0, w1 := v })] }) d := by
  simp [mbxOutPush, h, hq]

theorem mbxOutPush_of_full (v : Dword) (hq : 16 ≤ (core d c).outq.length) :
    mbxOutPush c v d = modCore c (fun k => { k with outOvf := true }) d := by
  simp [mbxOutPush, h, Nat.not_lt.mpr hq]

theorem mbxInPop_of_empty (hq : (core d c).inq = []) : mbxInPop c d = coreLoad c 0x40040018 0 d := by
  simp [mbxInPop, h, hq]

theorem mbxInPop_of_cons {m : Msg} {rest : List Msg} (hq : (core d c).inq = m :: rest) :
    mbxInPop c d = reportLost c (modCore c (fun k => { k with inq := rest }) (coreLoad c 0x40040018 m.w1.toNat d)) := by
  simp [mbxInPop, h, hq]

end Running

/-! HOST_POST (19 R492). -/

@[simp] theorem core_hostPost (k : CoreId) (n tag : Nat) (data : Dword) (d : Dev) (c : CoreId) :
    core (hostPost k n tag data d) c = core d c := by
  rw [hostPost, core_notify, core_modCores_shared]
  rfl

@[simp] theorem hostPost_seq (c : CoreId) (n tag : Nat) (data : Dword) (d : Dev) :
    (hostPost c n tag data d).cores.seq = d.cores.seq + 1 := by
  simp [hostPost]

/-- Dropping old entries of a list keeps the one that was just appended. -/
theorem getLast?_drop_concat {α : Type} (l : List α) (e : α) {n : Nat} (h : n ≤ l.length) :
    ((l ++ [e]).drop n).getLast? = some e := by
  rw [List.drop_append_of_le_length h, List.getLast?_concat]

/-- The entry that a post makes is the latest of page 0x0C. -/
theorem hostPost_posts_getLast? (c : CoreId) (n tag : Nat) (data : Dword) (d : Dev) :
    (hostPost c n tag data d).cores.posts.getLast? =
      some { seq := d.cores.seq + 1, core := c.val, tag, ns32 := n, data } := by
  rw [hostPost, notify_cores]
  exact getLast?_drop_concat _ _ (by omega)

/-! An OUT message is taken (19 R490, R491). -/

theorem mbxOutTake_idle {c : CoreId} {d : Dev} (h : d.cores.paused = true ∨ (core d c).outq = []) : mbxOutTake c d = d := by
  rcases h with h | h <;> simp [mbxOutTake, h]

section Taken
variable {d : Dev} {c : CoreId} {n : Nat} {m : Msg} {rest : List (Nat × Msg)}
  (hp : d.cores.paused = false) (hq : (core d c).outq = (n, m) :: rest)
include hp hq

theorem mbxOutTake_post (hm : bitsOf m.w0.toNat 0 8 = 1) : mbxOutTake c d =
    hostPost c n (bitsOf m.w0.toNat 8 8) m.w1 (modCore c (fun k => { k with outq := rest }) d) := by
  simp [mbxOutTake, hp, hq, hm]

theorem mbxOutTake_notify (hm : bitsOf m.w0.toNat 0 8 = 2) : mbxOutTake c d =
    modCore c (fun k => { k with notify := bitsOf m.w0.toNat 16 4 }) (modCore c (fun k => { k with outq := rest }) d) := by
  simp [mbxOutTake, hp, hq, hm]

theorem mbxOutTake_ping (hm : bitsOf m.w0.toNat 0 8 = 3) : mbxOutTake c d =
    mbxIn c { w0 := msgWord 0x83 (bitsOf m.w0.toNat 8 8) 0, w1 := 0 } (modCore c (fun k => { k with outq := rest }) d) := by
  simp [mbxOutTake, hp, hq, hm]

theorem mbxOutTake_unknown (hm : bitsOf m.w0.toNat 0 8 = 0 ∨ 4 ≤ bitsOf m.w0.toNat 0 8) : mbxOutTake c d =
    mbxIn c (plainMsg 0x8F (bitsOf m.w0.toNat 0 8) 0) (modCore c (fun k => { k with outq := rest }) d) := by
  simp only [mbxOutTake, hp, hq, Bool.false_eq_true, if_false]
  split
  · omega
  · omega
  · omega
  · rfl

theorem mbxOutTake_outq : (core (mbxOutTake c d) c).outq = rest := by
  have codes : bitsOf m.w0.toNat 0 8 = 1 ∨ bitsOf m.w0.toNat 0 8 = 2 ∨ bitsOf m.w0.toNat 0 8 = 3 ∨
      bitsOf m.w0.toNat 0 8 = 0 ∨ 4 ≤ bitsOf m.w0.toNat 0 8 := by omega
  rcases codes with hm | hm | hm | hm
  · simp [mbxOutTake_post hp hq hm]
  · simp [mbxOutTake_notify hp hq hm]
  · simp [mbxOutTake_ping hp hq hm]
  · simp [mbxOutTake_unknown hp hq hm]

end Taken

end Sys2Proof.Machine
end

section
/-!
Settling O46 from the rules of its rows.
-/
namespace Sys2Proof.Machine

/-- A core that does not execute: no row that is its own access does anything. -/
theorem accesses_idle_of_not_running {s : State} {c : CoreId} (h : coreRuns s.dev c = false) :
    exec (.irqClaim c) s = .next s ∧ exec (.irqSpuriousRead c) s = .next s ∧ exec (.timeSnapshotLoad c) s = .next s ∧
    exec (.mbxInPop c) s = .next s ∧ (∀ v, exec (.irqComplete c v) s = .next s ∧ exec (.sgiWrite c v) s = .next s) ∧
    (∀ v, exec (.mbxOutPush c v) s = .next s) ∧ (∀ n v, exec (.irqTargetWrite c n v) s = .next s) ∧
    (∀ n, exec (.tmrCountRead c n) s = .next s) ∧ ∀ st n, exec (.customerAccessFault c st n) s = .next s := by
  have idle (f : Dev → Dev) (hf : f s.dev = s.dev) :
      (.next (s.mapDev f) : Host.Outcome State Fault Refusal) = .next s := by rw [mapDev_of_eq s f hf]
  refine ⟨?_, ?_, ?_, ?_, fun v => ⟨?_, ?_⟩, fun v => ?_, fun n v => ?_, fun n => ?_, fun st n => ?_⟩
  · exact idle (irqClaim c) (by simp [irqClaim, h])
  · exact idle (irqSpuriousRead c) (by simp [irqSpuriousRead, h])
  · exact idle (timeSnapshotLoad c) (by simp [timeSnapshotLoad, h])
  · exact idle (mbxInPop c) (by simp [mbxInPop, h])
  · exact idle (irqComplete c v) (by simp [irqComplete, h])
  · exact idle (sgiWrite c v) (by simp [sgiWrite, h])
  · exact idle (mbxOutPush c v) (by simp [mbxOutPush, h])
  · exact idle (irqTargetWrite c n v) (by simp [irqTargetWrite, h])
  · exact idle (tmrCountRead c n) (by simp [tmrCountRead, h])
  · exact idle (fun d => if coreRuns d c then accessFault c st n d else d) (by simp [h])

/-- Settles O46: each row through the rule of its operation. -/
theorem interruptsTimersAndMailbox : Obligations.InterruptsTimersAndMailbox := by
  refine ⟨irqNext_claims, fun s c h => ?claim, fun s c v h => ?complete, fun s c h => ?spurious,
    fun s c o v h ho => ?sgi, fun s c n v h h1 h64 => ?target, fun s c n k hk => ⟨fun hd => ?expiry, fun hd => ?early⟩,
    fun s c n h => ?count, fun s c h => ?snapshot, fun s c v h => ⟨fun hq => ?push, fun hq => ?full⟩,
    fun s c h => ⟨fun hq => ?empty, fun m rest hq hr => ?pop⟩, fun s c n m rest hp hq => ?take, fun s c st n h => ?fault,
    fun s c h => ?idle, fun s c h => accesses_idle_of_not_running h⟩
  case claim =>
    refine ⟨_, exec_irqClaim c s, irqClaim_out h, irqClaim_cores_of_none h, ?_⟩
    rintro n rfl h0
    exact ⟨irqClaim_active h h0, irqClaim_clears_own h h0, irqClaim_clears_shared h h0⟩
  case complete =>
    refine ⟨_, exec_irqComplete c v s, fun ha => ?_, fun ha => ?_⟩
    · simp [irqComplete_of_active h v ha]
    · simp [irqComplete_of_inactive h v ha]
  case spurious =>
    exact ⟨_, exec_irqSpuriousRead c s, by simp [irqSpuriousRead_of_runs h], by simp [irqSpuriousRead_of_runs h]⟩
  case sgi =>
    subst ho
    refine ⟨_, exec_sgiWrite c v s, ?_, fun n hn => ?_⟩
    · rw [mapDev_dev, sgiWrite_of_runs h, core_irqEdgeOn, bitOf_setBit_self]
    · rw [mapDev_dev, sgiWrite_of_runs h, core_irqEdgeOn, bitOf_setBit_ne hn.symm]
  case target =>
    exact ⟨_, exec_irqTargetWrite c n v s, irqPrio_irqTargetWrite h v h1 h64, irqTargetWrite_target h v,
      irqTargetWrite_target_kept h v h1 h64, fun hn => irqTargetWrite_cores_kept h v hn h64⟩
  case expiry =>
    subst hk
    refine ⟨_, _, exec_tmrExpiry c n s, rfl, ?_⟩
    rw [mapDev_dev, tmrExpiry_of_due hd, expireOn_tmr]
    exact ⟨rfl, rfl, Bool.or_false _, rfl, rfl, rfl, expireOn_pends c n false s.dev⟩
  case early =>
    subst hk
    rw [exec_tmrExpiry, mapDev_of_eq s _ (tmrExpiry_of_not_due hd)]
  case count =>
    exact ⟨_, exec_tmrCountRead c n s, by simp [tmrCountRead_of_runs h], by simp [tmrCountRead_of_runs h]⟩
  case snapshot =>
    exact ⟨_, exec_timeSnapshotLoad c s, by simp [timeSnapshotLoad_of_runs h], by simp [timeSnapshotLoad_of_runs h]⟩
  case push =>
    exact ⟨_, exec_mbxOutPush c v s, by simp [mbxOutPush_of_room h v hq]⟩
  case full =>
    exact ⟨_, exec_mbxOutPush c v s, by simp [mbxOutPush_of_full h v hq], by simp [mbxOutPush_of_full h v hq]⟩
  case empty =>
    rw [exec_mbxInPop, State.mapDev, mbxInPop_of_empty h hq, State.mapDev]
  case pop =>
    refine ⟨_, exec_mbxInPop c s, ?_⟩
    rw [mapDev_dev, mbxInPop_of_cons h hq]
    refine ⟨?_, ?_, ?_⟩
    · simp
    · rw [reportLost_lost]
      simpa using hr
    · rw [reportLost_inq]
      · simp
      · simpa using hr
  case take =>
    refine ⟨_, exec_mbxOutTake c s, mbxOutTake_outq hp hq, fun hm => ?_, fun hm => ?_, fun hm hr => ?_, fun hm hr => ?_⟩
    · rw [mapDev_dev, mbxOutTake_post hp hq hm]
      exact ⟨hostPost_seq .., hostPost_posts_getLast? ..⟩
    · simp [mbxOutTake_notify hp hq hm]
    · rw [mapDev_dev, mbxOutTake_ping hp hq hm, mbxIn_of_room _ (by simpa using hr)]
      simp
    · rw [mapDev_dev, mbxOutTake_unknown hp hq hm, mbxIn_of_room _ (by simpa using hr)]
      simp
  case fault =>
    refine ⟨_, exec_customerAccessFault c st n s, ?_⟩
    simp only [mapDev_dev, h, if_true]
    exact ⟨accessFault_faults .., accessFault_out ..⟩
  case idle =>
    rw [exec_mbxOutTake, mapDev_of_eq s _ (mbxOutTake_idle h)]

end Sys2Proof.Machine
end
